-- ==== Sys2Proof/Word.lean ====
section
/-!
DEFINITION. The words of the spec (R9) and the type of sparse tables: a list of (key, value) pairs.
-/

namespace Sys2Proof

/-- 8 bits. -/
abbrev Byte := BitVec 8
/-- 16 bits, a half-word. -/
abbrev Half := BitVec 16
/-- 32 bits, the width of a register (R9). -/
abbrev Word := BitVec 32
/-- 64 bits, a register pair (R18). -/
abbrev DWord := BitVec 64

/-- A sparse table by number: keys strictly rising, no entry equal to the table's default. -/
abbrev FMap (α : Type) := List (Nat × α)

end Sys2Proof
end

