-- ==== Sys2Proof/Syntax.lean ====
section
/-!
DEFINITION. The commands the block takes: one constructor of `Instr` per row of spec/opcode_table.json, with the
outside inputs of its event as operands. Times `t` are device times in ns (R30).
-/

namespace Sys2Proof

/-- The access path of a register access (R15, R403, R407): BAR0 of the PCIe endpoint, BAR2, or the SPI port. -/
inductive Port where
  | bar0 | bar2 | spi
deriving DecidableEq, Repr

/-- What an instruction of the tile core meets from outside: stalled cycles before it issues (R330, TC_STALL), an ECC
error of its fetch (0 none, 1 corrected and 2 uncorrectable in instruction memory, 3 corrected and 4 uncorrectable in the
register file, R325), an ECC error of its scratchpad or mailbox read (0 none, 1 corrected, 2 uncorrectable, R269, R445), one
of the queue that carries it to its unit (as before, R445), the entries that other traffic takes of the tile core → mesh
queue (R354), and exceptions that threads of its instance raise on other tiles in the same cycle, as (tile, code, the error
at that fetch) (R367). -/
structure TEnv where
  /-- stalled cycles -/
  stall : Nat := 0
  /-- error at the fetch -/
  ecc : Nat := 0
  /-- error at the scratchpad or mailbox read -/
  dataEcc : Nat := 0
  /-- error in the queue to the unit -/
  queueEcc : Nat := 0
  /-- entries of the tile core → mesh queue taken by other traffic -/
  queued : Nat := 0
  /-- exceptions on other tiles in the same cycle -/
  peers : List (Nat × Nat × Nat) := []
deriving DecidableEq, Repr

/-- R format (R331). -/
structure RFmt where
  /-- the tile whose core issues it -/
  tile : Nat
  /-- RD -/
  rd : BitVec 5 := 0#5
  /-- RA -/
  ra : BitVec 5 := 0#5
  /-- RB -/
  rb : BitVec 5 := 0#5
  /-- what it meets -/
  env : TEnv := {}
deriving DecidableEq, Repr

/-- I format (R331). -/
structure IFmt where
  /-- the tile whose core issues it -/
  tile : Nat
  /-- RD -/
  rd : BitVec 5 := 0#5
  /-- RA -/
  ra : BitVec 5 := 0#5
  /-- IMM16 -/
  imm : Half := 0#16
  /-- what it meets -/
  env : TEnv := {}
deriving DecidableEq, Repr

/-- M format (R331). -/
structure MFmt where
  /-- the tile whose core issues it -/
  tile : Nat
  /-- RD of a load, RS of a store -/
  rd : BitVec 5 := 0#5
  /-- RA -/
  ra : BitVec 5 := 0#5
  /-- H, the binding -/
  h : BitVec 3 := 0#3
  /-- IMM13 -/
  imm : BitVec 13 := 0#13
  /-- what it meets -/
  env : TEnv := {}
deriving DecidableEq, Repr

/-- B format (R331). -/
structure BFmt where
  /-- the tile whose core issues it -/
  tile : Nat
  /-- RA -/
  ra : BitVec 5 := 0#5
  /-- RB -/
  rb : BitVec 5 := 0#5
  /-- OFF16, signed words -/
  off : Half := 0#16
  /-- what it meets -/
  env : TEnv := {}
deriving DecidableEq, Repr

/-- J format (R331). -/
structure JFmt where
  /-- the tile whose core issues it -/
  tile : Nat
  /-- RD -/
  rd : BitVec 5 := 0#5
  /-- OFF21, signed words -/
  off : BitVec 21 := 0#21
  /-- what it meets -/
  env : TEnv := {}
deriving DecidableEq, Repr

/-- V format (R331); FN is an operand of VCMP and VCVT only. -/
structure VFmt where
  /-- the tile whose core issues it -/
  tile : Nat
  /-- VD -/
  vd : BitVec 4 := 0#4
  /-- VA -/
  va : BitVec 4 := 0#4
  /-- VB -/
  vb : BitVec 4 := 0#4
  /-- M -/
  m : Bool := false
  /-- PG -/
  pg : BitVec 2 := 0#2
  /-- W -/
  w : BitVec 2 := 0#2
  /-- FN of VCMP and VCVT -/
  fn : BitVec 9 := 0#9
  /-- what it meets -/
  env : TEnv := {}
deriving DecidableEq, Repr

/-- X format (R331). -/
structure XFmt where
  /-- the tile whose core issues it -/
  tile : Nat
  /-- RS -/
  rs : BitVec 5 := 0#5
  /-- V1 -/
  v1 : BitVec 4 := 0#4
  /-- V2 -/
  v2 : BitVec 4 := 0#4
  /-- M -/
  m : Bool := false
  /-- PG -/
  pg : BitVec 2 := 0#2
  /-- W -/
  w : BitVec 2 := 0#2
  /-- what it meets -/
  env : TEnv := {}
deriving DecidableEq, Repr

/-- G format (R331). -/
structure GFmt where
  /-- the tile whose core issues it -/
  tile : Nat
  /-- VD -/
  vd : BitVec 4 := 0#4
  /-- H, the binding -/
  h : BitVec 3 := 0#3
  /-- RA -/
  ra : BitVec 5 := 0#5
  /-- RB -/
  rb : BitVec 5 := 0#5
  /-- W -/
  w : BitVec 2 := 0#2
  /-- what it meets -/
  env : TEnv := {}
deriving DecidableEq, Repr

/-- What the drain of a pass meets (R239, R256, R258, R269): how many bytes of it are written so far, if it is not at its
end; cycles waited since the last such event, but for the conflicts of its own gathers (R266); ECC errors of the accumulators
and of its scratchpad reads. -/
structure PassIn where
  /-- the tile -/
  tile : Nat
  /-- cycles waited for a block -/
  waitWeight : Nat := 0
  /-- cycles waited for an activation vector -/
  waitAct : Nat := 0
  /-- a corrected accumulator error -/
  accCorr : Bool := false
  /-- an uncorrectable accumulator error -/
  accUncorr : Bool := false
  /-- a corrected scratchpad error -/
  spmCorr : Bool := false
  /-- an uncorrectable scratchpad error -/
  spmUncorr : Bool := false
  /-- bytes drained so far; none at its end -/
  upTo : Option Nat := none
deriving DecidableEq, Repr

/-- The outcome of the bow lanes and the window for an arriving page (R299, R320): corrected errors, an uncorrectable lane
error, an uncorrectable window error. -/
structure LaneIn where
  /-- corrected errors -/
  corr : Nat := 0
  /-- an uncorrectable error on a lane -/
  laneBad : Bool := false
  /-- an uncorrectable error in the window slot -/
  slotBad : Bool := false
deriving DecidableEq, Repr

/-- The request that met an uncorrectable DRAM error (R610): none, a part or head read of a tile, a restore of a tile, the
fetch of a page, a frame-store access of a stream, the write of a spill slot, the loader's archive write, the host DMA
read. -/
inductive DramClient where
  | own
  | partRead (tile : Nat)
  | restore (tile : Nat)
  | bow (net page : Nat)
  | intake (stream : Nat)
  | spill (slot : Nat)
  | loader
  | hdma
deriving DecidableEq, Repr


/-- What a capo meets in its checks (R43, R69, R254, R454): the CRC-64 of each sentinel sub-pass that ended with a value of its
own (tile, sub-pass 0 D, 1 T, 2 F, CRC), the tiles that missed a step, a step missed by no tile of its own, the tiles whose
injected sentinel fault the checker leaves unseen, and whether another injected capo fault stays unseen. -/
structure CapoIn where
  /-- (tile, sub-pass, CRC-64) -/
  sentinel : List (Nat × Nat × DWord) := []
  /-- tiles late for a step -/
  lateTiles : List Nat := []
  /-- a step late with no tile of its own -/
  lateStep : Bool := false
  /-- tiles whose sentinel injection stays unseen -/
  silent : List Nat := []
  /-- a CAPO or FORCE injection stays unseen -/
  silentStep : Bool := false
deriving DecidableEq, Repr

/-- The header of a CSI-2 packet as it is received (R154, R170): one bit corrected; the port queue is full. -/
structure CsiHdr where
  /-- one bit corrected -/
  corr : Bool := false
  /-- the port queue is full -/
  full : Bool := false
deriving DecidableEq, Repr

/-- A CSI-2 long packet (R154 to R158): its payload without the footer, and whether the footer's CRC holds. -/
structure CsiPkt where
  /-- the receiver -/
  port : Nat
  /-- virtual channel -/
  vc : Nat
  /-- data type -/
  dt : Nat
  /-- payload -/
  data : List Byte
  /-- the payload CRC holds -/
  crcOk : Bool := true
  /-- its header -/
  hdr : CsiHdr := {}
  /-- ingress timestamp -/
  t : Nat := 0
deriving DecidableEq, Repr

/-- Packets that are discarded whatever they hold (R154, R155). -/
inductive CsiDiscard where
  | generic | null | blanking | headerError
deriving DecidableEq, Repr

/-- An Ethernet frame from its destination address to the byte before its FCS (R160). -/
structure EthIn where
  /-- the MAC -/
  port : Nat
  /-- the frame without its FCS -/
  data : List Byte
  /-- the FCS holds -/
  fcsOk : Bool := true
  /-- the port queue is full -/
  full : Bool := false
  /-- ingress timestamp -/
  t : Nat := 0
deriving DecidableEq, Repr

/-- A 10BASE-T1S frame without its FCS (R166). -/
structure T1sIn where
  /-- the port -/
  port : Nat
  /-- the frame without its FCS -/
  data : List Byte
  /-- the FCS holds -/
  fcsOk : Bool := true
  /-- ingress timestamp -/
  t : Nat := 0
deriving DecidableEq, Repr

/-- A Sync with its Follow_Up (R179, R180): its domain, whether it is one-step, the grandmaster's time in its origin
timestamp and correction field in ns, the device time it was received at, and the measured rate ratio of the grandmaster
to PLL_T, less 1, in ppb. -/
structure SyncIn where
  /-- domain -/
  domain : Nat := 0
  /-- one-step -/
  oneStep : Bool := false
  /-- origin plus correction, ns -/
  origin : Nat
  /-- reception, device time -/
  t : Nat
  /-- rate ratio less 1, ppb -/
  ppb : Int := 0
deriving DecidableEq, Repr

/-- How the PCIe endpoint is reset (R94). -/
inductive PcieRst where
  | perst | hotReset | flr
deriving DecidableEq, Repr

/-- A register of the configuration space of R400 that a request names. -/
inductive CfgReg where
  | command | status | cacheLine | intLine | bar0Lo | bar0Hi | bar2Lo | bar2Hi | capPtr | pmc | pmcsr | pcieCap | devCap | devCtl
  | devSta | linkCap | linkCtl | linkSta | devCap2 | devCtl2 | linkCap2 | linkCtl2
  | aer (offset : Nat)
  | other (offset : Nat)
deriving DecidableEq, Repr

/-- A configuration request (R403): a read, or a write of a value to the register's bytes. -/
structure CfgIn where
  /-- a write -/
  write : Bool := false
  /-- the register -/
  reg : CfgReg
  /-- the value written -/
  value : Word := 0#32
deriving DecidableEq, Repr

/-- What xSPI reset and SFDP discovery find (R115, R116). -/
structure SfdpIn where
  /-- the SFDP signature is there -/
  signature : Bool := true
  /-- the revision is JESD216D or later -/
  revOk : Bool := true
  /-- DWORDs of the BFPT -/
  bfptDwords : Nat := 20
  /-- density in MiB -/
  densityMiB : Nat := 64
  /-- a 64 KiB erase type is listed -/
  erase64k : Bool := true
  /-- table 0xFF05 is there -/
  ff05 : Bool := true
  /-- table 0xFF0A is there -/
  ff0a : Bool := true
  /-- maximum clock in the Profile 1.0 table, MHz -/
  maxMhz : Nat := 200
  /-- maximum page program time in us, rounded up -/
  tppUs : Nat := 30
deriving DecidableEq, Repr

/-- The header and directory bytes read from each copy (R112, R118), none where the read failed or was not made. -/
structure HeaderIn where
  /-- header of the primary copy -/
  primary : Option (List Byte) := none
  /-- directory of the primary copy -/
  primaryDir : Option (List Byte) := none
  /-- header of the alternate copy -/
  alternate : Option (List Byte) := none
  /-- directory of the alternate copy -/
  alternateDir : Option (List Byte) := none
deriving DecidableEq, Repr

/-- The bytes of the section under way as read from its source, and from the alternate copy where R145 reads them; none where
the device failed the read three times (R143). -/
structure SectionIn where
  /-- as read from its source -/
  data : Option (List Byte) := none
  /-- as read from the alternate copy -/
  alt : Option (List Byte) := none
deriving DecidableEq, Repr

/-- A bring-up step with a bound (R608). -/
inductive Bringup where
  | xspi | emmc
  | dphy (port : Nat)
  | dram
deriving DecidableEq, Repr

/-- A received flit (R465), its CRC good: its TYPE is the command's. -/
structure FlitIn where
  /-- SEQ -/
  seq : Byte := 0#8
  /-- ACK -/
  ack : Byte := 0#8
  /-- LFLAGS -/
  lflags : Byte := 0#8
  /-- PAYLOAD, 26 bytes -/
  payload : List Byte := []
  /-- the CRC received; none for the one that holds -/
  crc : Option Half := none
  /-- reception, device time -/
  t : Nat := 0
deriving DecidableEq, Repr

/-- The paths of the Hoist (R526 to R528). -/
inductive HPath where
  | sc | host | service
deriving DecidableEq, Repr

/-- A command body of the Hoist (R529): its path, TAG, MODULE and argument bytes. -/
structure HCmd where
  /-- the path -/
  path : HPath
  /-- COUNTER of its CAN FD frame (the safety controller's path only, R526) -/
  counter : Byte := 0#8
  /-- TAG -/
  tag : Byte := 0#8
  /-- MODULE: 0 to 3, or 0xFF -/
  slot : Nat := 0xFF
  /-- the argument -/
  args : List Byte := []
deriving DecidableEq, Repr

/-- A module's registers as the Hoist reads them (R519). -/
structure HReading where
  /-- the module answered the last read -/
  answered : Bool := false
  /-- SYS_TEMP.TEMP_MAX -/
  temp : Half := 0#16
  /-- RDY_STATUS -/
  rdy : Word := 0#32
  /-- PRD_COUNT -/
  count : Word := 0#32
  /-- PRD_LENGTH, us -/
  length : Nat := 0
  /-- SYS_MON_STATUS -/
  mon : Word := 0#32
  /-- CRS_LINK_STATUS of link 0 -/
  link0 : Word := 0#32
  /-- CRS_LINK_STATUS of link 1 -/
  link1 : Word := 0#32
  /-- SCH_ABSENT -/
  absent : Word := 0#32
  /-- PEN_CUR0 -/
  pen0 : Word := 0#32
  /-- CRS_FENCE of the module -/
  fence : BitVec 2 := 0#2
  /-- SCH_CLASS_EN of the module -/
  classEn : BitVec 4 := 0b1111#4
  /-- T_FLUSH of EVR_TPP -/
  tflushUs : Option Nat := none
  /-- SYS_ID.GRADE (R537) -/
  grade : Nat := 0x10
  /-- SYS_STRAPS.MOD_POS (R537) -/
  pos : Nat := 0
deriving DecidableEq, Repr

/-- What the Hoist samples of a slot every 1 ms (R516, R519). -/
structure HSlotIn where
  /-- VIN, 10 mV -/
  vin : Nat := 0
  /-- IIN, 10 mA -/
  iin : Nat := 0
  /-- M_PGOOD -/
  pgood : Bool := false
  /-- M_PRSNT_N -/
  prsntN : Bool := true
  /-- M_THERM_SHDN_N -/
  thermN : Bool := true
  /-- the slot latch is closed (R537) -/
  latch : Bool := true
deriving DecidableEq, Repr

/-- The 1 ms sample of the tray (R519). -/
structure RailIn where
  /-- VMAIN, 10 mV -/
  vmain : Nat := 0
  /-- IMAIN, 10 mA -/
  imain : Nat := 0
  /-- slots 0 to 3 -/
  slots : List HSlotIn := []
  /-- the modules' registers as a running action reads them (R536, R537), or none read -/
  reads : List HReading := []
deriving DecidableEq, Repr

/-- The 100 us sample of the link and SAFE_TOGGLE pins (R519): M_CRS0_UP, M_CRS1_UP and M_SAFE_TOGGLE of slots 0 to 3. -/
structure LinkPinIn where
  /-- the levels -/
  slots : List (Bool × Bool × Bool) := []
deriving DecidableEq, Repr

/-- The commands: one constructor per row of the table. An operand with a default value is one that most uses leave at it (a
read of four bytes, a lane with no error, a host that grants credit); the meaning takes every value of it. -/
inductive Instr where
  /-- COLD_START (R93). VDD_AON rises from below 0.60 V: the always-on domain and recorder are cleared and the main domain is reset. -/
  | coldStart
  /-- BROWNOUT (R80). A main-domain rail falls below its power-on reset threshold: the main domain is held in reset and BROWNOUT is recorded. -/
  | brownout
  /-- PIN_RESET (R93). RESET_N is seen low: a full pin reset of the main domain. -/
  | pinReset
  /-- SOFT_RESET (R95). A keyed P-view write of SYS_RST_CTRL.SOFT resets the main domain 1 µs later, or after a running flush commits. -/
  | softReset (path : Port) (value : Word)
  /-- SOFT_RESET_HOLD_EXPIRY (R95). The 8 always-on cycles of the soft reset hold end. -/
  | softResetHoldExpiry
  /-- INTERNAL_RESET_RELEASE (R93). All release conditions hold in a reference cycle: the main domain leaves reset, the straps are sampled and STARTS increments. -/
  | internalResetRelease (straps : BitVec 9)
  /-- PLL_LOCK (R89). Every PLL has locked: CLOCKS, MGMT and TIMEBASE set, and device time starts at 0. -/
  | pllLock
  /-- PWR_FAIL_N_FALL (R500). A falling edge on PWR_FAIL_N writes the PWR_FAIL entry and begins the recorder flush. -/
  | pwrFailNFall
  /-- FLUSH_DONE (R501). The COMMIT program completes: FLUSH_DONE is written, the bus is released and the loader resumes. -/
  | flushDone
  /-- FLASH_OP_ABANDON (R514). A flash program exceeds 4 × t_PP, or an erase exceeds 4 s: the operation is abandoned and SLOT_FAULT is set. -/
  | flashOpAbandon
  /-- RECORDER_REARM (R508). PWR_FAIL_N has been high for 10 ms after a flush: the older slot becomes the target and is armed. -/
  | recorderRearm
  /-- SLOT_ERASE_DONE (R508). The erase of the target slot completes and the slot is read again, giving ARMED or SLOT_FAULT. -/
  | slotEraseDone (blank : Bool)
  /-- EVENT_ENTRY_WRITE (R495). The recorder writes the next queued event into the retention ring, or counts it lost or suppressed. -/
  | eventEntryWrite (upsets : List (Nat × Nat) := [])
  /-- WAKE_RISE (R87). WAKE held high for two always-on cycles ends retention standby, and PWR_EN_MAIN rises. -/
  | wakeRise (passed : Bool)
  /-- STANDBY_REQUEST (R86). A keyed write of SYS_PWR_CTRL.STANDBY requests retention standby. -/
  | standbyRequest (path : Port) (value : Word)
  /-- SUPPLY_MONITOR_CROSS (R79). A rail stays past a comparator threshold beyond the filter: the event bit is set and, outside a capo, a SUPPLY_DROOP abort starts. -/
  | supplyMonitorCross (bit : Nat) (t : Nat) (a : CapoIn)
  /-- SUPPLY_CONDITION_CLEAR (R79). Every rail has been inside its thresholds for 10 µs, so the supply condition clears. -/
  | supplyConditionClear (t : Nat)
  /-- PLL_LOCK_LOSS (R81). A checked PLL's lock detector reports a loss: the event bit is set and a CLOCK_LOSS abort starts. -/
  | pllLockLoss (pll : Nat) (t : Nat) (a : CapoIn)
  /-- PLL_FREQ_WINDOW_END (R81). A window of 256 reference cycles ends; a count that is more than 1 % off is flagged as a clock condition. -/
  | pllFreqWindowEnd (off : BitVec 5) (t : Nat) (a : CapoIn)
  /-- REFERENCE_LOSS (R81). No reference edge is seen in two always-on cycles: the reference is lost, and PLLs hold their last setting. -/
  | referenceLoss (t : Nat) (a : CapoIn)
  /-- CLOCK_CONDITION_CLEAR (R81). Every PLL has been locked and in range for two whole windows, so the clock condition clears. -/
  | clockConditionClear (t : Nat)
  /-- DDR_PLL_LOCK_LOSS (R82). An LPDDR5X channel PLL loses lock: a CLOCK_LOSS abort, and the channel is out of service for the rest of the start. -/
  | ddrPllLockLoss (chan : Nat) (t : Nat) (a : CapoIn)
  /-- PCIE_SERDES_PLL_LOSS (R82). The PCIe SerDes PLL loses lock and the link leaves L0. -/
  | pcieSerdesPllLoss
  /-- COURSE_TX_PLL_LOSS (R82). A Course link transmit PLL loses lock and its link goes DOWN with cause 0x04. -/
  | courseTxPllLoss (link : Nat)
  /-- TEMP_SAMPLE (R84). All temperature sensors are sampled every 10 µs; the sample drives THERM_WARN, THERM_TRIP, its clearing and THERM_SHDN_N. -/
  | tempSample (milliC : List Int) (t : Nat) (a : CapoIn)
  /-- PRD_ABORT (R57). A P-view write of 1 to PRD_CTRL.ABORT requests a HOST_REQUEST period abort, or is discarded with ABORT_DISCARD. -/
  | prdAbort (path : Port) (value : Word) (t : Nat) (a : CapoIn)
  /-- LOCK_WAIT_EXPIRY (R32). Under WAIT_LOCK, LOCK_WAIT expires without lock: the generator starts as for FREE and sets LOCK_TIMEOUT. -/
  | lockWaitExpiry
  /-- BOUNDARY (R43). Device time reaches a grid point and the capo runs steps 1 to 10. -/
  | boundary (a : CapoIn)
  /-- CAPO_RELEASE (R43). At B + 12.000 µs the jobs of the new slot become eligible and the allocator resumes, or the period is aborted at release. -/
  | capoRelease
  /-- SCRUB_FRET_DONE (R286). The scrubber finishes zeroing a DIRTY fret, which becomes FREE. -/
  | scrubFretDone (tile : Nat)
  /-- JOB_BIND (R375). At B + release offset an instance binds its input frames and enters WAIT_INPUT, or reaches r at once. -/
  | jobBind (job : Nat)
  /-- ADMISSION_DECISION (R377). The admission engine takes one decision, admitting, deferring or shedding a candidate. -/
  | admissionDecision (t : Nat)
  /-- LATEST_START_RETEST (R381). A deferred instance reaches its latest start and is tested again. -/
  | latestStartRetest (job : Nat)
  /-- DISPATCH (R383). A free gang dispatches the head of its dispatch order to every tile of the tile set. -/
  | dispatch (gang : Nat) (t : Nat)
  /-- OVERRUN_START (R378). A running instance exceeds its planned time W: it becomes overrunning and SCH_OVERRUNS increments. -/
  | overrunStart (job : Nat)
  /-- DEADLINE_KILL (R385). At its deadline d an unended instance is killed on every tile and ends LATE. -/
  | deadlineKill (job : Nat)
  /-- CSI_FS (R156). A CSI-2 Frame Start opens a new frame on every stream of its virtual channel. -/
  | csiFs (port vc frame : Nat) (t : Nat) (h : CsiHdr)
  /-- CSI_FE (R156). A CSI-2 Frame End is the EOF of every open frame on its virtual channel. -/
  | csiFe (port vc frame : Nat) (t : Nat) (h : CsiHdr)
  /-- CSI_LS (R158). A CSI-2 Line Start supplies the line number for the next long packet of each stream of its VC. -/
  | csiLs (port vc line : Nat) (h : CsiHdr)
  /-- CSI_LE (R154). A CSI-2 Line End packet is received. -/
  | csiLe (port vc line : Nat) (h : CsiHdr)
  /-- CSI_LONG_PACKET (R157). A CSI-2 long packet is checked, matched to a stream and placed in its landing ring, or discarded and counted. -/
  | csiLongPacket (a : CsiPkt)
  /-- CSI_DISCARD_PACKET (R155). A generic short, null or blanking packet, or a header with an uncorrectable error, is discarded. -/
  | csiDiscardPacket (port : Nat) (kind : CsiDiscard) (hdr : CsiHdr := {})
  /-- ETH_FRAME (R161). An Ethernet frame that passes its FCS is classified by EtherType and handed on, or counted and discarded. -/
  | ethFrame (a : EthIn)
  /-- SEGMENT (R164). A segment of a 1722, UDP or 10BASE-T1S stream opens, extends or closes a frame and places its lines. -/
  | segment
  /-- T1S_FRAME (R167). A 10BASE-T1S frame is matched on the node ID of its transmit opportunity. -/
  | t1sFrame (a : T1sIn)
  /-- PLCA_OPPORTUNITY_EXPIRY (R167). A silent node's 3.2 µs transmit opportunity timer expires and the next opportunity, or a BEACON, follows. -/
  | plcaOpportunityExpiry (port : Nat)
  /-- PLCA_RECOVERY (R168). A collision, an overlong reception or a foreign BEACON starts PLCA recovery. -/
  | plcaRecovery (port : Nat) (collision : Bool)
  /-- PLCA_RECOVERY_SILENCE_END (R168). After 32 µs of bus silence the coordinator sends a new BEACON. -/
  | plcaRecoverySilenceEnd (port : Nat)
  /-- ETH_LINK_UP (R188). A USXGMII link comes up and the port regains readiness. -/
  | ethLinkUp (port rate : Nat)
  /-- ETH_LINK_DOWN (R188). A USXGMII link goes down and the port loses readiness. -/
  | ethLinkDown (port : Nat)
  /-- DPHY_CALIBRATION_DONE (R608). D-PHY calibration of a CSI-2 receiver completes, or fails at its bound. -/
  | dphyCalibrationDone (port : Nat) (ok : Bool)
  /-- FRAME_WINDOW_END (R174). The frame window of an open frame ends at a boundary, and the frame completes without EOF. -/
  | frameWindowEnd (stream : Nat)
  /-- LINE_CHECK (R202). A landed line is fed to its check-value unit once the unit is claimed, then verified and converted. -/
  | lineCheck (stream waited : Nat) (ecc : Option Nat)
  /-- BAND_BUILD (R212). A band whose rows are present is built, tagged, cut into parts and written to the frame store. -/
  | bandBuild (stream level band : Nat)
  /-- FRAME_COMPLETION (R218). The frame's last part is written and its head is settled as DELIVERED, DELIVERED_DEGRADED or DROPPED. -/
  | frameCompletion (stream t : Nat)
  /-- FRAME_STORE_RESERVE (R216). At the latest of DRAM readiness, load step 6 and the ALLOC check, three frame stores are reserved per stream. -/
  | frameStoreReserve
  /-- GPTP_SYNC (R180). A two-step Sync with Follow_Up updates the epoch, the rate and the lock state. -/
  | gptpSync (a : SyncIn)
  /-- GPTP_ANNOUNCE (R179). An Announce message updates the grandmaster identity and the receipt timeout. -/
  | gptpAnnounce (domain : Nat) (gm : DWord)
  /-- PDELAY_REQ_TIMER (R179). Every 1 s the DZ sends Pdelay_Req on Ethernet port 0. -/
  | pdelayReqTimer
  /-- PDELAY_REQ_RECEIVED (R179). A received Pdelay_Req is answered with Pdelay_Resp and Pdelay_Resp_Follow_Up. -/
  | pdelayReqReceived (domain : Nat) (seq : Half) (source : List Byte) (t1 t2 : Nat)
  /-- PDELAY_RESP_RECEIVED (R179). A Pdelay_Resp and its follow-up update the mean link delay. -/
  | pdelayRespReceived (seq : Half) (t1 t2 t3 t4 : Nat)
  /-- SYNC_RECEIPT_TIMEOUT (R181). No valid Sync pair arrives for 3 intervals, or Announce receipt times out: the timebase leaves LOCKED for HOLDOVER. -/
  | syncReceiptTimeout (announce : Bool)
  /-- PASS_START (R235). The array takes a descriptor from its queue, checks it and starts the pass, or rejects it. -/
  | passStart (tile : Nat)
  /-- PASS_COMPLETE (R243). A pass's drain finishes and its completion toggle and status word are returned. -/
  | passComplete (a : PassIn)
  /-- MEMOP_COMPLETE (R275). The memory engine completes a FILL or COPY. -/
  | memopComplete (tile ecc : Nat)
  /-- ALLOC_REQUEST_DECISION (R280). The allocator decides the head request of a tile: it grants, refuses or chooses victims. -/
  | allocRequestDecision (tile t : Nat)
  /-- SPILL_COMPLETE (R314). The spill copy of a victim fret is accepted by the controller, and the fret becomes DIRTY. -/
  | spillComplete (tile ecc : Nat)
  /-- RESTORE_COMPLETE (R315). A restored slot passes or fails its CRC; the place is remapped, or the owner ends FAULT_TILE. -/
  | restoreComplete (tile : Nat)
  /-- FRET_AGE_TICK (R281). Every 4,096 mesh cycles each fret's age advances, saturating at 255. -/
  | fretAgeTick
  /-- PAGE_STAGED (R305). A fetched page is whole in staging and its CHECK is verified: the page is ready, retried or poisoned. -/
  | pageStaged (net page busy : Nat) (damaged : Bool)
  /-- PAGE_INJECT (R305). A ready page is injected at a band root once the trunk is free. -/
  | pageInject (net page : Nat)
  /-- PAGE_USABLE (R299). A page's window check completes at a subscriber and the page becomes usable. -/
  | pageUsable (tile net page : Nat) (lane : LaneIn)
  /-- PAGE_FREE (R304). A marked page becomes unpinned with its forwarding done, and its slot is freed. -/
  | pageFree (tile page : Nat) (next : Bool)
  /-- PART_READ_DONE (R311). The pager writes a part or head into the target fret and completes the P ticket, or writes nothing and reports TARGET. -/
  | partReadDone (tile busy : Nat)
  /-- DRAM_REFRESH (R312). The controller issues the next per-bank refresh at its interval. -/
  | dramRefresh (chan hits : Nat)
  /-- DRAM_TRAINING_DONE (R98). DRAM training completes or fails on every channel. -/
  | dramTrainingDone (ok : Bool) (capacityMiB : Nat)
  /-- DRAM_UNCORR_ERROR (R610). The DRAM controller reports an uncorrectable error against the request that met it. -/
  | dramUncorrError (who : DramClient)
  /-- MSG_ARRIVE (R355). A message reaches its destination mailbox, or is returned because the mailbox is full. -/
  | msgArrive (src dst mbox : Nat) (ecc : Nat := 0)
  /-- MSG_RETRY (R356). A returned message is sent again 64 mesh cycles later. -/
  | msgRetry (tile : Nat)
  /-- WDOG_EXPIRE (R364). The watchdog budget runs out and WDOG is raised. -/
  | wdogExpire (tile : Nat)
  /-- RECORD_TAKE (R416). The ring engine takes a record and places, drops or refuses it. -/
  | recordTake (t : Nat)
  /-- RECORD_COMMIT (R416). A record's last byte is handed to PCIe, and its ticket completes. -/
  | recordCommit (ring t : Nat) (credit : Bool := true)
  /-- PAGE_PUBLISH (R417). A closed page with no pending records publishes its head, increments PROD and writes the mirror entry. -/
  | pagePublish (ring : Nat)
  /-- SUMMARY_PLACE (R425). A STALLED ring that has room again places and publishes its summary record. -/
  | summaryPlace (ring t : Nat)
  /-- WRITE_STALL_BEGIN (R426). A posted write unaccepted for 50 µs begins a write stall, abandoning open pages. -/
  | writeStallBegin (t : Nat)
  /-- WRITE_STALL_END (R426). Posted writes flow again with the queue empty: a full rewrite follows. -/
  | writeStallEnd (t : Nat)
  /-- HDMA_DONE (R428). A host DMA transfer ends DONE or with an error code. -/
  | hdmaDone
  /-- PCIE_RESET (R94). PERST, a hot reset or a function level reset resets the endpoint only. -/
  | pcieReset (kind : PcieRst)
  /-- PCIE_LINK_L0 (R98). The PCIe link reaches L0 and PCIE sets. -/
  | pcieLinkL0
  /-- PCIE_LINK_LEAVE_L0 (R98). The PCIe link leaves L0 and PCIE clears. -/
  | pcieLinkLeaveL0
  /-- PCIE_CONFIG_REQUEST (R403). A configuration request is served by the endpoint. -/
  | pcieConfigRequest (a : CfgIn)
  /-- PCIE_UNSUPPORTED_REQUEST (R403). A request of another type, or a memory request in D3hot, completes with Unsupported Request. -/
  | pcieUnsupportedRequest (posted : Bool := false)
  /-- REGISTER_WRITE (R558). A write to a register that has no row of its own takes effect in its block's domain. -/
  | registerWrite (path : Port) (addr : Nat) (value : DWord) (bytes : Nat)
  /-- W1C_WRITE (R429). A W1C write clears bits; a bit set in the same cycle stays set and the overlap counter increments. -/
  | w1cWrite (path : Port) (addr : Nat) (value : Word) (setNow : Word)
  /-- RC_READ (R17). A read of an RC field returns and then clears it, for every path. -/
  | rcRead (path : Port) (addr : Nat) (bytes : Nat := 4)
  /-- RSL_LOW_READ (R17). A read of an RSL low word latches the high word for the path. -/
  | rslLowRead (path : Port) (addr : Nat) (bytes : Nat := 4)
  /-- SPI_READ (R408). A management SPI READ transaction performs 1 to 16 P-view reads. -/
  | spiRead (mosi : List Byte) (done : Nat)
  /-- SPI_WRITE (R408). A management SPI WRITE transaction performs 1 to 16 P-view writes. -/
  | spiWrite (mosi : List Byte) (done : Nat)
  /-- SPI_UNKNOWN_CMD (R408). A transaction with an unknown CMD byte is answered BAD_REQUEST, or CRC_ERR, and touches nothing. -/
  | spiUnknownCmd (mosi : List Byte)
  /-- PRD_DIG_SEL_WRITE (R68). A write to PRD_DIG_SEL clears VALID at once and applies at the next release. -/
  | prdDigSelWrite (path : Port) (value : Word)
  /-- PRD_DIG_LAYER_WRITE (R68). A write to PRD_DIG_LAYER clears VALID at once and applies at the next release. -/
  | prdDigLayerWrite (path : Port) (value : Word)
  /-- RING_RUN_START (R413). RING_CTRL.RUN changes from 0 to 1: the counters reset and the mirror entry is written. -/
  | ringRunStart (path : Port) (ring : Nat) (value : Word)
  /-- RING_RUN_STOP (R413). RING_CTRL.RUN changes from 1 to 0: the open page closes and is published. -/
  | ringRunStop (path : Port) (ring : Nat) (value : Word)
  /-- RING_BASE_WRITE (R413). A write to RING_BASE is taken, or ignored with BASE_IGNORED while RUN is 1. -/
  | ringBaseWrite (path : Port) (ring : Nat) (hi : Bool) (value : Word)
  /-- RING_CONS_WRITE (R432). A write to RING_CONS gives pages back, or is ignored with BAD_CONS. -/
  | ringConsWrite (path : Port) (ring : Nat) (value : Word)
  /-- RING_MIRROR_WRITE (R412). A write to RING_MIRROR that enables the mirror, or moves it while enabled, causes a full rewrite. -/
  | ringMirrorWrite (path : Port) (hi : Bool) (value : Word)
  /-- SCH_CLASS_EN_WRITE (R390). A P-view write enables or disables classes 1 to 3 from the next release. -/
  | schClassEnWrite (path : Port) (value : Word)
  /-- SCH_ABSENT_FORCE_WRITE (R391). A P-view write sets the forced bits of the absent set. -/
  | schAbsentForceWrite (path : Port) (value : Word)
  /-- LINK_FENCE (R488). A write of 1 to a CRS_FENCE bit fences that link within 1 µs. -/
  | linkFence (path : Port) (link : Nat)
  /-- LINK_UNFENCE (R488). A write of 0 to a CRS_FENCE bit removes the fence and training starts again. -/
  | linkUnfence (path : Port) (link : Nat)
  /-- INJECTION_START (R453). A keyed write of SAF_INJ_CTRL.START arms the selected injection, or refuses it. -/
  | injectionStart (path : Port) (value : Word)
  /-- INJECTION_CANCEL (R453). SAF_INJ_CTRL.CANCEL moves an ARMED injection to CANCELLED. -/
  | injectionCancel (path : Port) (value : Word)
  /-- INJECTION_APPLY (R454). An armed injection is applied at its opportunity and its latency count starts. -/
  | injectionApply (t : Nat) (silent : List Nat) (a : CapoIn)
  /-- INJECTION_LIMIT_EXPIRY (R453). An applied injection whose expected report has not arisen within its limit becomes MISSED. -/
  | injectionLimitExpiry (t : Nat)
  /-- SAF_READMIT_WRITE (R447). A keyed write asks to re-admit an excluded tile; it is accepted or denied. -/
  | safReadmitWrite (path : Port) (value : Word)
  /-- DIAG_ENTER (R288). A keyed SPM_DIAG_CTRL write with HALT 1 puts an eligible tile in diagnostic state, or sets DIAG_DENIED. -/
  | diagEnter (path : Port) (tile : Nat) (value : Word)
  /-- DIAG_EXIT (R288). A keyed SPM_DIAG_CTRL write with HALT 0 ends diagnostic state and dirties every non-persistent fret. -/
  | diagExit (path : Port) (tile : Nat) (value : Word)
  /-- EVR_MARK_WRITE (R511). A P-view write to EVR_MARK records a HOST_MARK entry. -/
  | evrMarkWrite (path : Port) (value : Word)
  /-- ETH_ADDR_WRITE (R185). A write to ETH_ADDR changes the source address and the clock identity from the next transmitted frame. -/
  | ethAddrWrite (path : Port) (port : Nat) (hi : Bool) (value : Word)
  /-- HDMA_START (R428). DRAM_HDMA_CTRL.START starts a DRAM-to-host transfer, or refuses it. -/
  | hdmaStart (path : Port) (value : Word)
  /-- HDMA_ABORT (R428). DRAM_HDMA_CTRL.ABORT ends the running transfer with code 0x04. -/
  | hdmaAbort (path : Port) (value : Word)
  /-- SECTION_READ_DONE (R144). The loader finishes reading a tab image section and accepts, rejects or recovers it. -/
  | sectionReadDone (a : SectionIn)
  /-- XSPI_DISCOVERY_DONE (R116). xSPI reset and SFDP discovery finish: XSPI sets, or fails. -/
  | xspiDiscoveryDone (a : SfdpIn)
  /-- EMMC_BRINGUP_DONE (R117). eMMC bring-up reaches HS400, or EMMC fails. -/
  | emmcBringupDone (hs400 : Bool)
  /-- BRINGUP_BOUND_EXPIRY (R608). A bring-up step has not succeeded by its bound after CLOCKS, and it fails. -/
  | bringupBoundExpiry (which : Bringup)
  /-- FLIT_IDLE (R468). An IDLE flit is received and its ACK and NAK are processed. -/
  | flitIdle (link : Nat) (f : FlitIn)
  /-- HELLO (R473). A HELLO flit is checked against the local configuration; the link becomes UP or FAILED, or goes DOWN if already UP. -/
  | hello (link : Nat) (f : FlitIn)
  /-- CRS_START_FLIT (R475). A START flit gives the peer's first boundary for start coordination. -/
  | crsStartFlit (link : Nat) (f : FlitIn)
  /-- SHARE (R486). A SHARE flit declares a ready network for sharing over a JOINED link. -/
  | share (link : Nat) (f : FlitIn)
  /-- PLANINFO (R473). A PLANINFO flit supplies P and PHASE for comparison. -/
  | planinfo (link : Nat) (f : FlitIn)
  /-- BOUNDARY_FLIT (R476). A BOUNDARY flit from the peer is checked to decide whether the period is linked and matched. -/
  | boundaryFlit (link : Nat) (f : FlitIn)
  /-- DIGEST_FLIT (R480). A peer's layer digest arrives and is compared with the local one. -/
  | digestFlit (link : Nat) (f : FlitIn)
  /-- END_FLIT (R480). A peer's END flit can close or waive an instance's comparison. -/
  | endFlit (link : Nat) (f : FlitIn)
  /-- MSG_PAIR (R485). An MSG_A and MSG_B pair from the peer is delivered to a remote mailbox, held or discarded. -/
  | msgPair (link : Nat) (f : FlitIn) (g : FlitIn)
  /-- PAGE_REQ (R487). The lead receives a follower's page request and serves it as a demand fetch. -/
  | pageReq (link : Nat) (f : FlitIn)
  /-- PAGE_HEAD (R487). The follower receives the head of a shared page and starts assembling it. -/
  | pageHead (link : Nat) (f : FlitIn)
  /-- PAGE_DATA (R487). The follower receives 26 page bytes; the last flit of a page triggers its CHECK. -/
  | pageData (link : Nat) (f : FlitIn)
  /-- FLIT_CRC_FAIL (R468). A sequenced flit failing its CRC or sequence is discarded and NAK is set. -/
  | flitCrcFail (link : Nat) (crcBad : Bool) (t : Nat)
  /-- REPLAY_TIMER_EXPIRY (R469). The oldest held flit stays unacknowledged for T_R, and the transmitter resends from it. -/
  | replayTimerExpiry (link : Nat)
  /-- LINK_SILENCE_TIMEOUT (R471). No flit is received for 2 µs and the link goes DOWN. -/
  | linkSilenceTimeout (link : Nat)
  /-- LANE_LOCK_LOSS (R471). A lane loses lock and the link goes DOWN. -/
  | laneLockLoss (link : Nat)
  /-- LINK_RETRAIN_TIMER (R471). 10 ms after a link goes DOWN, training starts again. -/
  | linkRetrainTimer (link : Nat)
  /-- HELLO_TIMER (R472). During training each side sends HELLO every 1 µs. -/
  | helloTimer (link : Nat)
  /-- START_WAIT_TIMEOUT (R475). A side waits 1,000 ms past its own first boundary for the peer's START, then starts alone. -/
  | startWaitTimeout (t : Nat)
  /-- SKIP_INSERT (R464). After every 2,048 flits a SKIP group is inserted on every lane. -/
  | skipInsert (link : Nat)
  /-- REMOTE_MSG_REOFFER (R485). A held remote message is offered again every 64 mesh cycles. -/
  | remoteMsgReoffer (link : Nat)
  /-- SHARED_PAGE_FALLBACK (R487). No PAGE_HEAD arrives within 50 µs, and the follower reads the page from its own DRAM. -/
  | sharedPageFallback (net page : Nat)
  /-- ADD (R333). Scalar add, modulo 2^32. -/
  | add (a : RFmt)
  /-- SUB (R333). Scalar subtract, modulo 2^32. -/
  | sub (a : RFmt)
  /-- AND (R333). Scalar bitwise AND. -/
  | and (a : RFmt)
  /-- OR (R333). Scalar bitwise OR. -/
  | or (a : RFmt)
  /-- XOR (R333). Scalar bitwise XOR. -/
  | xor (a : RFmt)
  /-- SLL (R333). Scalar logical left shift. -/
  | sll (a : RFmt)
  /-- SRL (R333). Scalar logical right shift. -/
  | srl (a : RFmt)
  /-- SRA (R333). Scalar arithmetic right shift. -/
  | sra (a : RFmt)
  /-- SLT (R333). Signed set-if-less. -/
  | slt (a : RFmt)
  /-- SLTU (R333). Unsigned set-if-less. -/
  | sltu (a : RFmt)
  /-- MIN (R333). Signed minimum. -/
  | min (a : RFmt)
  /-- MAX (R333). Signed maximum. -/
  | max (a : RFmt)
  /-- MINU (R333). Unsigned minimum. -/
  | minu (a : RFmt)
  /-- MAXU (R333). Unsigned maximum. -/
  | maxu (a : RFmt)
  /-- MUL (R333). Low 32 bits of the product. -/
  | mul (a : RFmt)
  /-- MULH (R333). High 32 bits of the signed product. -/
  | mulh (a : RFmt)
  /-- MULHU (R333). High 32 bits of the unsigned product. -/
  | mulhu (a : RFmt)
  /-- DIV (R333). Signed division rounded toward zero. -/
  | div (a : RFmt)
  /-- DIVU (R333). Unsigned division. -/
  | divu (a : RFmt)
  /-- REM (R333). Signed remainder. -/
  | rem (a : RFmt)
  /-- REMU (R333). Unsigned remainder. -/
  | remu (a : RFmt)
  /-- CLZ (R333). Count of leading zeros. -/
  | clz (a : RFmt)
  /-- POPC (R333). Count of set bits. -/
  | popc (a : RFmt)
  /-- ADDI (R333). Add a sign-extended immediate. -/
  | addi (a : IFmt)
  /-- ANDI (R333). AND with a zero-extended immediate. -/
  | andi (a : IFmt)
  /-- ORI (R333). OR with a zero-extended immediate. -/
  | ori (a : IFmt)
  /-- XORI (R333). XOR with a zero-extended immediate. -/
  | xori (a : IFmt)
  /-- SLTI (R333). Signed set-if-less against an immediate. -/
  | slti (a : IFmt)
  /-- LUI (R333). Load the immediate shifted left by 16. -/
  | lui (a : IFmt)
  /-- SHI (R333). Shift by an immediate, with the kind of shift selected by IMM16 bits 6:5. -/
  | shi (a : IFmt)
  /-- LB (R336). Load a sign-extended byte through a binding. -/
  | lb (a : MFmt)
  /-- LBU (R336). Load a zero-extended byte. -/
  | lbu (a : MFmt)
  /-- LH (R336). Load a sign-extended half-word. -/
  | lh (a : MFmt)
  /-- LHU (R336). Load a zero-extended half-word. -/
  | lhu (a : MFmt)
  /-- LW (R336). Load a word. -/
  | lw (a : MFmt)
  /-- SB (R336). Store a byte, fed to the digest if the binding's DIG flag is set. -/
  | sb (a : MFmt)
  /-- SH (R336). Store a half-word. -/
  | sh (a : MFmt)
  /-- SW (R336). Store a word. -/
  | sw (a : MFmt)
  /-- BEQ (R334). Branch if equal. -/
  | beq (a : BFmt)
  /-- BNE (R334). Branch if not equal. -/
  | bne (a : BFmt)
  /-- BLT (R334). Branch if less, signed. -/
  | blt (a : BFmt)
  /-- BGE (R334). Branch if greater or equal, signed. -/
  | bge (a : BFmt)
  /-- BLTU (R334). Branch if less, unsigned. -/
  | bltu (a : BFmt)
  /-- BGEU (R334). Branch if greater or equal, unsigned. -/
  | bgeu (a : BFmt)
  /-- JAL (R334). Jump and link, relative. -/
  | jal (a : JFmt)
  /-- JALR (R334). Jump and link to a register target; a misaligned target raises IFETCH. -/
  | jalr (a : IFmt)
  /-- CSRR (R329). Read a context register. -/
  | csrr (a : IFmt)
  /-- NOP (R332). No operation. -/
  | nop (a : RFmt)
  /-- HALT (R327). Wait for every issued ticket, then end the thread. -/
  | halt (a : RFmt)
  /-- WDARM (R364). Narrow the watchdog window and budget. -/
  | wdarm (a : RFmt)
  /-- WDKICK (R364). Restart the watchdog budget. -/
  | wdkick (a : RFmt)
  /-- WDOFF (R364). Return the watchdog to its dispatch settings. -/
  | wdoff (a : RFmt)
  /-- BIND (R335). Bind a handle to a binding and clear its DIG flag. -/
  | bind (a : RFmt)
  /-- BINDD (R335). Bind a handle to a binding and set its DIG flag. -/
  | bindd (a : RFmt)
  /-- ALLOC (R353). Send a grant request and stall for the handle or the refusal. -/
  | alloc (a : RFmt)
  /-- FREE (R353). Free a granted region; its frets become DIRTY. -/
  | free (a : RFmt)
  /-- PAGER_SUB (R354). Subscribe to a layer of the thread's network. -/
  | pagerSub (a : RFmt)
  /-- RETIRE (R304). Mark the current subscription's pages that lie below a block index. -/
  | retire (a : RFmt)
  /-- ADV (R304). End the current subscription and make the next one current. -/
  | adv (a : RFmt)
  /-- PREAD (R311). Request a part read from a bound frame store into a fret. -/
  | pread (a : RFmt)
  /-- HREAD (R311). Request a frame-store head read into a region. -/
  | hread (a : RFmt)
  /-- APASS (R351). Queue a pass descriptor and return an A ticket. -/
  | apass (a : RFmt)
  /-- MOP (R352). Queue a FILL or COPY memory operation and return an M ticket. -/
  | mop (a : RFmt)
  /-- WAITC (R349). Wait for a ticket's completion and optionally its status word. -/
  | waitc (a : RFmt)
  /-- RPUB (R363). Hand a payload to the ring engine, checked by a check-value unit, and return an R ticket. -/
  | rpub (a : RFmt)
  /-- SEND (R355). Send a vector register to a mailbox. -/
  | send (a : RFmt)
  /-- RECV (R357). Take the oldest mailbox entry of the running instance, stalling while there is none. -/
  | recv (a : RFmt)
  /-- MCOUNT (R357). Count the mailbox entries of the running instance. -/
  | mcount (a : RFmt)
  /-- RLDV (R358). Load a word of a STATE region on any tile. -/
  | rldv (a : RFmt)
  /-- RSTV (R358). Store a word into the NEXT copy of a STATE region. -/
  | rstv (a : RFmt)
  /-- GEN (R358). Read a STATE region's generation counter. -/
  | gen (a : RFmt)
  /-- CLAIM (R359). Wait until the thread holds a check-value unit. -/
  | claim (a : RFmt)
  /-- INIT (R359). Set a claimed unit's running value to the initial value. -/
  | init (a : RFmt)
  /-- FEEDB (R360). Feed one byte to a claimed unit. -/
  | feedb (a : RFmt)
  /-- FEEDH (R360). Feed two bytes to a claimed unit. -/
  | feedh (a : RFmt)
  /-- FEEDW (R360). Feed four bytes to a claimed unit. -/
  | feedw (a : RFmt)
  /-- FEEDV (R360). Feed 32 bytes to a claimed unit. -/
  | feedv (a : RFmt)
  /-- CV_READ (R360). Read a claimed unit's value with the final XOR applied. -/
  | cvRead (a : RFmt)
  /-- CV_RELEASE (R359). End the thread's claim of a unit. -/
  | cvRelease (a : RFmt)
  /-- DOPEN (R362). Open a layer for the digest unit. -/
  | dopen (a : RFmt)
  /-- DCLOSE (R362). Wait for queued drains, form the tile digest and close the layer. -/
  | dclose (a : RFmt)
  /-- DREADL (R362). Read the low word of the core-source digest. -/
  | dreadl (a : RFmt)
  /-- DREADH (R362). Read the high word of the core-source digest. -/
  | dreadh (a : RFmt)
  /-- VADD (R342). Vector add, modular. -/
  | vadd (a : VFmt)
  /-- VSUB (R342). Vector subtract, modular. -/
  | vsub (a : VFmt)
  /-- VMUL (R342). Low half of the signed vector product. -/
  | vmul (a : VFmt)
  /-- VMULH (R342). High half of the signed vector product. -/
  | vmulh (a : VFmt)
  /-- VMIN (R342). Signed vector minimum. -/
  | vmin (a : VFmt)
  /-- VMAX (R342). Signed vector maximum. -/
  | vmax (a : VFmt)
  /-- VMINU (R342). Unsigned vector minimum. -/
  | vminu (a : VFmt)
  /-- VMAXU (R342). Unsigned vector maximum. -/
  | vmaxu (a : VFmt)
  /-- VAND (R342). Vector bitwise AND. -/
  | vand (a : VFmt)
  /-- VOR (R342). Vector bitwise OR. -/
  | vor (a : VFmt)
  /-- VXOR (R342). Vector bitwise XOR. -/
  | vxor (a : VFmt)
  /-- VSLL (R342). Vector logical left shift. -/
  | vsll (a : VFmt)
  /-- VSRA (R342). Vector arithmetic right shift. -/
  | vsra (a : VFmt)
  /-- VSRL (R342). Vector logical right shift. -/
  | vsrl (a : VFmt)
  /-- VADDS (R342). Signed saturating vector add. -/
  | vadds (a : VFmt)
  /-- VSUBS (R342). Signed saturating vector subtract. -/
  | vsubs (a : VFmt)
  /-- VABS (R342). Saturating vector absolute value. -/
  | vabs (a : VFmt)
  /-- VSEL (R342). Select elements by predicate. -/
  | vsel (a : VFmt)
  /-- VRSRA (R342). Rounding arithmetic right shift. -/
  | vrsra (a : VFmt)
  /-- VFADD (R342). Floating-point vector add. -/
  | vfadd (a : VFmt)
  /-- VFSUB (R342). Floating-point vector subtract. -/
  | vfsub (a : VFmt)
  /-- VFMUL (R342). Floating-point vector multiply. -/
  | vfmul (a : VFmt)
  /-- VFMA (R342). Fused multiply-add, rounded once. -/
  | vfma (a : VFmt)
  /-- VFMIN (R342). Floating-point vector minimum. -/
  | vfmin (a : VFmt)
  /-- VFMAX (R342). Floating-point vector maximum. -/
  | vfmax (a : VFmt)
  /-- VFRCP (R342). Floating-point reciprocal. -/
  | vfrcp (a : VFmt)
  /-- VFEXP2 (R342). Floating-point power of two. -/
  | vfexp2 (a : VFmt)
  /-- VCMP (R343). Compare elements into a predicate. -/
  | vcmp (a : VFmt)
  /-- VCVT (R344). Convert or pack elements between formats. -/
  | vcvt (a : VFmt)
  /-- VSHUF (R345). Byte shuffle. -/
  | vshuf (a : VFmt)
  /-- VCOMP (R345). Compress the active elements. -/
  | vcomp (a : VFmt)
  /-- VSORT (R345). Sort 8 INT32 elements in descending order. -/
  | vsort (a : VFmt)
  /-- VMRGH (R345). Merge two sorted vectors and keep the highest 8. -/
  | vmrgh (a : VFmt)
  /-- VMRGL (R345). Merge two sorted vectors and keep the lowest 8. -/
  | vmrgl (a : VFmt)
  /-- VBCAST (R346). Broadcast a scalar to the active elements. -/
  | vbcast (a : XFmt)
  /-- VEXT (R346). Extract element 0 to a scalar. -/
  | vext (a : XFmt)
  /-- VRMAX (R346). Reduce to the signed maximum. -/
  | vrmax (a : XFmt)
  /-- VRMIN (R346). Reduce to the signed minimum. -/
  | vrmin (a : XFmt)
  /-- VRADD (R346). Reduce to the sum. -/
  | vradd (a : XFmt)
  /-- VRARGMAX (R346). Index of the lowest active element holding the maximum. -/
  | vrargmax (a : XFmt)
  /-- VCNT (R346). Count the active elements. -/
  | vcnt (a : XFmt)
  /-- VLUT8 (R346). Byte lookup in a 256-byte table. -/
  | vlut8 (a : XFmt)
  /-- PAND (R347). Predicate AND. -/
  | pand (a : RFmt)
  /-- POR (R347). Predicate OR. -/
  | por (a : RFmt)
  /-- PXOR (R347). Predicate XOR. -/
  | pxor (a : RFmt)
  /-- PNOT (R347). Predicate NOT. -/
  | pnot (a : RFmt)
  /-- PSET (R347). Set a predicate from a scalar. -/
  | pset (a : RFmt)
  /-- PGET (R347). Copy a predicate to a scalar. -/
  | pget (a : RFmt)
  /-- VLD (R337). Load a 32-byte word into a vector register. -/
  | vld (a : MFmt)
  /-- VST (R337). Store a vector register, optionally under a predicate mask. -/
  | vst (a : MFmt)
  /-- VLDT (R338). Transposed gather into a vector register. -/
  | vldt (a : GFmt)
  /-- VLDS (R338). Strided gather into a vector register. -/
  | vlds (a : GFmt)
  /-- CAN_FRAME_DISCARD (R526). A CAN FD frame with a bad CRC or a repeated COUNTER is discarded. -/
  | canFrameDiscard (ident : Nat) (frame : List Byte)
  /-- HEARTBEAT (R526). A safety controller heartbeat updates SERVICE_MODE and AUTO_CYCLE. -/
  | heartbeat (frame : List Byte)
  /-- SC_LOST (R535). No valid heartbeat for 50 ms: the safety controller counts as absent and service actions stop. -/
  | scLost
  /-- STATUS_BROADCAST (R526). Every 10 ms the Hoist broadcasts its status block. -/
  | statusBroadcast
  /-- UART_IDLE_GAP (R528). A 10 ms idle gap resets the service console receiver. -/
  | uartIdleGap
  /-- SET_ENDPOINT_ID (R527). MCTP control command Set Endpoint ID. -/
  | setEndpointId (eid : Byte)
  /-- GET_ENDPOINT_ID (R527). MCTP control command Get Endpoint ID. -/
  | getEndpointId
  /-- GET_MCTP_VERSION_SUPPORT (R527). MCTP control command Get MCTP Version Support. -/
  | getMctpVersionSupport
  /-- GET_MESSAGE_TYPE_SUPPORT (R527). MCTP control command Get Message Type Support. -/
  | getMessageTypeSupport
  /-- GET_VENDOR_MESSAGE_SUPPORT (R527). MCTP control command Get Vendor Defined Message Support. -/
  | getVendorMessageSupport
  /-- GET_STATUS (R531). Return the tray status block. -/
  | getStatus (a : HCmd)
  /-- GET_SENSORS (R531). Return a module's readings block and the tray status. -/
  | getSensors (a : HCmd)
  /-- GET_LOG (R531). Return half of a log record. -/
  | getLog (a : HCmd)
  /-- MODULE_OUT (R536). Remove a module: force it absent, wait for the plan switch, flush and open its eFuse. -/
  | moduleOut (a : HCmd)
  /-- MODULE_IN (R537). Power a module, check its grade and position, and wait for its links. -/
  | moduleIn (a : HCmd)
  /-- MODULE_CYCLE (R538). Take a module out, dwell, and bring it in as one action. -/
  | moduleCycle (a : HCmd)
  /-- MODULE_RESET (R538). Drive M_RESET_N low for 1 ms. -/
  | moduleReset (a : HCmd)
  /-- MODULE_KILL (R538). Remove a module's power at once, without a flush. -/
  | moduleKill (a : HCmd)
  /-- SHED (R531). Set the sending path's class-enable contribution. -/
  | shed (a : HCmd)
  /-- FENCE (R531). Set or clear the sending path's fence contribution. -/
  | fence (a : HCmd)
  /-- FORCE_ABSENT (R531). Set the sending path's FORCE contribution. -/
  | forceAbsent (a : HCmd)
  /-- PVIEW_READ (R531). Read 1 to 8 P-view words of a module over SPI. -/
  | pviewRead (a : HCmd) (spi : Option (List Word))
  /-- PVIEW_WRITE (R531). Write 1 to 8 P-view words of a module over SPI. -/
  | pviewWrite (a : HCmd) (spiOk : Bool)
  /-- HOLD (R533). Take or renew a lease on a module. -/
  | hold (a : HCmd)
  /-- HOLD_RELEASE (R533). End a lease on a module. -/
  | holdRelease (a : HCmd)
  /-- HOLD_EXPIRY (R533). A HOLD lease runs out. -/
  | holdExpiry (slot : Nat)
  /-- INTERLOCK_CLEAR (R524). Clear the LEAK or MAIN_OC latch and close the main eFuse. -/
  | interlockClear (a : HCmd)
  /-- LATCH_RELEASE (R531). Service console release of a slot latch for an OUT module. -/
  | latchRelease (a : HCmd)
  /-- CLEAR_CONTEST (R548). End a contest at once, as if reconciled. -/
  | clearContest (a : HCmd)
  /-- LEAK (R523). A rope reads wet past the filter: every PWR_FAIL_N falls and the main eFuse opens. -/
  | leak (rope : Nat)
  /-- MAIN_OC (R522). Main input over-current trips the tray interlock. -/
  | mainOc
  /-- SHDN (R522). A module's THERM_SHDN_N falls and its rails are removed. -/
  | shdn (slot : Nat)
  /-- MODULE_OC (R522). Module input over-current opens its eFuse. -/
  | moduleOc (slot : Nat)
  /-- YANKED (R540). M_PRSNT_N rises on a powered slot, so the eFuse opens and the slot is marked EMPTY. -/
  | yanked (slot : Nat)
  /-- RAIL_SAMPLE (R519). Every 1 ms the Hoist samples rails, currents and module pins. -/
  | railSample (a : RailIn)
  /-- LINK_PIN_SAMPLE (R519). Every 100 µs the Hoist samples the link and SAFE_TOGGLE pins. -/
  | linkPinSample (a : LinkPinIn)
  /-- COOLANT_SAMPLE (R539). Every 100 ms temperatures and flow are sampled, and flow shedding is applied or restored. -/
  | coolantSample (tin tout : Int) (flow : Nat) (tmod : List Int)
  /-- ROPE_SAMPLE (R519). Every 10 ms the rope resistances are read; an open rope is logged. -/
  | ropeSample (ohmA ohmB : Nat)
  /-- MODULE_REGISTER_POLL (R521). Every 10 ms each module's registers are read and owned registers are rewritten if they differ. -/
  | moduleRegisterPoll (reads : List HReading)
  /-- EXAMINATION_POINT (R544). Every P_H each slot's power and traffic truth is classified, and contests are entered, reconciled or cycled. -/
  | examinationPoint (reads : List HReading)
  /-- HOIST_START (R551). The Hoist starts, adopts the state it finds and logs HOIST_START. -/
  | hoistStart (a : RailIn) (reads : List HReading)
  /-- HEADER_AND_DIRECTORY_READ (R118). At load step 3 the loader finishes reading the header and directory of the primary or alternate copy and sets IMAGE, or fails it. -/
  | headerAndDirectoryRead (a : HeaderIn)
  /-- PME_TURN_OFF (R401). A PME_Turn_Off message received during standby entry is answered with PME_TO_Ack before the link is placed in L2. -/
  | pmeTurnOff
  /-- ALWAYS_ON_RESET (R74). VDD_AON falls below 0.60 V, resetting the always-on domain so that only a later cold start can follow. -/
  | alwaysOnReset
  /-- AON_OSCILLATOR_STOP (R111). The always-on oscillator stops, so reference-loss detection stops and WAKE can no longer end standby. -/
  | aonOscillatorStop
  /-- REFRESH_2X_CHANGE (R61). The LPDDR5X devices report a temperature at which JEDEC doubles the refresh rate, or stop reporting it, and REFRESH_2X and the refresh interval change. -/
  | refresh2xChange (on : Bool)
  /-- CSI_CLOCK_LANE_CHANGE (R184). A CSI-2 receiver's clock lane becomes active or inactive, changing CSI_STATUS.LINK and raising LINK_LOSS on loss. -/
  | csiClockLaneChange (port : Nat) (on : Bool)
  /-- PWR_EN_MAIN_RISE (R87). PWR_EN_MAIN rises once 10 ms have passed since it fell, when WAKE ended standby before that time. -/
  | pwrEnMainRise
deriving DecidableEq, Repr

end Sys2Proof
end

