-- ==== Sys2Proof/Decode.lean ====
section
/-!
DEFINITION. The commands that words of the opcode table spell. Every row of spec/opcode_table.json has an empty list of
fields: no row gives bits.
-/

namespace Sys2Proof

/-- The command a table word spells: none, since no row of the table gives bits. -/
def decodeTableWord (_nbits _w : Nat) : Option Instr := none

end Sys2Proof
end

