-- ==== Sys2Proof/Config.lean ====
section
/-!
DEFINITION. What the spec leaves open: each name is opaque, so nothing in Lean can evaluate it or prove a value
of it, and a statement about it holds for every value. Each is named in a row of the assumption log.
-/

namespace Sys2Proof.Config

/-- Fresh open values, by the model's counter `State.free`: the value of an effect of which the spec does not give it. Log entry
10 lists them. -/
opaque freeValue : Nat → BitVec 64

/-- Which of the results within 1 unit in the last place VFRCP gives for an operand of a format (R342). Log
entry 11. -/
opaque rcpChoice : Nat → Nat → Nat

/-- The same for VFEXP2 (R342). Log entry 11. -/
opaque exp2Choice : Nat → Nat → Nat

/-- The sentinel ROM's reference CRC of sub-pass 0, 1, ... on every tile (R43, R254). Log entry 17. -/
opaque sentinelCrc : Nat → BitVec 64

/-- Where the capability structures stand in the configuration space, and the fields of theirs that R400 does not give: 0 the offset
of Power Management, 1 that of PCI Express, 2 the open bits of its Device Capabilities, 3 of Link Capabilities, 4 of Device
Capabilities 2. Log entry 13. -/
opaque pcieOpen : Nat → BitVec 32

end Sys2Proof.Config
end

