-- ==== Sys2Proof/Machine/State.lean ====
section
/-!
DEFINITION. The state of the device as plain data: every register, queue, buffer, counter, mode and pin the
spec gives the Dorzil and the Hoist, with its value right after reset as each field's default (INVENTORY.md
lists them line by line), the queue of waiting commands, the reasons a step can stop, and `State.reset`.
-/

namespace Sys2Proof.Machine

/-- The grade of the part (R5, R22). -/
inductive Grade where
  | dz4 | dz8 | dz16
deriving DecidableEq, Repr

/-- PRD_STATUS.STATE (R67): IDLE, RUN, CAPO, ABORT_HOLD. -/
inductive PrdGen where
  | idle | run | capo | hold
deriving DecidableEq, Repr

/-- Where retention standby stands (R86, R87): none, requested (entry waits for the boundary), flushing (entry step 2), waitL2 (entry step 3), asleep (PWR_EN_MAIN low). -/
inductive StbyPhase where
  | none | requested | flushing | waitL2 | asleep
deriving DecidableEq, Repr

/-- States of an instance (R372), with `created` before B + release offset. -/
inductive InstSt where
  | created | waitInput | deciding | deferred | admitted | running
deriving DecidableEq, Repr

/-- Fret states (R276). -/
inductive FretSt where
  | free | dirty | granted | spilling | state | landing
deriving DecidableEq, Repr

/-- CRS_LINK_STATUS.STATE (R489). -/
inductive LinkSt where
  | off | training | up | down | failed | fenced
deriving DecidableEq, Repr

/-- EVR_STATUS.ARM (R508, R511). -/
inductive ArmSt where
  | unarmed | early | verifying | erasing | armed | spent | flushing
deriving DecidableEq, Repr

/-- TB_STATUS.STATE (R181). -/
inductive TbSt where
  | free | locked | holdover
deriving DecidableEq, Repr

/-- SAF_INJ_STATUS.STATE (R456). -/
inductive InjSt where
  | idle | armed | applied | detected | missed | refused | cancelled
deriving DecidableEq, Repr

/-- Hoist slot states (R525). -/
inductive HSlotSt where
  | empty | out | joining | on | leaving | tripped | fault
deriving DecidableEq, Repr

/-- STATE of a frame's store head (R215). -/
inductive FrameSt where
  | opened | delivered | degraded | dropped
deriving DecidableEq, Repr

/-- Holder of a check-value unit, TC_CV (R366), or one who waits for it (R203): intake for a stream, the tile program, the
ring engine, the injector (R454). -/
inductive CvHolder where
  | none
  | intake (stream : Nat)
  | tile | ring | inject
deriving DecidableEq, Repr

/-- Sources of a Hoist action or contribution (R521, R541). -/
inductive HSrc where
  | interlock | safety | host | service | auto
deriving DecidableEq, Repr

/-- The always-on domain: pins it samples, causes it remembers, standby. -/
structure Aon where
  /-- the always-on domain is held in reset (VDD_AON below 0.60 V) (R74). -/
  aonReset : Bool := false
  /-- the 32 kHz oscillator runs (R111). -/
  oscRunning : Bool := true
  /-- the main domain is held in reset (R93). -/
  mainReset : Bool := false
  /-- level of RESET_N as last seen (R93). -/
  resetN : Bool := true
  /-- level of TEST_MODE as last seen (R569). -/
  testMode : Bool := false
  /-- level of WAKE as last seen (R87). -/
  wake : Bool := false
  /-- level of PWR_FAIL_N as last seen (R78). -/
  pwrFailN : Bool := true
  /-- causes of the next start, in SYS_RST_CAUSE's order (R93). -/
  causes : BitVec 5 := 0#5
  /-- a pin reset waits for the flush's commit step (R95). -/
  pinAfterFlush : Bool := false
  /-- a soft reset waits for the flush's commit step (R95). -/
  softAfterFlush : Bool := false
  /-- the hold of 8 always-on cycles after a soft reset runs (R95). -/
  softHold : Bool := false
  /-- level of PWR_EN_MAIN (R77). -/
  pwrEnMain : Bool := true
  /-- phase of retention standby (R86). -/
  standby : StbyPhase := .none
  /-- uptime (ns) at which standby entry began (R86). -/
  standbyT : Nat := 0
  /-- uptime (ns) at which the reset that waits for a flush was asserted (R95). -/
  resetT : Nat := 0
  /-- WAKE ended standby (or rose during entry) and PWR_EN_MAIN has yet to rise (R87). -/
  wakeLatched : Bool := false
  /-- level of THERM_SHDN_N, latched low until a cold start (R84). -/
  thermShdnN : Bool := true
  /-- the reference is present (R81). -/
  refPresent : Bool := true
  /-- every PLL has locked since the internal reset release (R89). -/
  pllLocked : Bool := false
deriving DecidableEq, Repr

/-- The SYS block (R104, R430). -/
structure Sys where
  /-- SYS_STRAPS, as sampled (R97). -/
  straps : Word := 0#32
  /-- SYS_RST_CAUSE (R104). -/
  rstCause : Word := 1#32
  /-- SYS_MON_EVENTS (R104). -/
  monEvents : Word := 0#32
  /-- SYS_MON_STATUS, live levels but PWR_FAIL, which is the pin's (R104). -/
  monStatus : Word := 0#32
  /-- a supply condition is present (R79). -/
  supplyCond : Bool := false
  /-- a clock condition is present (R81). -/
  clockCond : Bool := false
  /-- a thermal condition is present (R84). -/
  thermCond : Bool := false
  /-- an LPDDR5X channel PLL lost lock in this start (R82). -/
  ddrPllLost : Bool := false
  /-- channels out of service for the rest of the start (R82). -/
  ddrChanLost : List Nat := []
  /-- the PCIe SerDes PLL has lost lock and the link has not been back in L0 (R82). -/
  pcieSerdesLost : Bool := false
  /-- Course links whose transmit PLL has lost lock and that have not been UP since (R82). -/
  courseTxLost : List Nat := []
  /-- SYS_TEMP.TEMP_MAX, signed 0.125 degC (R104). -/
  tempMax : Half := 0#16
  /-- SYS_TEMP.SENSOR (R104). -/
  tempSensor : Byte := 0#8
  /-- ns since the internal reset release; SYS_UPTIME is this in us (R104). -/
  uptimeNs : Nat := 0
  /-- SYS_PCIE_RESETS, saturating (R94). -/
  pcieResets : Word := 0#32
  /-- SYS_OVL_SYS (R430). -/
  ovlSys : Word := 0#32
  /-- SYS_OVL_PRD (R430). -/
  ovlPrd : Word := 0#32
  /-- SYS_OVL_SCH (R430). -/
  ovlSch : Word := 0#32
  /-- SYS_OVL_RING (R430). -/
  ovlRing : Word := 0#32
  /-- SYS_OVL_STRM (R430). -/
  ovlStrm : Word := 0#32
  /-- SYS_OVL_SAF (R430). -/
  ovlSaf : Word := 0#32
  /-- SYS_OVL_EVR (R430). -/
  ovlEvr : Word := 0#32
  /-- SYS_OVL_CRS (R430). -/
  ovlCrs : Word := 0#32
  /-- SYS_OVL_DRAM (R430). -/
  ovlDram : Word := 0#32
deriving DecidableEq, Repr

/-- The RDY block (R105, R142). -/
structure Rdy where
  /-- RDY_STATUS (R105). -/
  status : Word := 0#32
  /-- RDY_FAIL (R105). -/
  fail : Word := 0#32
  /-- RDY_PORT (R105). -/
  port : Word := 0#32
  /-- RDY_PORT_FAIL (R105). -/
  portFail : Word := 0#32
  /-- RDY_SEQ (R102). -/
  seq : Word := 0#32
  /-- RDY_NET0 to RDY_NET7 (R105). -/
  net : BitVec 256 := 0#256
  /-- RDY_STREAM0 to RDY_STREAM127, by index (R105). -/
  stream : FMap Word := []
  /-- RDY_TIME0 to RDY_TIME15 (R103). -/
  times : List Word := List.replicate 16 0xFFFFFFFF#32
  /-- RDY_IMG_ID (R142). -/
  imgId : Word := 0#32
  /-- RDY_IMG_INFO.COPY (R142). -/
  copy : Nat := 0
  /-- RDY_IMG_INFO.ALT_VALID (R142). -/
  altValid : Bool := false
  /-- RDY_IMG_INFO.FORMAT (R142). -/
  format : Byte := 0#8
  /-- RDY_IMG_INFO.DIR_COUNT (R142). -/
  dirCount : Nat := 0
  /-- RDY_IMG_COUNTS.REJECTED, saturating at 255 (R142). -/
  rejected : Nat := 0
  /-- RDY_IMG_COUNTS.SKIPPED, saturating (R142). -/
  skipped : Nat := 0
  /-- RDY_IMG_COUNTS.RECOVERED, saturating (R142). -/
  recovered : Nat := 0
  /-- RDY_IMG_LOG, at most 128 pairs; its length is LOGGED (R142). -/
  imgLog : List (Word × Word) := []
  /-- RDY_XSPI_MODE (R142). -/
  xspiMode : Word := 0#32
  /-- RDY_LOAD_BYTES (R142). -/
  loadBytes : DWord := 0#64
deriving DecidableEq, Repr

/-- A directory entry of the tab image (R120). -/
structure DirEntry where
  /-- TYPE (R120). -/
  typ : Nat := 0
  /-- INSTANCE (R120). -/
  inst : Nat := 0
  /-- VERSION (R120). -/
  version : Nat := 0
  /-- FLAGS (R120). -/
  flags : Nat := 0
  /-- OFFSET (R120). -/
  offset : Nat := 0
  /-- LENGTH (R120). -/
  length : Nat := 0
  /-- CHECK (R120). -/
  check : Word := 0#32
  /-- the reserved bytes are zero (R120). -/
  rsvOk : Bool := true
deriving DecidableEq, Repr

/-- A LINKS record (R123). -/
structure LinkCfg where
  /-- 0 SOLO, 1 PAIRED, 2 JOINED (R123). -/
  mode : Nat := 0
  /-- PEER_POS (R123). -/
  peerPos : Nat := 0
  /-- LANES (R123). -/
  lanes : Nat := 0
  /-- PEER_IMAGE_ID (R123). -/
  peerImageId : Word := 0#32
deriving DecidableEq, Repr

/-- A STREAMS record (R124). -/
structure StreamCfg where
  /-- 0 CSI-2, 1 Ethernet 1722, 2 Ethernet UDP, 3 10BASE-T1S (R124). -/
  kind : Nat := 0
  /-- port number (R124). -/
  port : Nat := 0
  /-- STRM_GEOM (R171). -/
  geom : Word := 0#32
  /-- STRM_BIND (R171). -/
  bind : Word := 0#32
  /-- STRM_TIMING (R171). -/
  timing : Word := 0#32
  /-- STRM_GUARD (R171). -/
  guard : Word := 0#32
  /-- MATCH, 12 bytes (R124). -/
  key : List Byte := []
deriving DecidableEq, Repr

/-- A job record of a plan (R131). -/
structure JobCfg where
  /-- JOB (R131). -/
  job : Nat := 0
  /-- NETWORK (R131). -/
  net : Nat := 0
  /-- CLASS (R131). -/
  cls : Nat := 0
  /-- STREAM, the first input (R131). -/
  stream : Nat := 0
  /-- RING (R131). -/
  ring : Nat := 0
  /-- SLOT_MASK (R131). -/
  mask : Half := 0#16
  /-- RELEASE_US (R131). -/
  releaseUs : Nat := 0
  /-- DEADLINE_US (R131). -/
  deadlineUs : Nat := 0
  /-- W_NS (R131). -/
  wNs : Nat := 0
  /-- the extra inputs (R131). -/
  extra : List Nat := []
  /-- FRETS (R131). -/
  frets : Nat := 0
deriving DecidableEq, Repr

/-- A region record of a plan (R131). -/
structure RegionCfg where
  /-- REGION (R131). -/
  region : Nat := 0
  /-- 0 STATE, 1 LANDING (R131). -/
  kind : Nat := 0
  /-- TILE (R131). -/
  tile : Nat := 0
  /-- FRETS (R131). -/
  frets : Nat := 0
  /-- WRITER_JOB (R131). -/
  writer : Nat := 0
  /-- STREAM (R131). -/
  stream : Nat := 0
deriving DecidableEq, Repr

/-- An accepted PLAN instance (R131). -/
structure PlanCfg where
  /-- PLAN_ID (R131). -/
  planId : Half := 0#16
  /-- N (R131). -/
  n : Nat := 1
  /-- ALIGN_MODE (R131). -/
  align : Nat := 0
  /-- PERIOD_US (R131). -/
  periodUs : Nat := 1000
  /-- PHASE (R131). -/
  phase : Nat := 0
  /-- LOCK_WAIT_MS (R131). -/
  lockWaitMs : Nat := 0
  /-- ABSENT_MASK (R131). -/
  absentMask : Nat := 0
  /-- the job records (R131). -/
  jobs : List JobCfg := []
  /-- the region records (R131). -/
  regions : List RegionCfg := []
deriving DecidableEq, Repr

/-- A layer of an accepted network, with what the pager keeps (R135, R297). -/
structure LayerCfg where
  /-- FORM (R135). -/
  form : Nat := 0
  /-- TILES (R135). -/
  tiles : Nat := 0
  /-- FIRST_PAGE (R135). -/
  firstPage : Nat := 0
  /-- PAGE_COUNT (R135). -/
  pageCount : Nat := 0
  /-- FORMAT of its pages (R297). -/
  format : Nat := 0
  /-- GROUP of its pages (R297). -/
  group : Nat := 0
  /-- BPP (R297). -/
  bpp : Nat := 0
  /-- T, blocks of the layer (R296). -/
  total : Nat := 0
deriving DecidableEq, Repr

/-- A code block (R135). -/
structure BlockCfg where
  /-- TILE (R135). -/
  tile : Nat := 0
  /-- IMEM_OFFSET (R135). -/
  off : Nat := 0
  /-- LENGTH (R135). -/
  len : Nat := 0
  /-- ENTRY (R135). -/
  entry : Nat := 0
deriving DecidableEq, Repr

/-- A network whose NETWORK section is accepted (R135, R137). -/
structure NetCfg where
  /-- ARCHIVE_PAGES (R135). -/
  pages : Nat := 0
  /-- the layer table (R135). -/
  layers : List LayerCfg := []
  /-- the code blocks (R135). -/
  blocks : List BlockCfg := []
  /-- DRAM address of its archive (R138). -/
  base : Nat := 0
  /-- directory CHECK of its WEIGHTS section (R486). -/
  wCheck : Word := 0#32
  /-- its WEIGHTS section is accepted (R140). -/
  wOk : Bool := false
deriving DecidableEq, Repr

/-- The loader and what the accepted sections hold (R139). -/
structure Img where
  /-- load step 3 has been reached (header and directory read or failed) (R139). -/
  started : Bool := false
  /-- every section has been decided (or the load ended, R149) (R139). -/
  finished : Bool := false
  /-- a standby request ended the load (R149). -/
  stopped : Bool := false
  /-- flash byte address of the header in use (R112). -/
  hdrBase : Nat := 0
  /-- IMAGE_LENGTH of the copy in use (R118). -/
  imageLength : Nat := 0
  /-- DIR_OFFSET of the copy in use (R118). -/
  dirOffset : Nat := 0
  /-- directory of the copy in use (R120). -/
  dir : List DirEntry := []
  /-- directory of a valid alternate copy with the same IMAGE_ID (R145). -/
  altDir : List DirEntry := []
  /-- flash density D in MiB (R115). -/
  densityMiB : Nat := 0
  /-- directory indices already decided (R139). -/
  done : List Nat := []
  /-- an uncorrectable DRAM error met the archive write under way (R610). -/
  dramBad : Bool := false
  /-- directory index of the section being read (R139). -/
  cur : Option Nat := none
  /-- 0 not up, 1 HS400, 2 failed (R117). -/
  emmcState : Nat := 0
  /-- next free archive address (R138). -/
  archiveTop : Nat := 0
  /-- accepted LINKS records by link (R123). -/
  links : FMap LinkCfg := []
  /-- load step 4 is done (R139). -/
  linksDone : Bool := false
  /-- accepted STREAMS records by stream index (R124). -/
  streams : FMap StreamCfg := []
  /-- accepted RINGS records: LOG2_PAGES + 1 of each enabled ring, by ring (R125). -/
  rings : FMap Nat := []
  /-- LOG2_PAGES of loaded rings that are disabled, by ring (R125). -/
  ringsDis : FMap Nat := []
  /-- SAF_CFG.CLAIM (R126). -/
  claim : Nat := 0
  /-- SAF_CFG.INJECT_PERIODS (R126). -/
  injectPeriods : Nat := 0
  /-- SAF_CFG.WDOG_MARGIN_US (R126). -/
  wdogMarginUs : Nat := 0
  /-- polynomial code of unit u of tile t, at 2t + u (R127). -/
  checks : FMap Nat := []
  /-- an ALLOC section stands (R129). -/
  allocOk : Bool := false
  /-- the primary's fault of an ALLOC section taken from the alternate copy, until R609 decides its outcome (R142, R609). -/
  allocHeld : Option (Nat × Nat) := none
  /-- SPILL_MIB of the ALLOC section (R128). -/
  spillMiB : Nat := 0
  /-- RESERVE per class (R128). -/
  reserve : List Nat := [0,0,0,0]
  /-- ORDER (R130). -/
  order : List Nat := []
  /-- load step 6 is done (R216). -/
  step6Done : Bool := false
  /-- accepted PLAN instances (R131). -/
  plans : FMap PlanCfg := []
  /-- accepted networks (R135). -/
  nets : FMap NetCfg := []
  /-- SAF_SAFETY_RING (R441). -/
  safetyRings : BitVec 256 := 0#256
deriving DecidableEq, Repr

/-- The PRD block and the period generator (R30 to R68). -/
structure Prd where
  /-- PRD_STATUS.STATE (R67). -/
  gen : PrdGen := .idle
  /-- PRD_STATUS.ALIGN_MODE (R67). -/
  align : Nat := 0
  /-- PRD_STATUS.ABORT_DISCARD (R67). -/
  abortDiscard : Bool := false
  /-- PRD_STATUS.LOCK_TIMEOUT (R67). -/
  lockTimeout : Bool := false
  /-- PRD_LENGTH.P_US (R67). -/
  pUs : Nat := 0
  /-- PRD_MAJOR.N (R67). -/
  n : Nat := 0
  /-- PRD_MAJOR.SLOT (R35). -/
  slot : Nat := 0
  /-- PRD_COUNT (R34). -/
  count : Word := 0#32
  /-- PRD_EPOCH (R35). -/
  epoch : Word := 0#32
  /-- PRD_BOUNDARY (R67). -/
  boundary : DWord := 0#64
  /-- PRD_PHASE (R31). -/
  phase : DWord := 0#64
  /-- PRD_ABORTS, saturating (R67). -/
  aborts : Word := 0#32
  /-- PRD_LAST_ABORT (R67). -/
  lastAbort : Word := 0#32
  /-- PRD_DIG_SEL as written (R67). -/
  digSel : Word := 0#32
  /-- PRD_DIG_LAYER as written (R67). -/
  digLayer : Word := 0#32
  /-- PRD_DIG_SEL in effect since the last release (R68). -/
  digSelEff : Word := 0#32
  /-- PRD_DIG_LAYER in effect since the last release (R68). -/
  digLayerEff : Word := 0#32
  /-- PRD_DIG_STATUS.COUNT (R67). -/
  digCount : Nat := 0
  /-- PRD_DIG_STATUS.VALID (R67). -/
  digValid : Bool := false
  /-- PRD_DIG_STATUS.TRUNCATED (R67). -/
  digTrunc : Bool := false
  /-- PRD_DIG_STATUS.KILLED (R67). -/
  digKilled : Bool := false
  /-- PRD_DIG_PERIOD (R66). -/
  digPeriod : Word := 0#32
  /-- PRD_DIG_LOG, 256 entries (R66). -/
  digLog : FMap DWord := []
  /-- the selected job was released in the current period (R66). -/
  capReleased : Bool := false
  /-- the selected job's instance of this period was killed (R66). -/
  capKilled : Bool := false
  /-- layer digests captured in the current period, by layer (R66). -/
  capLayers : FMap DWord := []
  /-- tile digests captured in the current period, by tile (R66). -/
  capTiles : FMap DWord := []
  /-- a first boundary is fixed (the generator has started) (R32). -/
  started : Bool := false
  /-- device time of the next boundary, ns (R31). -/
  next : Nat := 0
  /-- device time at which LOCK_WAIT expires (R32). -/
  lockWaitEnd : Option Nat := none
  /-- a boundary has been reached in this start (R34). -/
  anyBoundary : Bool := false
  /-- the last capo switched plans: the next release starts the new plan at slot 0 (R393). -/
  switched : Bool := false
  /-- the first boundary sampled a change of E: the choice of R393 is due at the next one (R131). -/
  chooseDue : Bool := false
  /-- networks ready at the last dispatch freeze (R140). -/
  netSeen : BitVec 256 := 0#256
deriving DecidableEq, Repr

/-- What the pennant being built counts (R52). -/
structure PenAcc where
  /-- STATUS_COUNTS (R52). -/
  counts : List Nat := List.replicate 9 0
  /-- RING_DROPS (R52). -/
  ringDrops : Nat := 0
  /-- REFRESH_HITS (R52). -/
  refreshHits : Nat := 0
  /-- LINK_RETRIES (R52). -/
  linkRetries : Nat := 0
  /-- the period was partly in HOLDOVER (R71). -/
  holdover : Bool := false
  /-- a MISMATCH report arose (R482). -/
  mismatch : Bool := false
  /-- a link was fenced during part of the period (R488). -/
  fenced : Bool := false
  /-- STALLED_RING_MAP (R424). -/
  stalled : BitVec 256 := 0#256
  /-- SENTINEL_MAP (R52). -/
  sentinel : BitVec 256 := 0#256
  /-- dangerous reports of the period (R443). -/
  faults : BitVec 13 := 0#13
  /-- every one of them came from injection (R456). -/
  allInjected : Bool := true
  /-- the period runs on an instance other than 0 (R393). -/
  degraded : Bool := false
  /-- PLAN_ID of the plan that ran (R52). -/
  planId : Half := 0#16
  /-- SLOT of the period (R52). -/
  slot : Nat := 0
deriving DecidableEq, Repr

/-- The PEN block and SAFE_TOGGLE (R52, R53, R562). -/
structure Pen where
  /-- PEN_CUR0 to PEN_CUR31 (R562). -/
  cur : List Word := List.replicate 32 0#32
  /-- PEN_PREV0 to PEN_PREV31 (R562). -/
  prev : List Word := List.replicate 32 0#32
  /-- the pennant being built (R52). -/
  acc : PenAcc := {}
  /-- level of SAFE_TOGGLE (driven low in reset) (R47). -/
  safeToggle : Bool := false
deriving DecidableEq, Repr

/-- An END flit's content (R466). -/
structure EndInfo where
  /-- STATUS (R466). -/
  status : Nat := 0
  /-- LAYERS (R466). -/
  layers : Nat := 0
  /-- BIND_CHECK (R466). -/
  bindCheck : Word := 0#32
deriving DecidableEq, Repr

/-- A peer's DIGEST flit (R466). -/
structure PeerDig where
  /-- DIGEST (R466). -/
  digest : DWord := 0#64
  /-- BIND_CHECK (R466). -/
  bindCheck : Word := 0#32
  /-- INPUT bit 0 (R466). -/
  degraded : Bool := false
deriving DecidableEq, Repr

/-- A tile digest that reached the capo sequencer (R362). -/
structure TileDig where
  /-- layer (R362). -/
  layer : Nat := 0
  /-- tile (R362). -/
  tile : Nat := 0
  /-- the tile digest (R362). -/
  digest : DWord := 0#64
  /-- both sources were not empty: the tile counts as one that wrote output (R362). -/
  wrote : Bool := true
deriving DecidableEq, Repr

/-- A job instance (R372). -/
structure Inst where
  /-- INST, the 16-bit instance identifier (R329). -/
  id : Nat := 0
  /-- its job record (R371). -/
  job : JobCfg := {}
  /-- period counter of its period (R34). -/
  period : Word := 0#32
  /-- slot of its period (R35). -/
  slot : Nat := 0
  /-- boundary B of its period, ns (R39). -/
  b : Nat := 0
  /-- its state (R372). -/
  st : InstSt := .created
  /-- frames bound to its inputs (model frame numbers; 0 for none) (R176). -/
  bound : List Nat := []
  /-- frame bound by the job's previous released instance (0 for none) (R176). -/
  again : Nat := 0
  /-- release time r (R39). -/
  r : Option Nat := none
  /-- first decision instant (R387). -/
  firstDecision : Option Nat := none
  /-- admission instant (R387). -/
  admitAt : Option Nat := none
  /-- deferred at least once (R380). -/
  deferred : Bool := false
  /-- an input was delivered degraded (R176). -/
  degraded : Bool := false
  /-- missing-line count, saturating at 65,535 (R176). -/
  missing : Nat := 0
  /-- a decision for it waits for the engine (R376). -/
  queuedDecision : Bool := false
  /-- the test failed at its latest decision (R394). -/
  testFailed : Bool := false
  /-- t_s, dispatch instant (R383). -/
  tStart : Nat := 0
  /-- it is overrunning (R378). -/
  overrun : Bool := false
  /-- status fixed at dispatch (R422). -/
  status : Nat := 0
  /-- its gang (R373). -/
  gang : Nat := 0
  /-- its network's tile set (R374). -/
  tiles : List Nat := []
  /-- tiles on which its thread still runs (R327). -/
  running : List Nat := []
  /-- its class was disabled when it was created (R390). -/
  classOff : Bool := false
  /-- INDEX of its next record (R420). -/
  records : Nat := 0
  /-- its FINAL record is committed (R40). -/
  finalDone : Bool := false
  /-- it is locally done (R479). -/
  localDone : Bool := false
  /-- its period is matched on the PAIRED link: its comparison gates completion (R480). -/
  paired : Bool := false
  /-- BIND_CHECK (R466). -/
  bindCheck : Word := 0#32
  /-- own layer digests sent, by layer (R479). -/
  ownDigs : FMap DWord := []
  /-- the peer's digests, by layer (R480). -/
  peerDigs : FMap PeerDig := []
  /-- layers compared equal (R480). -/
  compared : List Nat := []
  /-- the peer's END (R480). -/
  peerEnd : Option EndInfo := none
  /-- its comparison is waived (R480). -/
  waived : Bool := false
  /-- tile digests received, until every opener has closed (R362). -/
  tileDigs : List TileDig := []
  /-- (layer, tile) pairs whose layer is open (R362). -/
  openLayers : List (Nat × Nat) := []
deriving DecidableEq, Repr

/-- The SCH block and the scheduler (R371 to R399). -/
structure Sch where
  /-- SCH_STATUS.PLAN, the running instance (R394). -/
  plan : Nat := 0
  /-- SCH_STATUS.NO_VARIANT (R394). -/
  noVariant : Bool := false
  /-- SCH_ABSENT.FORCE (R391). -/
  force : BitVec 4 := 0#4
  /-- SCH_ABSENT.SAMPLED (R392). -/
  sampled : BitVec 4 := 0#4
  /-- the sample of the boundary before (R392). -/
  prevSample1 : BitVec 4 := 0#4
  /-- SCH_ABSENT.EFFECTIVE, the effective set E (R392). -/
  eff : BitVec 4 := 0#4
  /-- SCH_CLASS_EN as written (R390). -/
  classEn : BitVec 4 := 0b1111#4
  /-- class enables in effect since the last release (R390). -/
  classEff : BitVec 4 := 0b1111#4
  /-- SCH_EVENTS (R394). -/
  events : Word := 0#32
  /-- SCH_GANG_MAP: gang number + 1 of each tile, 0 for none (R373). -/
  gangOf : FMap Nat := []
  /-- SCH_GANGS (R394). -/
  gangs : Nat := 0
  /-- SCH_QUEUE_PEAK (R394). -/
  queuePeak : Word := 0#32
  /-- SCH_SLIP_MAX (R394). -/
  slipMax : Word := 0#32
  /-- SCH_SWITCHES (R394). -/
  switches : Word := 0#32
  /-- SCH_OVERRUNS (R394). -/
  overruns : Word := 0#32
  /-- SCH_DECIDE_PEAK (R394). -/
  decidePeak : Word := 0#32
  /-- SCH_ADMIT_c by class (R394). -/
  admitC : FMap Word := []
  /-- SCH_DEFER_c (R394). -/
  deferC : FMap Word := []
  /-- SCH_SHED_c (R394). -/
  shedC : FMap Word := []
  /-- SCH_LATE_c (R394). -/
  lateC : FMap Word := []
  /-- SCH_JOB_LAST_j (R394). -/
  jobLast : FMap Word := []
  /-- SCH_JOB_DETAIL_j (R394). -/
  jobDetail : FMap Word := []
  /-- the instance table (R372). -/
  insts : List Inst := []
  /-- instances whose decision waits for the engine, in order, each with the device time at which it arose (R376). -/
  decideQ : List (Nat × Nat) := []
  /-- status + 1 of each job's instance that ended in the current period (MODEL's own, for the commit) (R49). -/
  ended : FMap Nat := []
  /-- frame bound by each job's previous released instance (R176). -/
  lastBound : FMap Nat := []
  /-- next INST identifier (MODEL's own choice of identifiers) (R329). -/
  nextInst : Nat := 1
deriving DecidableEq, Repr

/-- The timebase (R179 to R183). -/
structure Tb where
  /-- TB_STATUS.STATE (R184). -/
  state : TbSt := .free
  /-- TB_STATUS.AS_CAPABLE (R184). -/
  asCapable : Bool := false
  /-- TB_STATUS.GM_PRESENT (R184). -/
  gmPresent : Bool := false
  /-- TB_STATUS.STEPPED (R184). -/
  stepped : Bool := false
  /-- TB_STATUS.SLEWING (R184). -/
  slewing : Bool := false
  /-- TB_OFFSET, signed ns before saturation (R184). -/
  offset : Int := 0
  /-- TB_RATE, signed ppb (R184). -/
  ratePpb : Int := 0
  /-- increment of device time per PLL_T tick, in 2^-32 ns (R179). -/
  inc : Nat := 4 * 2 ^ 32
  /-- TB_PDELAY, ns (R184). -/
  pdelay : Nat := 0
  /-- E, TB_EPOCH (R180). -/
  epoch : Int := 0
  /-- TB_GM (R184). -/
  gm : DWord := 0#64
  /-- TB_SYNCS (R184). -/
  syncs : Word := 0#32
  /-- TB_HOLDOVERS (R184). -/
  holdovers : Word := 0#32
  /-- device time at which the current or last holdover began (R184). -/
  holdStart : Nat := 0
  /-- length of the last holdover that ended, ns; TB_HOLD_US while not in holdover (R184). -/
  holdNs : Nat := 0
  /-- TB_EPOCH_CHANGES (R184). -/
  epochChanges : Word := 0#32
  /-- TB_ONESTEP (R184). -/
  onestep : Word := 0#32
  /-- the next valid Sync is the first of an acquisition (R180). -/
  acquiring : Bool := true
  /-- consecutive Syncs within 100 ns (R181). -/
  goodSyncs : Nat := 0
  /-- consecutive Syncs more than 1 us off (R181). -/
  badSyncs : Nat := 0
  /-- rate ratios (ppb) of the last 8 Syncs (R183). -/
  rates : List Int := []
  /-- (gPTP time, device time) of the last valid Sync (R180). -/
  lastGptp : Option (Nat × Nat) := none
  /-- the first transition to LOCKED of this start has happened (R182). -/
  lockedOnce : Bool := false
  /-- Pdelay_Req messages without a response in a row (R179). -/
  lostResp : Nat := 0
  /-- a Pdelay_Req is outstanding (R179). -/
  reqOpen : Bool := false
  /-- sequence number of the last Pdelay_Req (R179). -/
  reqSeq : Half := 0#16
  /-- 802.1AS frames sent on Ethernet port 0, latest first (an output) (R152). -/
  tx : List (List Byte) := []
deriving DecidableEq, Repr

/-- A slot of a landing ring (R193): slot `idx` of the region of `frets` frets from fret `first` of a tile. -/
structure LandSlot where
  /-- tile of the region (R193). -/
  tile : Nat := 0
  /-- its lowest fret (R277). -/
  first : Nat := 0
  /-- its frets (R193). -/
  frets : Nat := 0
  /-- number of the slot in the region (R193). -/
  idx : Nat := 0
deriving DecidableEq, Repr

/-- What waits in a stream's landing ring and event queue (R194, R195): a frame-open event, a landed line, a per-frame carrier value, an EOF event, or an end without EOF. -/
inductive LandItem where
  | opened (fid : Nat)
  | line (fid row : Nat) (data : List Byte) (slot : LandSlot)
  | carrier (fid : Nat) (cv : List Byte)
  | eofEv (fid : Nat) (t : Nat)
  | endEv (fid : Nat) (t : Nat)
deriving DecidableEq, Repr

/-- A frame of a stream, from its opening at the port to the settling of its head (R173 to R176, R215). -/
structure Frame where
  /-- stream index (R156). -/
  stream : Nat := 0
  /-- start time, device time ns (R173). -/
  start : Nat := 0
  /-- raw frame counter value it carried (R198). -/
  raw : Nat := 0
  /-- device time at which its window ends, none for a frame that started before the first period (R174). -/
  windowEnd : Option Nat := none
  /-- its port still takes lines for it (R156). -/
  portOpen : Bool := true
  /-- it opened before its stream was ready: it lands without records (R99, R195). -/
  pre : Bool := false
  /-- it completed by EOF (R174). -/
  hasEof : Bool := false
  /-- next row under LINENUM 0 (R158). -/
  nextRow : Nat := 0
  /-- rows filled at the port, latest first (R158). -/
  placed : List Nat := []
  /-- lines discarded as excess (R175). -/
  excess : Nat := 0
  /-- the checks of frame open have run (R197). -/
  engaged : Bool := false
  /-- first frame after the stream became ready (R198). -/
  exempt : Bool := false
  /-- extended frame counter (R198). -/
  ext : Word := 0#32
  /-- GAP (R215). -/
  gap : Word := 0#32
  /-- GUARD bits (R215). -/
  guard : Byte := 0#8
  /-- a check has dropped it (R197). -/
  dropped : Bool := false
  /-- check 4 failed (R200). -/
  intervalBad : Bool := false
  /-- converted level-0 rows, by row (R207). -/
  rows : FMap (List Byte) := []
  /-- rows filled by PAD (R208). -/
  padded : List Nat := []
  /-- (level, band) pairs built (R212). -/
  built : List (Nat × Nat) := []
  /-- PART_COUNT (R215). -/
  parts : Nat := 0
  /-- store taken, 0 to 2 (R217). -/
  store : Option Nat := none
  /-- running per-frame check value (R201). -/
  cvRun : Word := 0#32
  /-- row after the last line fed (ascending order test) (R204). -/
  cvNext : Nat := 0
  /-- a line came out of ascending order (R204). -/
  cvBad : Bool := false
  /-- the carrier has been compared (R204). -/
  cvClosed : Bool := false
  /-- its completing event has been taken out of the ring (R174). -/
  closing : Bool := false
  /-- device time of its completing event (R218). -/
  closeT : Nat := 0
  /-- STATE of its store head (R215). -/
  state : FrameSt := .opened
  /-- MISSING (R215). -/
  missing : Nat := 0
  /-- completion instant (R218). -/
  settled : Nat := 0
deriving DecidableEq, Repr

/-- What the DZ keeps for a stream (R184, R193 to R200, R222). -/
structure StreamRt where
  /-- STRM_FRAMES (R184). -/
  frames : Word := 0#32
  /-- STRM_BAD.DEGRADED, saturating (R184). -/
  degradedCnt : Nat := 0
  /-- STRM_BAD.LOST, saturating (R184). -/
  lost : Nat := 0
  /-- STRM_LAST (R184). -/
  last : Word := 0#32
  /-- STRM_OPEN.OPEN, saturating (R184). -/
  openCnt : Nat := 0
  /-- STRM_OPEN.STALE, saturating (R184). -/
  stale : Nat := 0
  /-- STRM_SEQ_GAPS (R184). -/
  seqGaps : Word := 0#32
  /-- STRM_START (R184). -/
  startT : DWord := 0#64
  /-- STRM_LAST_FRAME (R184). -/
  lastFrame : Word := 0#32
  /-- INTAKE_GUARD0.CV_FAIL, saturating (R222). -/
  cvFail : Nat := 0
  /-- INTAKE_GUARD0.CTR_GAP, saturating (R222). -/
  ctrGap : Nat := 0
  /-- INTAKE_GUARD1.CTR_BAD, saturating (R222). -/
  ctrBad : Nat := 0
  /-- INTAKE_GUARD1.LAND_FULL, saturating (R222). -/
  landFull : Nat := 0
  /-- INTAKE_GUARD1.INTERVAL_ERR, saturating at 127 (R222). -/
  intervalErr : Nat := 0
  /-- INTAKE_GUARD1.NO_STORE (R222). -/
  noStore : Bool := false
  /-- sequence_num of the previous accepted 1722 frame (R162). -/
  seqPrev : Option Byte := none
  /-- line number supplied by the last LS on its VC, not yet used (R158). -/
  lsNum : Option Nat := none
  /-- frame open at the port (R156). -/
  openF : Option Nat := none
  /-- landing ring and event queue, oldest first (R194). -/
  ring : List LandItem := []
  /-- frame the intake engine is working on (R197). -/
  engF : Option Nat := none
  /-- the first frame since readiness has set the counter (R198). -/
  started : Bool := false
  /-- the stream has been ready in this start (R178). -/
  wasReady : Bool := false
  /-- extended frame counter (R198). -/
  ext : Word := 0#32
  /-- remembered raw value (R198). -/
  rawPrev : Nat := 0
  /-- start time of the previous frame (R200). -/
  prevStart : Nat := 0
  /-- model frame number from which frames count as opened since the stream became ready (R176). -/
  readyF : Nat := 0
  /-- DRAM address of its three stores (R216). -/
  storeBase : Option Nat := none
  /-- frame held by each store, 0 for never used (R217). -/
  storeUse : List Nat := [0,0,0]
  /-- a line waits for its unit's claim (R222). -/
  waitClaim : Bool := false
deriving DecidableEq, Repr

/-- A CSI-2 receiver (R184). -/
structure CsiPort where
  /-- CSI_STATUS.LINK, clock lane active (R184). -/
  clkLane : Bool := false
  /-- D-PHY calibrated (R608). -/
  calibrated : Bool := false
  /-- D-PHY calibration has failed (R608). -/
  calFail : Bool := false
  /-- CSI_PKTS (R184). -/
  pkts : Word := 0#32
  /-- CSI_ECC_CORR (R184). -/
  eccCorr : Word := 0#32
  /-- CSI_HDR_ERR (R184). -/
  hdrErr : Word := 0#32
  /-- CSI_CRC_ERR (R184). -/
  crcErr : Word := 0#32
  /-- CSI_UNMATCHED (R184). -/
  unmatched : Word := 0#32
  /-- CSI_ORPHAN (R184). -/
  orphan : Word := 0#32
  /-- CSI_LEN_ERR (R184). -/
  lenErr : Word := 0#32
  /-- CSI_DROP_FULL (R184). -/
  dropFull : Word := 0#32
  /-- CSI_EVENTS (R184). -/
  events : Word := 0#32
deriving DecidableEq, Repr

/-- An Ethernet MAC (R184, R185). -/
structure EthPort where
  /-- ETH_STATUS.LINK (R184). -/
  link : Bool := false
  /-- ETH_STATUS.RATE (R184). -/
  rate : Nat := 0
  /-- ETH_FRAMES (R184). -/
  frames : Word := 0#32
  /-- ETH_FCS_ERR (R184). -/
  fcsErr : Word := 0#32
  /-- ETH_OTHER (R184). -/
  other : Word := 0#32
  /-- ETH_MALFORMED (R184). -/
  malformed : Word := 0#32
  /-- ETH_UNMATCHED (R184). -/
  unmatched : Word := 0#32
  /-- ETH_ORPHAN (R184). -/
  orphan : Word := 0#32
  /-- ETH_DROP_FULL (R184). -/
  dropFull : Word := 0#32
  /-- ETH_ADDR, kept as the exclusive-or with its reset value of R185 (R185). -/
  addrXor : BitVec 48 := 0#48
  /-- the address in effect for transmitted frames, in the same form (R185). -/
  txXor : BitVec 48 := 0#48
  /-- ETH_EVENTS (R184). -/
  events : Word := 0#32
deriving DecidableEq, Repr

/-- A 10BASE-T1S port (R166 to R168, R184). -/
structure T1sPort where
  /-- T1S_STATUS.LINK, PLCA running (R184). -/
  plca : Bool := false
  /-- T1S_FRAMES (R184). -/
  frames : Word := 0#32
  /-- T1S_FCS_ERR (R184). -/
  fcsErr : Word := 0#32
  /-- T1S_UNMATCHED (R184). -/
  unmatched : Word := 0#32
  /-- T1S_MALFORMED (R184). -/
  malformed : Word := 0#32
  /-- T1S_ORPHAN (R184). -/
  orphan : Word := 0#32
  /-- T1S_CYCLES (R184). -/
  cycles : Word := 0#32
  /-- T1S_RECOVERIES (R184). -/
  recoveries : Word := 0#32
  /-- T1S_COLLISIONS (R184). -/
  collisions : Word := 0#32
  /-- T1S_EVENTS (R184). -/
  events : Word := 0#32
  /-- node whose transmit opportunity runs (R167). -/
  opp : Nat := 0
  /-- PLCA recovery waits for silence (R168). -/
  recovering : Bool := false
deriving DecidableEq, Repr

/-- A segment handed on by a port, waiting to be taken (R164). -/
structure SegReq where
  /-- port kind (R124) (R164). -/
  kind : Nat := 0
  /-- port (R164). -/
  port : Nat := 0
  /-- its stream (R164). -/
  stream : Nat := 0
  /-- ingress timestamp (R173). -/
  t : Nat := 0
  /-- the segment (R164). -/
  data : List Byte := []
deriving DecidableEq, Repr

/-- The sensor ports, the streams and the intake engine (R151 to R227). -/
structure Strm where
  /-- the CSI-2 receivers (R151). -/
  csi : FMap CsiPort := []
  /-- the Ethernet MACs (R151). -/
  eth : FMap EthPort := []
  /-- the 10BASE-T1S ports (R151). -/
  t1s : FMap T1sPort := []
  /-- the streams (R184). -/
  rt : FMap StreamRt := []
  /-- frames, by model frame number (R173). -/
  frm : FMap Frame := []
  /-- next model frame number (MODEL's own names) (R173). -/
  nextF : Nat := 1
  /-- segments handed on and not yet taken (R164). -/
  segQ : List SegReq := []
  /-- intake accepts no frames (standby entry) (R86). -/
  stopped : Bool := false
  /-- INTAKE_LINES (R222). -/
  lines : Word := 0#32
  /-- INTAKE_LAND_FULL (R222). -/
  landFullC : Word := 0#32
  /-- INTAKE_CV_FAIL (R222). -/
  cvFailC : Word := 0#32
  /-- INTAKE_NO_STORE (R222). -/
  noStoreC : Word := 0#32
  /-- INTAKE_CV_WAIT_MAX (R222). -/
  cvWaitMax : Word := 0#32
  /-- INTAKE_PARTS (R222). -/
  partsC : DWord := 0#64
  /-- INTAKE_SETTLE_MAX (R222). -/
  settleMax : Word := 0#32
  /-- INTAKE_EVENTS (R222). -/
  events : Word := 0#32
deriving DecidableEq, Repr

/-- A subscriber of a fetch (R305). -/
structure SubRef where
  /-- subscribing tile (R305). -/
  tile : Nat := 0
  /-- its job instance (R305). -/
  inst : Nat := 0
  /-- the layer (R305). -/
  layer : Nat := 0
deriving DecidableEq, Repr

/-- A bow-page fetch queued or issued (R305, R306). -/
structure Fetch where
  /-- network (R305). -/
  net : Nat := 0
  /-- page of the archive (R305). -/
  page : Nat := 0
  /-- deadline it is keyed by (R305). -/
  key : Nat := 0
  /-- its route (R305). -/
  subs : List SubRef := []
  /-- asked of the lead over a JOINED link (R487). -/
  remote : Bool := false
  /-- link whose PAGE_REQ it serves (R487). -/
  fromPeer : Option Nat := none
deriving DecidableEq, Repr

/-- An entry of the pager's staging buffer (R305). -/
structure Staged where
  /-- network (R305). -/
  net : Nat := 0
  /-- page (R305). -/
  page : Nat := 0
  /-- its route (R305). -/
  subs : List SubRef := []
  /-- an uncorrectable DRAM error met its read (R610). -/
  bad : Bool := false
  /-- the page is whole in staging (R305). -/
  whole : Bool := false
  /-- CHECK has been verified (R305). -/
  ready : Bool := false
  /-- it has been read once more (R319). -/
  retried : Bool := false
  /-- job it was prefetched for (R307). -/
  pre : Option Nat := none
  /-- the page (R305). -/
  data : List Byte := []
  /-- the lead is asked for it (R487). -/
  remote : Bool := false
  /-- link whose PAGE_REQ it serves (R487). -/
  fromPeer : Option Nat := none
  /-- deadline (R305). -/
  key : Nat := 0
deriving DecidableEq, Repr

/-- A page on its way to a subscriber (R299). -/
structure InFlight where
  /-- subscriber tile (R299). -/
  tile : Nat := 0
  /-- its instance (R299). -/
  inst : Nat := 0
  /-- network (R299). -/
  net : Nat := 0
  /-- page (R299). -/
  page : Nat := 0
  /-- layer (R299). -/
  layer : Nat := 0
  /-- the page (R299). -/
  data : List Byte := []
  /-- an uncorrectable error on a lane before this tile has marked the copy (R320). -/
  bad : Bool := false
deriving DecidableEq, Repr

/-- A part or head read at the pager (R311). -/
structure PartRead where
  /-- requesting tile (R311). -/
  tile : Nat := 0
  /-- its instance (R311). -/
  inst : Nat := 0
  /-- P ticket (R348). -/
  ticket : Nat := 0
  /-- DRAM source address (R311). -/
  src : Nat := 0
  /-- 4096 or 64 (R311). -/
  len : Nat := 0
  /-- destination handle (R311). -/
  handle : Half := 0#16
  /-- destination offset (R311). -/
  off : Nat := 0
deriving DecidableEq, Repr

/-- An activation spill slot in use (R313, R314). -/
structure SpillSlot where
  /-- CRC-32C kept on die (R314). -/
  crc : Word := 0#32
  /-- tile of the place (R313). -/
  tile : Nat := 0
  /-- a DRAM error met its write (R610). -/
  bad : Bool := false
deriving DecidableEq, Repr

/-- The DRAM block, the pager and the memory (R295 to R323). -/
structure Dram where
  /-- DRAM_STATUS.TRAINED (R317). -/
  trained : Bool := false
  /-- DRAM_STATUS.REFRESH_2X (R317). -/
  refresh2x : Bool := false
  /-- DRAM_STATUS.CHANNELS (R317). -/
  channels : Nat := 0
  /-- DRAM_CAPACITY, set at training (R317). -/
  capacityMiB : Nat := 0
  /-- size of the spill area in MiB, fixed when the ALLOC check is made (R308). -/
  spillMiB : Nat := 0
  /-- the ALLOC check (or the default) has fixed the spill area (R216). -/
  spillFixed : Bool := false
  /-- the frame stores are reserved (R216). -/
  storesDone : Bool := false
  /-- DRAM_SPILL_BASE, MiB (R317). -/
  spillBase : Nat := 0
  /-- DRAM address of activation spill slot 0 (R308). -/
  slotBase : Nat := 0
  /-- DRAM_SPILL_SLOTS (R317). -/
  slotCount : Nat := 0
  /-- activation spill slots in use (R313). -/
  slots : FMap (Option SpillSlot) := []
  /-- DRAM_SPILL_PEAK (R317). -/
  spillPeak : Word := 0#32
  /-- DRAM_EVENTS (R317). -/
  events : Word := 0#32
  /-- DRAM_QUEUE_PEAK (R317). -/
  queuePeak : Word := 0#32
  /-- DRAM_CANCELLED (R317). -/
  cancelled : Word := 0#32
  /-- DRAM_FETCHES (R317). -/
  fetches : DWord := 0#64
  /-- DRAM_REFETCHES (R317). -/
  refetches : Word := 0#32
  /-- DRAM_REFRESH_HITS (R317). -/
  refreshHits : Word := 0#32
  /-- DRAM_DATA_BUSY (R317). -/
  dataBusy : DWord := 0#64
  /-- DRAM_POISON (R317). -/
  poisonFirst : Word := 0#32
  /-- DRAM_HOST_CHUNKS (R317). -/
  hostChunks : Word := 0#32
  /-- (network, page) pairs poisoned in this start (R319). -/
  poisoned : List (Nat × Nat) := []
  /-- (network, page) pairs fetched in this period (R306). -/
  fetched : List (Nat × Nat) := []
  /-- fetches queued (R305). -/
  queue : List Fetch := []
  /-- staging buffer, at most 16 entries (R305). -/
  staging : List Staged := []
  /-- pages injected and not yet usable (R299). -/
  flight : List InFlight := []
  /-- part and head reads outstanding, oldest first (R311). -/
  reads : List PartRead := []
  /-- next bank to refresh on each channel (R312). -/
  bank : FMap Nat := []
  /-- bank under refresh + 1 on each channel, 0 for none (R312). -/
  refresh : FMap Nat := []
  /-- DRAM contents; an unlisted byte reads 0 (DESIGN CHOICE) (R308). -/
  mem : List Host.Cell := []
deriving DecidableEq, Repr

/-- The host DMA path (R428). -/
structure Hdma where
  /-- DRAM_HDMA_SRC (R433). -/
  src : DWord := 0#64
  /-- DRAM_HDMA_DST (R433). -/
  dst : DWord := 0#64
  /-- DRAM_HDMA_LEN (R433). -/
  len : Word := 0#32
  /-- source of the transfer under way, as START took it (R428). -/
  curSrc : Nat := 0
  /-- its destination (R428). -/
  curDst : Nat := 0
  /-- its length (R428). -/
  curLen : Nat := 0
  /-- DRAM_HDMA_STATUS.STATE (R433). -/
  state : Nat := 0
  /-- DRAM_HDMA_STATUS.CODE (R433). -/
  code : Nat := 0
  /-- DRAM_HDMA_BYTES (R433). -/
  bytes : Word := 0#32
deriving DecidableEq, Repr

/-- One accumulator entry (R228, R238). -/
structure CellAcc where
  /-- its 32 bits (R228). -/
  val : Word := 0#32
  /-- domain of the pass that used it last: 0 none, 1 SPATIAL, 2 WINOGRAD, 3 SPECTRAL (R238). -/
  dom : Nat := 0
  /-- drained with DRAIN other than NONE since (R238). -/
  drained : Bool := false
deriving DecidableEq, Repr

/-- A queued pass descriptor (R233, R351). -/
structure PassReq where
  /-- its 64 bytes (R233). -/
  bytes : List Byte := []
  /-- instance that queued it (R351). -/
  inst : Nat := 0
  /-- A ticket (R348). -/
  ticket : Nat := 0
  /-- layer of the current subscription it bound to (R303). -/
  layer : Option Nat := none
  /-- open layer it belongs to (R362). -/
  digest : Option Nat := none
  /-- pages freed after the running pass had loaded its blocks of them, by page (MODEL's own) (R304). -/
  loaded : FMap (List Byte) := []
  /-- error code fixed when it was queued (binding), 0 for none (R257). -/
  ecode : Nat := 0
  /-- of those, the pages whose copy was marked (R320). -/
  loadedBad : List Nat := []
  /-- bytes its drain has written so far (R243, R259). -/
  drained : Nat := 0
deriving DecidableEq, Repr

/-- A tile's array and ARR registers (R228 to R263). -/
structure Arr where
  /-- descriptor queue, 8 entries (R235). -/
  queue : List PassReq := []
  /-- passes started and not completed, oldest first (R235). -/
  running : List PassReq := []
  /-- accumulator bank: entry e of column c at 512c + e (R228). -/
  acc : FMap CellAcc := []
  /-- ARR_STATUS.DOMAIN, 0 while operands are invalid (R256). -/
  wDomain : Nat := 0
  /-- the block in the cells' active weight registers, none while they are invalid (R228, R240). -/
  active : Option (List Byte) := none
  /-- the block in the cells' shadow weight registers, none while they are invalid (R228, R240). -/
  shadow : Option (List Byte) := none
  /-- the weight registers were invalidated since the last pass (R241). -/
  keepBad : Bool := false
  /-- ARR_EVENTS (R256). -/
  events : Word := 0#32
  /-- ARR_LAST_ERR (R256). -/
  lastErr : Word := 0#32
  /-- ARR_ECC_CORR (R256). -/
  eccCorr : Word := 0#32
  /-- ARR_PASSES (R256). -/
  passes : DWord := 0#64
  /-- ARR_ISSUE (R256). -/
  issue : DWord := 0#64
  /-- ARR_LOAD_STALL (R256). -/
  loadStall : DWord := 0#64
  /-- ARR_WAIT_WEIGHT (R256). -/
  waitWeight : DWord := 0#64
  /-- ARR_WAIT_ACT (R256). -/
  waitAct : DWord := 0#64
  /-- ARR_GATED (R256). -/
  gated : DWord := 0#64
  /-- ARR_SENT_CRC (R256). -/
  sentCrc : DWord := 0#64
  /-- vectors of the last step issued, 0 for none (R240). -/
  lastV : Nat := 0
  /-- ARR_SENT_HIST (R256). -/
  sentHist : Word := 0#32
deriving DecidableEq, Repr

/-- A victim being copied out (R281, R293, R314). -/
structure Spill where
  /-- the victim fret (R281). -/
  fret : Nat := 0
  /-- the entry it belongs to (R281). -/
  entry : Nat := 0
  /-- its spill slot (R313). -/
  slot : Nat := 0
  /-- the instance whose request it serves (R293). -/
  req : Nat := 0
deriving DecidableEq, Repr

/-- Where one fret of a granted region lies (R276): in a fret, in a spill slot, or on its way back from a slot into a granted fret. -/
inductive Place where
  | fret (f : Nat)
  | spilled (slot : Nat)
  | restoring (slot f : Nat)
deriving DecidableEq, Repr

/-- A fret (R276, R281). -/
structure Fret where
  /-- its state (R276). -/
  st : FretSt := .free
  /-- its age (R281). -/
  age : Nat := 0
  /-- entry it belongs to while GRANTED or SPILLING (R276). -/
  entry : Nat := 0
  /-- owning stream while LANDING (R193). -/
  stream : Nat := 0
deriving DecidableEq, Repr

/-- A granted entry of the region table (R270). -/
structure RegEnt where
  /-- the entry is live (R270). -/
  live : Bool := false
  /-- GEN of its latest grant (R270). -/
  gen : Nat := 0
  /-- owning instance (R271). -/
  inst : Nat := 0
  /-- its frets in order (R276). -/
  places : List Place := []
deriving DecidableEq, Repr

/-- A STATE region on a tile (R273). -/
structure StateReg where
  /-- region index (R273). -/
  region : Nat := 0
  /-- writer job (R131). -/
  writer : Nat := 0
  /-- frets of the CUR copy (R273). -/
  cur : List Nat := []
  /-- frets of the NEXT copy (R273). -/
  nxt : List Nat := []
  /-- generation counter (R49). -/
  gen : Word := 0#32
deriving DecidableEq, Repr

/-- A waiting allocator request (R278, R276). -/
structure AllocReq where
  /-- requesting instance (R278). -/
  inst : Nat := 0
  /-- its class (R278). -/
  cls : Nat := 0
  /-- FRETS (R278). -/
  n : Nat := 0
  /-- RING (R278). -/
  ring : Nat := 3
  /-- SPREAD (R278). -/
  spread : Bool := false
  /-- WAIT (R278). -/
  waits : Bool := true
  /-- s register that takes the answer (R353). -/
  rd : Nat := 0
  /-- device time at which it arrived (R289). -/
  since : Nat := 0
  /-- (entry, place) of a spilled place to be restored (R276). -/
  restore : Option (Nat × Nat) := none
  /-- another request waited on the tile when it arrived (R282). -/
  behind : Bool := false
deriving DecidableEq, Repr

/-- A queued memory operation (R352). -/
structure MemOp where
  /-- its 32 bytes (R352). -/
  bytes : List Byte := []
  /-- instance that queued it (R352). -/
  inst : Nat := 0
  /-- M ticket (R348). -/
  ticket : Nat := 0
deriving DecidableEq, Repr

/-- A tile's scratchpad, allocator and SPM registers (R264 to R294). -/
structure Spm where
  /-- scratchpad bytes, fret f byte b at 4096f + b; an unlisted byte reads 0 (R264). -/
  mem : List Host.Cell := []
  /-- the frets (R276). -/
  frets : FMap Fret := []
  /-- DIRTY frets in the order the scrubber takes them (R286). -/
  dirtyQ : List Nat := []
  /-- granted entries 33 to 127 (R270). -/
  ents : FMap RegEnt := []
  /-- STATE regions in ascending region index (R273). -/
  states : List StateReg := []
  /-- waiting requests, in order of class and arrival (R282). -/
  reqs : List AllocReq := []
  /-- the victims being copied out (R281). -/
  spilling : List Spill := []
  /-- memory-engine queue, 4 entries (R275). -/
  memQ : List MemOp := []
  /-- diagnostic state (R288). -/
  diag : Bool := false
  /-- SPM_DIAG_CTRL.FRET (R289). -/
  diagFret : Nat := 0
  /-- SPM_EVENTS (R289). -/
  events : Word := 0#32
  /-- SPM_ECC_CORR (R289). -/
  eccCorr : Word := 0#32
  /-- SPM_GRANTS (R289). -/
  grants : Word := 0#32
  /-- SPM_REFUSALS (R289). -/
  refusals : Word := 0#32
  /-- SPM_SPILLS (R289). -/
  spills : Word := 0#32
  /-- SPM_RESTORES (R289). -/
  restores : Word := 0#32
  /-- SPM_WAIT_MAX (R289). -/
  waitMax : Word := 0#32
  /-- SPM_CONF_A0 to _A15 (R289). -/
  confA : FMap Word := []
  /-- SPM_CONF_C0 to _C15 (R289). -/
  confC : FMap Word := []
deriving DecidableEq, Repr

/-- A page in a slot of the bow window (R301 to R304). -/
structure BowPage where
  /-- held by the next subscription (else by the current one) (R302). -/
  next : Bool := false
  /-- page of the archive (R301). -/
  page : Nat := 0
  /-- it has arrived and its window check is complete (R299). -/
  usable : Bool := false
  /-- its bytes (R301). -/
  data : List Byte := []
  /-- marked for release (R304). -/
  marked : Bool := false
  /-- its subscription has ended (R304). -/
  ended : Bool := false
  /-- its forwarding is done (R304). -/
  fwdDone : Bool := false
  /-- the copy carries the poison mark (R320). -/
  poisoned : Bool := false
deriving DecidableEq, Repr

/-- A subscription (R301). -/
structure BowSub where
  /-- network (R301). -/
  net : Nat := 0
  /-- layer (R301). -/
  layer : Nat := 0
  /-- instance (R301). -/
  inst : Nat := 0
  /-- pages made eligible so far (R305). -/
  elig : Nat := 0
  /-- the highest block index of its retire commands (R304). -/
  retired : Nat := 0
  /-- device time since which a slot on this tile is all its next page waits for (R318). -/
  waitFrom : Option Nat := none
deriving DecidableEq, Repr

/-- A tile's bow window and BOW registers (R298 to R304, R318). -/
structure Bow where
  /-- current subscription (R301). -/
  cur : Option BowSub := none
  /-- next subscription (R301). -/
  nxt : Option BowSub := none
  /-- occupied slots, at most 4 (R302). -/
  slots : List BowPage := []
  /-- BOW_EVENTS (R318). -/
  events : Word := 0#32
  /-- BOW_RECEIVED (R318). -/
  received : Word := 0#32
  /-- BOW_FORWARDED (R318). -/
  forwarded : Word := 0#32
  /-- BOW_LANE_CORR (R318). -/
  laneCorr : Word := 0#32
  /-- BOW_SLOT_WAIT_MAX (R318). -/
  slotWaitMax : Word := 0#32
deriving DecidableEq, Repr

/-- A message (R355). -/
structure Msg where
  /-- sender's tile (R355). -/
  src : Nat := 0
  /-- destination tile (R355). -/
  dst : Nat := 0
  /-- mailbox (R355). -/
  mbox : Nat := 0
  /-- sender's instance (R355). -/
  inst : Nat := 0
  /-- peer's MOD_POS when it came over a link (R485). -/
  pos : Option Nat := none
  /-- payload (R355). -/
  data : BitVec 256 := 0#256
deriving DecidableEq, Repr

/-- A check-value unit (R359 to R361). -/
structure CvUnit where
  /-- its holder (R366). -/
  holder : CvHolder := .none
  /-- running value (R359). -/
  run : Word := 0#32
  /-- frame of a per-frame intake claim (R203). -/
  frame : Nat := 0
deriving DecidableEq, Repr

/-- Tickets of one unit (R348, R349). -/
structure UnitTk where
  /-- issued count (R348). -/
  issued : Half := 0#16
  /-- completed count (R348). -/
  completed : Half := 0#16
  /-- status words of its last 8 completions, latest first (R349). -/
  words : List (Half × Word) := []
deriving DecidableEq, Repr

/-- A tile core and TC registers (R324 to R370). -/
structure Tc where
  /-- instance whose thread it runs (R326). -/
  inst : Option Nat := none
  /-- s0 to s31 (R324). -/
  s : List Word := List.replicate 32 0#32
  /-- v0 to v15 (R324). -/
  v : List (BitVec 256) := List.replicate 16 0#256
  /-- p0 to p3 (R324). -/
  p : List Word := List.replicate 4 0#32
  /-- b0 to b7 with their DIG flags (R324). -/
  b : List (Half × Bool) := List.replicate 8 (0#16, false)
  /-- PC (R324). -/
  pc : Half := 0#16
  /-- tickets of unit A (R348). -/
  tkA : UnitTk := {}
  /-- tickets of unit M (R348). -/
  tkM : UnitTk := {}
  /-- tickets of unit P (R348). -/
  tkP : UnitTk := {}
  /-- tickets of unit R (R348). -/
  tkR : UnitTk := {}
  /-- FPFLAGS.INVALID (R341). -/
  fpInvalid : Bool := false
  /-- FPFLAGS.OVERFLOW (R341). -/
  fpOverflow : Bool := false
  /-- watchdog window low (R364). -/
  wdLow : Nat := 0
  /-- watchdog window high (R364). -/
  wdHigh : Nat := 0
  /-- watchdog budget, us (R364). -/
  wdBudget : Nat := 0
  /-- remaining count as of its last restart, us (R364). -/
  wdLeft : Nat := 0
  /-- CYCLE: tile-core cycles since the dispatch (R329). -/
  cyc : Nat := 0
  /-- the watchdog is armed (a thread runs) (R364). -/
  wdArmed : Bool := false
  /-- the thread holds unit 0 (R324). -/
  claim0 : Bool := false
  /-- the thread holds unit 1 (R324). -/
  claim1 : Bool := false
  /-- open layer (R362). -/
  digOpen : Option Nat := none
  /-- running CRC-64 of the array source (R362). -/
  digArr : DWord := 0#64
  /-- bytes the array source has taken, in drain order (MODEL's own, for the tile digest) (R362). -/
  digArrData : List Byte := []
  /-- the array source is not empty (R362). -/
  digArrAny : Bool := false
  /-- running CRC-64 of the core source (R362). -/
  digCore : DWord := 0#64
  /-- core byte count (R324). -/
  digCoreN : Nat := 0
  /-- bytes of the core source, in program order (MODEL's own, for the tile digest) (R362). -/
  digCoreData : List Byte := []
  /-- TC_STATUS.STALL (R366). -/
  stall : Nat := 0
  /-- s register waiting for the allocator's answer (R353). -/
  allocRd : Option Nat := none
  /-- RPUB commands outstanding (R363). -/
  rpubOut : Nat := 0
  /-- part and head reads outstanding (R310). -/
  readsOut : Nat := 0
  /-- TC_EXC (R366). -/
  exc : Word := 0#32
  /-- TC_EXC_INSN (R366). -/
  excInsn : Word := 0#32
  /-- TC_EVENTS (R366). -/
  events : Word := 0#32
  /-- TC_ECC_CORR (R366). -/
  eccCorr : Word := 0#32
  /-- TC_RETIRED (R366). -/
  retired : DWord := 0#64
  /-- TC_STALL (R366). -/
  stallC : DWord := 0#64
  /-- TC_EXCEPTIONS (R366). -/
  exceptions : Word := 0#32
  /-- TC_MSG_RETRIES (R366). -/
  msgRetries : Word := 0#32
  /-- TC_MSG_DISCARDS (R366). -/
  msgDiscards : Word := 0#32
  /-- mailboxes 0 to 7, oldest entry first, 4 entries each (R355). -/
  mbox : FMap (List Msg) := []
  /-- returned messages held by the router, at most 2 (R356). -/
  returned : List Msg := []
  /-- check-value unit 0 (R359). -/
  cv0 : CvUnit := {}
  /-- check-value unit 1 (R359). -/
  cv1 : CvUnit := {}
  /-- who waits for unit 0, in order (R203). -/
  cvWait : List CvHolder := []
  /-- who waits for unit 1, in order (R203). -/
  cvWait1 : List CvHolder := []
deriving DecidableEq, Repr

/-- One tile (R228, R264, R301, R324). -/
structure Tile where
  /-- its array (R228). -/
  arr : Arr := {}
  /-- its scratchpad (R264). -/
  spm : Spm := {}
  /-- its bow window (R301). -/
  bow : Bow := {}
  /-- its tile core (R324). -/
  tc : Tc := {}
  /-- instruction memory, byte by byte; an unlisted byte reads 0 (R325). -/
  imem : List Host.Cell := []
  /-- TILE_OVL (R430). -/
  ovl : Word := 0#32
  /-- its byte of SAF_EXCL (R446). -/
  excl : Nat := 0
  /-- the exclusion is in effect (from the release after the report) (R446). -/
  exclEff : Bool := false
  /-- device time of the tile's latest failure of cause 1 or 3 (R457). -/
  failT : Option Nat := none
deriving DecidableEq, Repr

/-- A page of a ring being filled or waiting to be published (R415, R417). -/
structure RingPage where
  /-- its number q, the SEQ of its head (modulo 2^32) (R415). -/
  num : Nat := 0
  /-- FLAGS (R415). -/
  flags : Byte := 0#8
  /-- RECORDS (R415). -/
  records : Nat := 0
  /-- USED (R415). -/
  used : Nat := 0
  /-- FIRST (R415). -/
  first : Nat := 0xFFFF
  /-- body bytes in use (R415). -/
  body : List Byte := []
  /-- PERIOD, set when it closes (R415). -/
  period : Word := 0#32
  /-- T_CLOSE (R415). -/
  tClose : DWord := 0#64
  /-- pending records in it: (job instance, body offset of the header) (R419). -/
  pend : List (Nat × Nat) := []
  /-- it is published together with the next page (R417). -/
  spanNext : Bool := false
deriving DecidableEq, Repr

/-- A record on its way to a ring (R416, R418). -/
structure RecReq where
  /-- its number in the order in which records reached the ring engine (R418). -/
  arrival : Nat := 0
  /-- INDEX of a record the DZ produces itself (R420). -/
  place : Nat := 0
  /-- the DZ produces it itself (R418). -/
  own : Bool := true
  /-- publishing tile (R420). -/
  tile : Nat := 0xFFFF
  /-- its instance (0 for none) (R419). -/
  inst : Nat := 0
  /-- R ticket (R348). -/
  ticket : Nat := 0
  /-- check-value unit (R363). -/
  unit : Nat := 0
  /-- the ring engine took the claim itself (R363). -/
  unitTaken : Bool := false
  /-- FINAL (R420). -/
  final : Bool := false
  /-- RING (R420). -/
  ring : Nat := 0
  /-- STATUS (R420). -/
  status : Nat := 0
  /-- DETAIL (R420). -/
  detail : Word := 0#32
  /-- payload (R420). -/
  payload : List Byte := []
  /-- STREAM (R420). -/
  stream : Nat := 0
  /-- NETWORK (R420). -/
  net : Nat := 0
  /-- CLASS (R420). -/
  cls : Nat := 0
  /-- JOB (R420). -/
  job : Nat := 0
  /-- FRAME (R420). -/
  frame : Word := 0#32
  /-- PERIOD (R420). -/
  period : Word := 0#32
  /-- T_INPUT (R420). -/
  tInput : Nat := 0
  /-- MISSING (R420). -/
  missing : Nat := 0
deriving DecidableEq, Repr

/-- A record placed and still being transferred (R416). -/
structure Xfer where
  /-- the record (R416). -/
  item : RecReq := {}
  /-- number of the page it begins in (R416). -/
  firstPage : Nat := 0
  /-- body offset at which it begins (R416). -/
  off : Nat := 0
  /-- S (R416). -/
  size : Nat := 0
  /-- INDEX (R420). -/
  index : Nat := 0
  /-- T_COMPLETE: device time at which the engine took it (R420). -/
  tTake : Nat := 0
  /-- fresh pages it opened (0: it lies in the open page) (R416). -/
  fresh : Nat := 0
  /-- the ring's CLOSE mode when it was taken (R432). -/
  close : Nat := 0
deriving DecidableEq, Repr

/-- A result ring (R412 to R434). -/
structure Ring where
  /-- RING_BASE (R431). -/
  base : DWord := 0#64
  /-- RING_CTRL.RUN (R431). -/
  run : Bool := false
  /-- RING_CTRL.CLOSE (R431). -/
  close : Nat := 0
  /-- RING_PROD (R431). -/
  prod : Word := 0#32
  /-- RING_CONS (R431). -/
  cons : Word := 0#32
  /-- RING_NEXT (R431). -/
  next : Word := 0#32
  /-- RING_STATUS.STALLED (R424). -/
  stalled : Bool := false
  /-- RING_STATUS.SUMMARY_PENDING (R425). -/
  summary : Bool := false
  /-- RING_EVENTS (R431). -/
  events : Word := 0#32
  /-- RING_DROPS (R431). -/
  drops : Word := 0#32
  /-- RING_ABANDONS (R431). -/
  abandons : Word := 0#32
  /-- RING_OFF_DROPS (R431). -/
  offDrops : Word := 0#32
  /-- RING_TOO_LONG (R431). -/
  tooLong : Word := 0#32
  /-- RING_RECORDS (R431). -/
  records : Word := 0#32
  /-- the open page (R416). -/
  openP : Option RingPage := none
  /-- closed pages not yet published, oldest first (R417). -/
  closed : List RingPage := []
  /-- the record in transfer (R416). -/
  xfer : Option Xfer := none
  /-- DROPPED since the last summary (R425). -/
  sumDropped : Nat := 0
  /-- ABANDONED since the last summary (R425). -/
  sumAbandoned : Nat := 0
  /-- FIRST_PERIOD (R425). -/
  sumFirst : Word := 0#32
  /-- LAST_PERIOD (R425). -/
  sumLast : Word := 0#32
deriving DecidableEq, Repr

/-- An entry of the mesh to PCIe queue: a write to a host address, or the completion of a memory read with its words and its
status, which a write queued before it may not be passed by (R402, R403). -/
inductive Posted where
  | write (addr : Nat) (bytes : List Byte)
  | completion (data : List Word) (status : Nat)
deriving DecidableEq, Repr

/-- The RING block, the mirror and the posted-write queue (R409 to R437). -/
structure RingBlk where
  /-- rings 0 to 255 (R412). -/
  rings : FMap Ring := []
  /-- RING_MIRROR_LO (R433). -/
  mirrorLo : Word := 0#32
  /-- RING_MIRROR_HI (R433). -/
  mirrorHi : Word := 0#32
  /-- RING_GEVENTS (R433). -/
  gevents : Word := 0#32
  /-- RING_STALLS (R433). -/
  stalls : Word := 0#32
  /-- RING_RESYNCS (R433). -/
  resyncs : Word := 0#32
  /-- RING_ENGINE_PEAK (R433). -/
  enginePeak : Word := 0#32
  /-- RING_HOST.WRITE_STALL (R433). -/
  writeStall : Bool := false
  /-- records the DZ produces itself, waiting for the ring engine (R418). -/
  own : List RecReq := []
  /-- RPUB records waiting in the engine, at most 64 (R418). -/
  rpub : List RecReq := []
  /-- RPUB records that wait in the mesh queues of their tiles for room in the engine, oldest first (R418). -/
  rpubWait : List RecReq := []
  /-- records that have reached the ring engine in this start (R418). -/
  arrivals : Nat := 0
  /-- posted writes not yet accepted, and the completions of memory reads that wait behind them, oldest first (R403, R426). -/
  posted : List Posted := []
  /-- what the DZ has written to host memory (an output) (R409). -/
  hostMem : List Host.Cell := []
deriving DecidableEq, Repr

/-- The PCIe endpoint (R400 to R403). -/
structure Pcie where
  /-- the link is in L0 (R98). -/
  l0 : Bool := false
  /-- the link is in L2 (R86). -/
  l2 : Bool := false
  /-- level of PCIE_PERST_N (R93). -/
  perstN : Bool := true
  /-- Command register of the configuration header (R400). -/
  command : Half := 0#16
  /-- Status register, writable bits (R400). -/
  status : Half := 0#16
  /-- BAR0-BAR1 address bits (R400). -/
  bar0 : DWord := 0#64
  /-- BAR2-BAR3 address bits (R400). -/
  bar2 : DWord := 0#64
  /-- Interrupt Line (R400). -/
  intLine : Byte := 0#8
  /-- Cache Line Size (R400). -/
  cacheLine : Byte := 0#8
  /-- power state: 0 D0, 3 D3hot (R400). -/
  dstate : Nat := 0
  /-- Device Control; Max_Payload_Size in bits 7:5 (R400). -/
  devCtl : Half := 0x2810#16
  /-- Link Control (R400). -/
  linkCtl : Half := 0#16
  /-- Link Control 2 (R400). -/
  linkCtl2 : Half := 0#16
  /-- Device Control 2 (R400). -/
  devCtl2 : Half := 0#16
  /-- Device Status bits 3:0: correctable, non-fatal, fatal error and unsupported request detected (R400, R401). -/
  devSta : Nat := 0
  /-- link speed at the last training, 1 to 4 for 2.5 to 16 GT/s (R400). -/
  speed : Nat := 0
  /-- link width at the last training (R400). -/
  width : Nat := 0
  /-- the host grants flow-control credit for posted writes (R426). -/
  credit : Bool := true
  /-- Advanced Error Reporting: Uncorrectable Error Status (R400). -/
  aerUncSta : Word := 0#32
  /-- Uncorrectable Error Mask. -/
  aerUncMask : Word := 0#32
  /-- Uncorrectable Error Severity. -/
  aerUncSev : Word := 0x00462030#32
  /-- Correctable Error Status. -/
  aerCorSta : Word := 0#32
  /-- Correctable Error Mask. -/
  aerCorMask : Word := 0x00002000#32
  /-- PME_TO_Ack has been sent (R401). -/
  pmeAck : Bool := false
deriving DecidableEq, Repr

/-- The SAF block (R443 to R458). -/
structure Saf where
  /-- SAF_FAULTS (R456). -/
  faults : Word := 0#32
  /-- SAF_PERIOD_FAULTS (R456). -/
  periodFaults : Word := 0#32
  /-- SAF_FAULT_COUNT (R456). -/
  faultCount : Word := 0#32
  /-- SAF_LAST_FAULT (R456). -/
  lastFault : Word := 0#32
  /-- SAF_INJ_SEL (R456). -/
  injSel : Word := 0#32
  /-- SAF_INJ_STATUS.STATE (R456). -/
  injState : InjSt := .idle
  /-- SAF_INJ_STATUS.REFUSE (R456). -/
  injRefuse : Nat := 0
  /-- SAF_INJ_STATUS.PERIOD (R456). -/
  injPeriod : Half := 0#16
  /-- SAF_INJ_LATENCY (R456). -/
  injLatency : Word := 0#32
  /-- SAF_INJ_COVERED (R456). -/
  injCovered : Word := 0#32
  /-- SAF_INJ_COUNT (R456). -/
  injCount : Word := 0#32
  /-- code of the injection armed or applied (R453). -/
  injCode : Nat := 0
  /-- its TILE (R453). -/
  injTile : Nat := 0
  /-- its ARG (R453). -/
  injArg : Nat := 0
  /-- instances a tile digest of which injection 0x09 has inverted (R454). -/
  injInsts : List Nat := []
  /-- device time at which it was applied (R453). -/
  injAt : Nat := 0
  /-- tiles that have reported under TILE 0xFF (R453). -/
  injSeen : List Nat := []
  /-- a real condition stood or arose since an abort injection was applied in a capo (R457). -/
  injReal : Bool := false
  /-- the injection window has closed (R452). -/
  windowClosed : Bool := false
  /-- SAF_READMIT_STATUS.TILE (R456). -/
  readmitTile : Nat := 0
  /-- device time of the last SAF_READMIT write (R457). -/
  readmitT : Nat := 0
  /-- SAF_READMIT_STATUS.ACCEPTED (R456). -/
  readmitAcc : Bool := false
  /-- SAF_READMIT_STATUS.DENIED (R456). -/
  readmitDen : Bool := false
deriving DecidableEq, Repr

/-- An event recorder entry (R496). -/
structure EvrEntry where
  /-- CODE (R496). -/
  code : Half := 0#16
  /-- SOURCE (R496). -/
  source : Half := 0#16
  /-- SEQ (R496). -/
  seq : Word := 0#32
  /-- TIME (R496). -/
  time : DWord := 0#64
  /-- PERIOD (R496). -/
  period : Word := 0#32
  /-- START (R496). -/
  start : Half := 0#16
  /-- FLAGS (R496). -/
  flags : Byte := 0#8
  /-- ARG (R496). -/
  arg : DWord := 0#64
deriving DecidableEq, Repr

/-- A flush slot as examined (R505, R511). -/
structure EvrSlot where
  /-- state code (R505). -/
  st : Nat := 0
  /-- its FLUSH_SEQ (R506). -/
  seq : Word := 0#32
deriving DecidableEq, Repr

/-- The event recorder (R493 to R514). -/
structure Evr where
  /-- the retention ring, by SEQ mod 4,096 (R493). -/
  ring : FMap EvrEntry := []
  /-- errors that stand in the retention SRAM, by ring index: 1 correctable, 2 uncorrectable (R510). -/
  upset : FMap Nat := []
  /-- EVR_NEXT_SEQ (R511). -/
  next : Word := 0#32
  /-- STARTS (R494). -/
  starts : Word := 1#32
  /-- input queue, 64 entries (R495). -/
  queue : List EvrEntry := []
  /-- EVR_LOST (R511). -/
  lost : Word := 0#32
  /-- events discarded since the last EVENTS_LOST entry (R495). -/
  lostPend : Nat := 0
  /-- EVR_SUPPRESSED (R511). -/
  suppressed : Word := 0#32
  /-- (CODE, SOURCE, ARG 7:0) combinations written in this period (R497). -/
  seen : List (Half × Half × Byte) := []
  /-- occurrences suppressed in this period (R497). -/
  suppPend : Nat := 0
  /-- EVR_FLUSHES (R511). -/
  flushes : Word := 0#32
  /-- EVR_EVENTS (R511). -/
  events : Word := 0#32
  /-- EVR_TPP.T_PP, us (R511). -/
  tpp : Nat := 0
  /-- EVR_TPP.T_FLUSH, us (R511). -/
  tflush : Nat := 0
  /-- EVR_WIN.BANK of BAR2 (R511). -/
  winBar2 : Nat := 0
  /-- EVR_WIN.BANK of the SPI port (R511). -/
  winSpi : Nat := 0
  /-- EVR_STATUS.ARM (R511). -/
  arm : ArmSt := .unarmed
  /-- arm state before VERIFYING (R508). -/
  armBefore : ArmSt := .unarmed
  /-- EVR_STATUS.TARGET (R507). -/
  target : Nat := 0
  /-- EVR_STATUS.RECOVERED (R511). -/
  recovered : Bool := false
  /-- EVR_STATUS.REC_SLOT (R511). -/
  recSlot : Nat := 0
  /-- EVR_STATUS.SLOW_FLASH (R511). -/
  slowFlash : Bool := false
  /-- EVR_SLOT0 (R511). -/
  slot0 : EvrSlot := {}
  /-- EVR_SLOT1 (R511). -/
  slot1 : EvrSlot := {}
  /-- the slots have been examined in this start (R507). -/
  examined : Bool := false
  /-- stays UNARMED for the rest of the start (R514). -/
  faulty : Bool := false
  /-- a flush runs (R501). -/
  flushing : Bool := false
  /-- the programs of the running flush, in order, as (slot offset, bytes) (R501). -/
  todo : List (Nat × List Byte) := []
  /-- FLUSH_SEQ of the running flush (R506). -/
  flushSeq : Word := 0#32
  /-- the running flush is standby's (R499). -/
  flushStandby : Bool := false
  /-- uptime (ns) at which the flush began (R502). -/
  flushT0 : Nat := 0
  /-- EVR_REC_HEAD (R511). -/
  recHead : List Byte := []
  /-- EVR_REC (R511). -/
  recData : List Byte := []
  /-- the two flush slots in the flash, slot n byte b at 0x1_0000 n + b; an unlisted byte reads 0xFF (R499). -/
  flash : List Host.Cell := []
deriving DecidableEq, Repr

/-- A flit (R465). -/
structure Flit where
  /-- TYPE (R466). -/
  typ : Nat := 0
  /-- SEQ (R465). -/
  seq : Byte := 0#8
  /-- ACK (R465). -/
  ack : Byte := 0#8
  /-- LFLAGS (R465). -/
  lflags : Byte := 0#8
  /-- PAYLOAD, 26 bytes (R465). -/
  payload : List Byte := []
deriving DecidableEq, Repr

/-- An entry of CRS_MM_LOG (R489). -/
structure MmEntry where
  /-- PERIOD (R489). -/
  period : Word := 0#32
  /-- JOB (R489). -/
  job : Nat := 0
  /-- LAYER (R489). -/
  layer : Nat := 0
  /-- CAUSE (R489). -/
  cause : Nat := 0
  /-- link (R489). -/
  link : Nat := 0
  /-- own digest (R489). -/
  own : DWord := 0#64
  /-- peer digest (R489). -/
  peer : DWord := 0#64
deriving DecidableEq, Repr

/-- A SHARE declaration (R486). -/
structure ShareInfo where
  /-- ARCHIVE_PAGES (R486). -/
  pages : Nat := 0
  /-- directory CHECK (R486). -/
  check : Word := 0#32
  /-- the declaration has been made (R486). -/
  set : Bool := false
deriving DecidableEq, Repr

/-- A BOUNDARY flit's content (R466). -/
structure BndInfo where
  /-- PERIOD (R466). -/
  period : Word := 0#32
  /-- BOUNDARY (R466). -/
  boundary : DWord := 0#64
  /-- PLAN_ID (R466). -/
  planId : Half := 0#16
  /-- INSTANCE (R466). -/
  inst : Nat := 0
  /-- SLOT (R466). -/
  slot : Nat := 0
deriving DecidableEq, Repr

/-- A message held at a link's receive side (R485). -/
structure RemMsg where
  /-- the message, with its sender and mailbox (R485). -/
  msg : Msg := {}
  /-- JOB (R485). -/
  job : Nat := 0
  /-- PERIOD, translated (R485). -/
  period : Word := 0#32
deriving DecidableEq, Repr

/-- A Course link (R461 to R492). -/
structure Link where
  /-- CRS_LINK_STATUS.STATE (R489). -/
  st : LinkSt := .off
  /-- CRS_LINK_STATUS.CAUSE (R489). -/
  cause : Nat := 0
  /-- CRS_LINK_STATUS.LINKED (R489). -/
  linked : Bool := false
  /-- CRS_LINK_STATUS.MATCHED (R489). -/
  matched : Bool := false
  /-- lane lock and deskew done (R472). -/
  locked : Bool := false
  /-- a good HELLO has been received in this training (R472). -/
  gotHello : Bool := false
  /-- own HELLO carried P and PHASE zero (R473). -/
  helloZero : Bool := false
  /-- PLANINFO sent or not needed (R473). -/
  planSent : Bool := false
  /-- P the peer reported, us (R473). -/
  peerP : Nat := 0
  /-- PHASE the peer reported (R473). -/
  peerPhase : DWord := 0#64
  /-- CRS_PEER_ID (R489). -/
  peerId : Word := 0#32
  /-- CRS_EVENTS (R489). -/
  events : Word := 0#32
  /-- CRS_CRC_ERRS (R489). -/
  crcErrs : Word := 0#32
  /-- CRS_RETRIES (R489). -/
  retries : Word := 0#32
  /-- CRS_DOWNS (R489). -/
  downs : Word := 0#32
  /-- CRS_TX_FLITS (R489). -/
  txFlits : DWord := 0#64
  /-- CRS_RX_FLITS (R489). -/
  rxFlits : DWord := 0#64
  /-- CRS_COMPARED (R489). -/
  compared : Word := 0#32
  /-- CRS_WAIVED (R489). -/
  waived : Word := 0#32
  /-- CRS_MISMATCHES (R489). -/
  mismatches : Word := 0#32
  /-- CRS_MSG_DISCARDS (R489). -/
  msgDiscards : Word := 0#32
  /-- CRS_PAGES_TX (R489). -/
  pagesTx : Word := 0#32
  /-- CRS_PAGES_RX (R489). -/
  pagesRx : Word := 0#32
  /-- CRS_DELTA (R489). -/
  delta : Word := 0#32
  /-- a delta is fixed (R476). -/
  deltaSet : Bool := false
  /-- CRS_RTT (R489). -/
  rtt : Word := 0#32
  /-- SEQ of the next sequenced flit (R465). -/
  txSeq : Byte := 0#8
  /-- SEQ expected (R468). -/
  rxSeq : Byte := 0#8
  /-- NAK is set in outgoing flits (R468). -/
  nak : Bool := false
  /-- unacknowledged sequenced flits, oldest first, at most 64 (R468). -/
  held : List Flit := []
  /-- flits waiting to be sent, in sending order (R467). -/
  txQ : List Flit := []
  /-- retries of the same SEQ (R471). -/
  sameRetries : Nat := 0
  /-- device times of recent CRC failures (R471). -/
  crcTimes : List Nat := []
  /-- the number named by the last NAK that made a rewind, none once that flit is acknowledged (R468). -/
  nakFor : Option Byte := none
  /-- flits sent since the last SKIP group, oldest first (an output) (R464). -/
  sent : List Flit := []
  /-- SKIP groups inserted (an output) (R464). -/
  skips : Nat := 0
  /-- own START has been sent (R475). -/
  startSent : Bool := false
  /-- FIRST of the peer's START (R475). -/
  peerFirst : Option Nat := none
  /-- the peer's BOUNDARY flit for the newest grid point (R476). -/
  peerBnd : Option BndInfo := none
  /-- consecutive linked boundaries with differing PLAN_IDs (R477). -/
  skew : Nat := 0
  /-- own SHARE by network (R486). -/
  ownShare : FMap ShareInfo := []
  /-- the peer's SHARE by network (R486). -/
  peerShare : FMap ShareInfo := []
  /-- payload of an MSG_A whose MSG_B is awaited (R466). -/
  msgA : Option (List Byte) := none
  /-- messages held at the receive side, at most 8 (R485). -/
  hold : List RemMsg := []
  /-- outgoing messages, at most 16 (R485). -/
  outQ : List RemMsg := []
  /-- the peer's last flit had MSG_HOLD set (R485). -/
  peerHold : Bool := false
  /-- (network, page) of the page being assembled (R487). -/
  pageNet : Option (Nat × Nat) := none
  /-- bytes assembled (R487). -/
  pageData : List Byte := []
deriving DecidableEq, Repr

/-- The CRS block (R461 to R492). -/
structure Crs where
  /-- CRS_FENCE (R488). -/
  fence : BitVec 2 := 0#2
  /-- CRS_PAIR_HIST (R489). -/
  pairHist : Word := 0#32
  /-- CRS_MM_HEAD.NEXT (R489). -/
  mmHead : Nat := 0
  /-- CRS_MM_HEAD.WRITTEN, saturating (R489). -/
  mmWritten : Nat := 0
  /-- CRS_MM_LOG (R489). -/
  mmLog : FMap MmEntry := []
  /-- links 0 and 1 (R461). -/
  links : FMap Link := []
  /-- slot to be taken from the peer at the next release (R477). -/
  adoptSlot : Option Nat := none
  /-- the generator waits for the peer's START (R475). -/
  startWait : Bool := false
  /-- DIGEST and END flits of the period beginning that came before its release (R479). -/
  early : List Flit := []
deriving DecidableEq, Repr

/-- What stood when device time last moved: a change that meets a sample of it in the same instant waits for the next
one (R395). -/
structure Seen where
  /-- the absent set S (R391). -/
  absent : BitVec 4 := 0#4
  /-- SCH_CLASS_EN (R390). -/
  classEn : BitVec 4 := 0b1111#4
deriving DecidableEq, Repr

/-- RSL latches of one access path (R18). -/
structure Path where
  /-- latched high words, by register address (R18). -/
  latch : FMap Word := []
deriving DecidableEq, Repr

/-- What the DZ last put on its command interfaces (MODEL's own outputs). -/
structure Out where
  /-- words of the last read completion (R403). -/
  data : List Word := []
  /-- 0 successful completion, 1 Unsupported Request, 2 no answer, 3 the completion waits behind posted writes (R403). -/
  status : Nat := 0
  /-- bytes driven on SPI_MISO in the last transaction (R407). -/
  miso : List Byte := []
  /-- codes of the PCIe messages sent, latest first (R401). -/
  msgs : List Nat := []
deriving DecidableEq, Repr

/-- One source's contributions for a module (R521). -/
structure HContrib where
  /-- CRS_FENCE contribution (R521). -/
  fence : BitVec 2 := 0#2
  /-- SCH_ABSENT.FORCE contribution (R521). -/
  force : BitVec 4 := 0#4
  /-- SCH_CLASS_EN contribution (all enabled) (R521). -/
  classEn : BitVec 4 := 0b1111#4
deriving DecidableEq, Repr

/-- An action running on a slot (R534, R536 to R538). -/
structure HAction where
  /-- opcode (R531). -/
  op : Nat := 0
  /-- source (R541). -/
  src : HSrc := .auto
  /-- current step (R536). -/
  step : Nat := 1
  /-- it is (part of) a MODULE_CYCLE (R538). -/
  cycle : Bool := false
  /-- a step exceeded its limit (R530). -/
  partialStep : Bool := false
  /-- it is undoing a failed MODULE_IN (R537). -/
  failed : Bool := false
  /-- time left of the current wait, us (R536). -/
  waitUs : Nat := 0
  /-- time of acceptance, us (R541). -/
  startUs : Nat := 0
  /-- BEFORE readings (R541). -/
  before : List Byte := []
  /-- PERIOD (R541). -/
  period : Word := 0xFFFFFFFF#32
  /-- ARG (R541). -/
  arg : Word := 0#32
  /-- TAG (R529). -/
  tag : Nat := 0
  /-- RESULT so far (R530). -/
  code : Option Nat := some 0
  /-- it stops at the end of its current step (R534). -/
  stop : Bool := false
  /-- the module answered at acceptance (R552). -/
  answered : Bool := false
deriving DecidableEq, Repr

/-- A tray trip whose record waits for the after readings (R523). -/
structure HTrip where
  /-- 1 LEAK, 2 MAIN_OC (R523). -/
  arg : Nat := 0
  /-- time left until the after readings, us (R523). -/
  leftUs : Nat := 0
  /-- t0, us (R523). -/
  startUs : Nat := 0
  /-- the before readings (R523). -/
  before : List Byte := []
deriving DecidableEq, Repr

/-- A tray slot (R515 to R548). -/
structure HSlot where
  /-- its state (R525). -/
  st : HSlotSt := .empty
  /-- CONTESTED (R525). -/
  contested : Bool := false
  /-- case of the contest (R545). -/
  caseCode : Nat := 0
  /-- holder: 0 none, 1 safety controller, 2 host (R549). -/
  holder : Nat := 0
  /-- time left of the lease, us (R533). -/
  holdUs : Nat := 0
  /-- the running action (R534). -/
  action : Option HAction := none
  /-- the action that starts when the running one stops (R534). -/
  next : Option HAction := none
  /-- its FORCE bit is set for a MODULE_OUT or a pulled module (R540) (R536). -/
  outForce : Bool := false
  /-- it was ON, unanswered and DEAD at the last point (R545). -/
  unresponsive : Bool := false
  /-- module eFuse closed (R525). -/
  efuse : Bool := false
  /-- M_RAIL_EN (R516). -/
  railEn : Bool := false
  /-- M_PWR_FAIL_N (R516). -/
  pwrFailN : Bool := true
  /-- M_RESET_N (R516). -/
  resetN : Bool := true
  /-- M_PRSNT_N (R516). -/
  prsntN : Bool := true
  /-- M_PGOOD (R516). -/
  pgood : Bool := false
  /-- M_CRS0_UP (R516). -/
  crs0 : Bool := false
  /-- M_CRS1_UP (R516). -/
  crs1 : Bool := false
  /-- M_THERM_SHDN_N (R516). -/
  thermN : Bool := true
  /-- M_SAFE_TOGGLE (R516). -/
  toggle : Bool := false
  /-- M_SAFE_TOGGLE changed since the previous examination point (R519). -/
  toggleChanged : Bool := false
  /-- VIN, 10 mV (R519). -/
  vin : Nat := 0
  /-- IIN, 10 mA (R519). -/
  iin : Nat := 0
  /-- TMOD, degC (R519). -/
  tmod : Int := 0
  /-- the slot latch is closed (R537). -/
  slotLatch : Bool := true
  /-- time M_PRSNT_N has been low, us (R537). -/
  presentUs : Nat := 0
  /-- time VIN has been below 1 V, us (R524). -/
  vinLowUs : Nat := 0
  /-- SHDN latch (R524). -/
  shdnLatch : Bool := false
  /-- MODULE_OC latch (R524). -/
  ocLatch : Bool := false
  /-- its registers as last read (R519). -/
  read : HReading := {}
  /-- the safety controller's contributions (R521). -/
  sc : HContrib := {}
  /-- the host's contributions (R521). -/
  host : HContrib := {}
  /-- the Hoist's contributions (R521). -/
  hoist : HContrib := {}
  /-- fences set for this slot's contest, by slot (link mask) (R546). -/
  contestFence : FMap Nat := []
  /-- automatic cycles in this Hoist start (R548). -/
  cycles : Nat := 0
  /-- CYCLE_LIMIT has been logged for this contest (R548). -/
  limitLogged : Bool := false
  /-- counted points since entry or the last cycle (R548). -/
  counted : Nat := 0
  /-- consecutive reconciled points (R548). -/
  reconciled : Nat := 0
  /-- every 1 ms sample since the previous point was ON (R544). -/
  allOn : Bool := true
  /-- every 1 ms sample since the previous point was OFF (R544). -/
  allOff : Bool := true
  /-- a Hoist action changed the eFuse or M_RAIL_EN, or M_PGOOD changed while one ran, since the previous point (R544). -/
  transition : Bool := false
  /-- link 0 read high at both ends at every sample (R544). -/
  pinHigh0 : Bool := true
  /-- link 1 read high at both ends at every sample (R544). -/
  pinHigh1 : Bool := true
  /-- link 0 read low at both ends at every sample (R544). -/
  pinLow0 : Bool := true
  /-- link 1 read low at both ends at every sample (R544). -/
  pinLow1 : Bool := true
  /-- power truth of the last point (R542). -/
  powerTruth : Nat := 0
  /-- traffic truth of the last point (R542). -/
  trafficTruth : Nat := 0
deriving DecidableEq, Repr

/-- A log record of the Hoist (R541). -/
structure HLog where
  /-- SOURCE (R541). -/
  source : Nat := 0
  /-- OPCODE (R541). -/
  opcode : Nat := 0
  /-- MODULE (R541). -/
  slot : Nat := 0
  /-- SEQ (R541). -/
  seq : Word := 0#32
  /-- TIME (R541). -/
  time : DWord := 0#64
  /-- RESULT (R541). -/
  result : Nat := 0
  /-- OUTCOME (R541). -/
  outcome : Nat := 0
  /-- DURATION (R541). -/
  duration : Nat := 0
  /-- BEFORE (R541). -/
  before : List Byte := []
  /-- AFTER (R541). -/
  after : List Byte := []
  /-- PERIOD (R541). -/
  period : Word := 0xFFFFFFFF#32
  /-- ARG (R541). -/
  arg : Word := 0#32
  /-- BOOTS (R541). -/
  boots : Word := 0#32
deriving DecidableEq, Repr

/-- The Hoist tray controller (R515 to R554). -/
structure Hoist where
  /-- slot 0 (R515). -/
  slot0 : HSlot := {}
  /-- slot 1 (R515). -/
  slot1 : HSlot := {}
  /-- slot 2 (R515). -/
  slot2 : HSlot := {}
  /-- slot 3 (R515). -/
  slot3 : HSlot := {}
  /-- tray trips whose record is not yet written (R523). -/
  trips : List HTrip := []
  /-- LEAK latch (R524). -/
  leakLatch : Bool := false
  /-- MAIN_OC latch (R524). -/
  mainOcLatch : Bool := false
  /-- main eFuse closed (R522). -/
  mainEfuse : Bool := true
  /-- active discharge of the main rail (R522). -/
  discharge : Bool := false
  /-- VMAIN, 10 mV (R519). -/
  vmain : Nat := 0
  /-- IMAIN, 10 mA (R519). -/
  imain : Nat := 0
  /-- ROPE_A wet (R519). -/
  ropeAWet : Bool := false
  /-- ROPE_B wet (R519). -/
  ropeBWet : Bool := false
  /-- ROPE_A open (R519). -/
  ropeAOpen : Bool := false
  /-- ROPE_B open (R519). -/
  ropeBOpen : Bool := false
  /-- time both ropes have read dry, us (R524). -/
  dryUs : Nat := 0
  /-- TIN, degC (R519). -/
  tin : Int := 0
  /-- TOUT, degC (R519). -/
  tout : Int := 0
  /-- FLOW, 10 mL/min (R519). -/
  flow : Nat := 0
  /-- time FLOW has been below 0.5 L/min, ms (R539). -/
  flowLowMs : Nat := 0
  /-- time FLOW has been at or above 2.0 L/min, ms (R539). -/
  flowOkMs : Nat := 0
  /-- flow shedding in force: 0 none, 1 class 3, 2 classes 2 and 3 (R539). -/
  flowLevel : Nat := 0
  /-- the safety controller is present: not absent until SC_LOST (R535). -/
  scPresent : Bool := true
  /-- SERVICE_MODE (R535). -/
  service : Bool := false
  /-- AUTO_CYCLE (R535). -/
  autoCycle : Bool := false
  /-- COUNTER of the previous accepted frame on 0x2C0 (R526). -/
  canCmd : Option Byte := none
  /-- COUNTER of the previous accepted frame on 0x2C3 (R526). -/
  canHb : Option Byte := none
  /-- MCTP endpoint ID; 0 while not set (R527). -/
  eid : Byte := 0#8
  /-- the service console receiver is inside a frame (R528). -/
  uartBusy : Bool := false
  /-- P_H, us (R520). -/
  phUs : Nat := 100000
  /-- us since the Hoist started (R541). -/
  timeUs : DWord := 0#64
  /-- BOOTS, Hoist start count (R541). -/
  boots : Word := 1#32
  /-- SEQ of the next record (R541). -/
  nextSeq : Word := 0#32
  /-- log ring, by SEQ mod 16,384 (R543). -/
  log : FMap HLog := []
  /-- the last response as framed on its path (an output) (R526). -/
  wire : List Byte := []
  /-- COUNTER of the next response frame on 0x2C1 (R526). -/
  respCnt : Byte := 0#8
  /-- COUNTER of the next broadcast on 0x2C2 (R526). -/
  castCnt : Byte := 0#8
  /-- body of the last response (an output) (R529). -/
  resp : List Byte := []
  /-- the last status broadcast (an output) (R549). -/
  cast : List Byte := []
  /-- (slot, value) EVR_MARK writes made to modules, latest first (an output) (R546). -/
  marks : List (Nat × Word) := []
  /-- (slot, words) register writes made to modules, latest first (an output) (R521). -/
  spiOut : List (Nat × List Word) := []
deriving DecidableEq, Repr

/-- The whole machine. `pending` is the queue of waiting commands; `free` counts the free values taken so far
and `dev` is device time in 2^-32 ns units (R179): both are plain data of the model. -/
structure State where
  /-- Commands that wait, first in first out. -/
  pending : List Instr := []
  /-- The grade of the part, never changed (R5, R22). -/
  grade : Grade := .dz4
  /-- Device time (R30, R98), in units of 2^-32 ns. -/
  dev : Nat := 0
  /-- The MODEL's own counter of free values taken. -/
  free : Nat := 0
  /-- What stood when device time last moved (R395). -/
  seen : Seen := {}
  /-- The tiles by number (R228). -/
  tiles : FMap Tile := []
  /-- Messages on the message network, oldest first (R355). -/
  flight : List Msg := []
  /-- RSL latches of the BAR0 path (R18). -/
  pathBar0 : Path := {}
  /-- RSL latches of the BAR2 path (R18). -/
  pathBar2 : Path := {}
  /-- RSL latches of the SPI path (R18). -/
  pathSpi : Path := {}
  /-- The always-on domain: pins it samples, causes it remembers, standby. -/
  aon : Aon := {}
  /-- The SYS block (R104, R430). -/
  sys : Sys := {}
  /-- The RDY block (R105, R142). -/
  rdy : Rdy := {}
  /-- The loader and what the accepted sections hold (R139). -/
  img : Img := {}
  /-- The PRD block and the period generator (R30 to R68). -/
  prd : Prd := {}
  /-- The PEN block and SAFE_TOGGLE (R52, R53, R562). -/
  pen : Pen := {}
  /-- The SCH block and the scheduler (R371 to R399). -/
  sch : Sch := {}
  /-- The timebase (R179 to R183). -/
  tb : Tb := {}
  /-- The sensor ports, the streams and the intake engine (R151 to R227). -/
  strm : Strm := {}
  /-- The DRAM block, the pager and the memory (R295 to R323). -/
  dram : Dram := {}
  /-- The host DMA path (R428). -/
  hdma : Hdma := {}
  /-- The RING block, the mirror and the posted-write queue (R409 to R437). -/
  ring : RingBlk := {}
  /-- The PCIe endpoint (R400 to R403). -/
  pcie : Pcie := {}
  /-- The SAF block (R443 to R458). -/
  saf : Saf := {}
  /-- The event recorder (R493 to R514). -/
  evr : Evr := {}
  /-- The CRS block (R461 to R492). -/
  crs : Crs := {}
  /-- What the DZ last put on its command interfaces (MODEL's own outputs). -/
  out : Out := {}
  /-- The Hoist tray controller (R515 to R554). -/
  hoist : Hoist := {}
deriving DecidableEq, Repr

/-- Why a machine stops with a fault. No meaning of this model raises one: every command of the table has an
effect or leaves the state as it is. -/
inductive Fault where
  /-- The device is run outside the limits of R596. Raised by no meaning: the operating range lies outside the
  model. Safe: it could only stop a run. -/
  | outsideRatings
deriving DecidableEq, Repr

/-- Why a command is turned away. -/
inductive Refusal where
  /-- Raised by an arm of `exec` whose command has no meaning in this model yet. Safe: nothing is claimed of it. -/
  | notModelled (mnemonic : String)
deriving DecidableEq, Repr

/-- The outcome type of this machine. -/
abbrev Result := Host.Outcome State Fault Refusal

/-- The machine right after the internal reset release of a cold start (R93, R97, R104): every field at its
default, STARTS 1, RST_CAUSE COLD, no strap pulled up, and the START event (R498) waiting in the recorder's queue. -/
def State.reset : State :=
  { evr := { queue := [{ code := 0x0101#16, source := 0xFFFF#16, period := 0xFFFFFFFF#32, start := 1#16,
                         arg := 0x100000001#64 }] } }

end Sys2Proof.Machine
end

