-- ==== Sys2Proof/Machine/Ops.lean ====
section
/-!
DEFINITION. The named operations every meaning is built from: sparse tables and memories, bytes and check values,
the grade's figures, device time, the event recorder's queue, safety reports, and access to tiles, rings, links
and streams.
-/

namespace Sys2Proof.Machine

/-! ## Sparse tables and memories -/

/-- The entry of a table at a key, `d` where none is listed. -/
def tget {α : Type} (d : α) : FMap α → Nat → α
  | [], _ => d
  | (j, v) :: m, k => if j = k then v else tget d m k

/-- A table with an entry put in its place. -/
def tins {α : Type} : FMap α → Nat → α → FMap α
  | [], k, v => [(k, v)]
  | (j, w) :: m, k, v =>
    if k < j then (k, v) :: (j, w) :: m else if j = k then (k, v) :: m else (j, w) :: tins m k v

/-- The table with an entry set; an entry equal to the default is removed, and keys stay rising. -/
def tput {α : Type} [DecidableEq α] (d : α) (m : FMap α) (k : Nat) (v : α) : FMap α :=
  if v = d then m.filter fun e => e.1 != k else tins m k v

/-- The canonical form: keys strictly rising from at least `lo`, no entry equal to the default. -/
def twf {α : Type} [DecidableEq α] (d : α) : Nat → FMap α → Bool
  | _, [] => true
  | lo, (j, v) :: m => decide (lo ≤ j) && decide (v ≠ d) && twf d (j + 1) m

/-- The canonical form of a byte memory whose unlisted bytes read `d`. -/
def Memory.wf (d : Byte) (m : List Host.Cell) : Bool := twf d 0 m

/-- `n` bytes of a memory from an address, unlisted bytes reading `d`. -/
def memRead (d : Byte) (m : List Host.Cell) (a : Nat) : Nat → List Byte
  | 0 => []
  | n + 1 => tget d m a :: memRead d m (a + 1) n

/-- A memory with bytes written from an address on. -/
def memWrite (d : Byte) (m : List Host.Cell) (a : Nat) : List Byte → List Host.Cell
  | [] => m
  | b :: bs => memWrite d (tput d m a b) (a + 1) bs

/-- A memory with `n` bytes from an address set to its unlisted value. -/
def memClear (d : Byte) (m : List Host.Cell) (a n : Nat) : List Host.Cell :=
  memWrite d m a (List.replicate n d)

/-! ## Bytes (R10: little-endian) -/

/-- The number whose bytes these are, least significant first. -/
def leNat : List Byte → Nat
  | [] => 0
  | b :: bs => b.toNat + 256 * leNat bs

/-- `n` bytes of a number, least significant first. -/
def leBytes : Nat → Nat → List Byte
  | 0, _ => []
  | n + 1, v => BitVec.ofNat 8 v :: leBytes n (v / 256)

/-- `n` bytes of a list from an offset; bytes past its end read zero. -/
def slice (l : List Byte) (off n : Nat) : List Byte :=
  (List.range n).map fun i => l.getD (off + i) 0#8

/-- The little-endian number of `n` bytes at an offset. -/
def field (l : List Byte) (off n : Nat) : Nat := leNat (slice l off n)

/-- The word at an offset. -/
def wordAt (l : List Byte) (off : Nat) : Word := BitVec.ofNat 32 (field l off 4)

/-- Bits high:low of a number (R11). -/
def bits (v hi lo : Nat) : Nat := v / 2 ^ lo % 2 ^ (hi + 1 - lo)

/-- One bit as a Bool. -/
def bitOf (v i : Nat) : Bool := v / 2 ^ i % 2 == 1

/-- A Bool as 0 or 1. -/
def b2n (b : Bool) : Nat := if b then 1 else 0

/-- The bytes of a list of words. -/
def wordsBytes (l : List Word) : List Byte := (l.map fun w => leBytes 4 w.toNat).flatten

/-- Set the low bits of a bit vector named by a bit number. -/
def setBit {n : Nat} (v : BitVec n) (i : Nat) : BitVec n := v ||| BitVec.ofNat n (2 ^ i)

/-- Clear one bit. -/
def clrBit {n : Nat} (v : BitVec n) (i : Nat) : BitVec n := v &&& ~~~(BitVec.ofNat n (2 ^ i))

/-- Set or clear one bit. -/
def putBit {n : Nat} (v : BitVec n) (i : Nat) (b : Bool) : BitVec n := if b then setBit v i else clrBit v i

/-! ## Check values (R64, R119, R201) -/

/-- `n` steps of a reflected CRC register with polynomial `p`. -/
def crcBitsR (p : Nat) : Nat → Nat → Nat
  | 0, c => c
  | n + 1, c => crcBitsR p n (if c % 2 = 1 then (c / 2) ^^^ p else c / 2)

/-- CRC-32C: the running value fed with bytes (R119, R201). -/
def crc32cFeed (c : Nat) : List Byte → Nat
  | [] => c
  | b :: bs => crc32cFeed (crcBitsR 0x82F63B78 8 (c ^^^ b.toNat)) bs

/-- CRC-32C of bytes (R119). -/
def crc32c (l : List Byte) : Word := BitVec.ofNat 32 (crc32cFeed 0xFFFFFFFF l ^^^ 0xFFFFFFFF)

/-- `n` steps of an unreflected CRC register of width `w`. -/
def crcBitsU (w p : Nat) : Nat → Nat → Nat
  | 0, c => c
  | n + 1, c => crcBitsU w p n (if c / 2 ^ (w - 1) = 1 then ((2 * c) % 2 ^ w) ^^^ p else 2 * c)

/-- CRC-16/CCITT-FALSE: the running value fed with bytes (R201). -/
def crc16Feed (c : Nat) : List Byte → Nat
  | [] => c
  | b :: bs => crc16Feed (crcBitsU 16 0x1021 8 (c ^^^ (b.toNat * 256))) bs

/-- CRC-64/ECMA-182: the running value fed with bytes (R64). -/
def crc64Feed (c : Nat) : List Byte → Nat
  | [] => c
  | b :: bs => crc64Feed (crcBitsU 64 0x42F0E1EBA9EA3693 8 (c ^^^ (b.toNat * 2 ^ 56))) bs

/-- CRC-64/ECMA-182 of bytes (R64): initial value zero, no final XOR. -/
def crc64 (l : List Byte) : DWord := BitVec.ofNat 64 (crc64Feed 0 l)

/-! ## Counters (R13) -/

/-- A saturating count of `w` bits. -/
def satAdd (w v n : Nat) : Nat := min (v + n) (2 ^ w - 1)

/-- A saturating 32-bit register plus `n`. -/
def satW (v : Word) (n : Nat := 1) : Word := BitVec.ofNat 32 (min (v.toNat + n) 0xFFFFFFFF)

/-- A register held to the greatest value seen. -/
def maxW (v : Word) (n : Nat) : Word := BitVec.ofNat 32 (max v.toNat (min n 0xFFFFFFFF))

/-! ## The grade (R5, R23) -/

/-- Rows and columns of the grid. -/
def Grade.side : Grade → Nat
  | .dz4 => 4
  | .dz8 => 8
  | .dz16 => 16

/-- SYS_ID.GRADE (R22). -/
def Grade.code : Grade → Nat
  | .dz4 => 4
  | .dz8 => 8
  | .dz16 => 16

/-- CSI-2 receivers. -/
def Grade.csi : Grade → Nat
  | .dz4 => 4
  | .dz8 => 8
  | .dz16 => 12

/-- Ethernet MACs. -/
def Grade.eth : Grade → Nat
  | .dz4 => 1
  | .dz8 => 2
  | .dz16 => 4

/-- 10BASE-T1S ports. -/
def Grade.t1s : Grade → Nat := fun _ => 2

/-- Stream contexts (R14). -/
def Grade.streams : Grade → Nat
  | .dz4 => 512
  | .dz8 => 2048
  | .dz16 => 4096

/-- Course links. -/
def Grade.links : Grade → Nat
  | .dz4 => 1
  | _ => 2

/-- Lanes of a Course link. -/
def Grade.linkLanes : Grade → Nat
  | .dz4 => 2
  | _ => 4

/-- LPDDR5X channels of 16 bits (R82, R308). -/
def Grade.channels : Grade → Nat
  | .dz4 => 2
  | .dz8 => 8
  | .dz16 => 16

/-- Temperature sensors (R84). -/
def Grade.sensors : Grade → Nat
  | .dz4 => 8
  | .dz8 => 20
  | .dz16 => 68

/-- Junction temperature limit in m degC (R5, R84). -/
def Grade.tLimit : Grade → Int
  | .dz16 => 115000
  | _ => 125000

/-- Does the grade have this tile (R23)? -/
def Grade.hasTile (g : Grade) (t : Nat) : Bool := decide (t / 16 < g.side) && decide (t % 16 < g.side)

/-- The tiles of the grade in ascending number. -/
def Grade.tiles (g : Grade) : List Nat := (List.range 256).filter g.hasTile

/-- SYS_ID (R22): stepping B0. -/
def sysId (s : State) : Word := BitVec.ofNat 32 (0xC3E10010 + s.grade.code * 256)

/-- MOD_POS, the tray position strapped (R97): SYS_STRAPS bits 8:7. -/
def modPos (s : State) : Nat := bits s.sys.straps.toNat 8 7

/-! ## The absent set (R391, R478) -/

/-- Bits of S from Course links: a PAIRED or JOINED link counts as down unless its current period is linked (R478). -/
def State.absentLinks (s : State) : BitVec 4 :=
  (List.range s.grade.links).foldl (fun m k =>
    if (tget {} s.img.links k).mode != 0 && !(tget {} s.crs.links k).linked then
      setBit m (tget {} s.img.links k).peerPos else m) 0#4

/-- The absent set S; the part's own bit is 0 (R391). -/
def State.absentSet (s : State) : BitVec 4 := clrBit (s.absentLinks ||| s.sch.force) (modPos s)

/-! ## Device time (R30, R98, R179)

`State.dev` counts on without bound; every register, flit, record and entry shows it modulo 2^64 ns, so that the device
time that is seen wraps (R13), while comparisons hold across the wrap (log entry 50). -/

/-- Device time in ns. -/
def State.now (s : State) : Nat := s.dev / 2 ^ 32

/-- The boundary of the current period as unwrapped device time: the next one less P (R31). -/
def State.boundaryNs (s : State) : Nat := s.prd.next - s.prd.pUs * 1000

/-- The device time the machine may not pass in one event: the release of the capo under way, or the next
boundary (R31, R43). -/
def State.horizon (s : State) : Option Nat :=
  match s.prd.gen with
  | .capo => some (s.boundaryNs + 12000)
  | .idle => if s.prd.started && !s.crs.startWait then some s.prd.next else none
  | _ => if s.prd.started then some s.prd.next else none

/-- Device time moved forward, never past the horizon; the uptime follows, and what stood before is kept (R395). -/
def State.setDev (s : State) (d : Nat) : State :=
  let d := match s.horizon with
    | some h => min d (h * 2 ^ 32)
    | none => d
  if s.dev < d then
    { s with dev := d, seen := { absent := s.absentSet, classEn := s.sch.classEn }, sys := { s.sys with uptimeNs := s.sys.uptimeNs + (d / 2 ^ 32 - s.dev / 2 ^ 32) } }
  else s

/-- Device time moved forward to the time `t` an event arises at. -/
def State.advanceTo (s : State) (t : Nat) : State := s.setDev (t * 2 ^ 32)

/-- One tick of PLL_T (R179). -/
def State.tick (s : State) : State := s.setDev (s.dev + s.tb.inc)

/-! ## Readiness (R98, R102, R105) -/

/-- Is a RDY_STATUS bit set? -/
def State.ready (s : State) (i : Nat) : Bool := s.rdy.status.getLsbD i

/-! ## The event recorder's queue (R495) -/

/-- PERIOD of an entry: the period counter, or all ones before the first boundary (R496). -/
def State.evPeriod (s : State) : Word := if s.prd.anyBoundary then s.prd.count else 0xFFFFFFFF#32

/-- An entry as its cause makes it; SEQ is taken when it is written (R493). -/
def mkEntry (s : State) (code src arg : Nat) (inj : Bool) : EvrEntry :=
  { code := BitVec.ofNat 16 code, source := BitVec.ofNat 16 src, time := BitVec.ofNat 64 s.now,
    period := s.evPeriod, start := s.evr.starts.setWidth 16, flags := if inj then 1#8 else 0#8,
    arg := BitVec.ofNat 64 arg }

/-- An event sent to the recorder: held in the 64-entry queue, or lost when the queue is full (R495). -/
def State.logEv (s : State) (code src arg : Nat) (inj : Bool := false) : State :=
  if s.evr.queue.length < 64 then
    { s with evr := { s.evr with queue := s.evr.queue ++ [mkEntry s code src arg inj] } }
  else
    { s with evr := { s.evr with lost := s.evr.lost + 1, lostPend := s.evr.lostPend + 1,
                                 events := setBit s.evr.events 0 } }

/-! ## Tiles -/

/-- A tile's state. -/
def State.tile (s : State) (t : Nat) : Tile := tget {} s.tiles t

/-- A tile's state replaced. -/
def State.setTile (s : State) (t : Nat) (x : Tile) : State := { s with tiles := tput {} s.tiles t x }

/-- A tile's state changed by a function. -/
def State.modTile (s : State) (t : Nat) (f : Tile → Tile) : State := s.setTile t (f (s.tile t))

/-- A tile's core changed by a function. -/
def State.modTc (s : State) (t : Nat) (f : Tc → Tc) : State :=
  s.modTile t fun x => { x with tc := f x.tc }

/-- A tile's scratchpad changed by a function. -/
def State.modSpm (s : State) (t : Nat) (f : Spm → Spm) : State :=
  s.modTile t fun x => { x with spm := f x.spm }

/-- A tile's array changed by a function. -/
def State.modArr (s : State) (t : Nat) (f : Arr → Arr) : State :=
  s.modTile t fun x => { x with arr := f x.arr }

/-- A tile's bow window changed by a function. -/
def State.modBow (s : State) (t : Nat) (f : Bow → Bow) : State :=
  s.modTile t fun x => { x with bow := f x.bow }

/-- Is the tile excluded (R446)? -/
def State.excluded (s : State) (t : Nat) : Bool := (s.tile t).exclEff

/-! ## Safety reports (R443) -/

/-- Does an injection of this code stand applied? -/
def State.injApplied (s : State) (code : Nat) : Bool := s.saf.injState == .applied && s.saf.injCode == code

/-- A report of R443: bits 0 to 12 are dangerous and go into the pennant being built, 16 to 19 advisory. `src` is the
tile or 0xFF, `cause` the exception or cause code for the event. -/
def State.report (s : State) (bit src cause : Nat) (inj : Bool := false) : State :=
  if bit ≤ 12 then
    let s := { s with
      saf := { s.saf with
        faults := setBit s.saf.faults bit
        faultCount := satW s.saf.faultCount
        lastFault := BitVec.ofNat 32 (bit + src % 256 * 256 + s.prd.count.toNat % 65536 * 65536) }
      pen := { s.pen with acc := { s.pen.acc with
        faults := setBit s.pen.acc.faults bit
        allInjected := s.pen.acc.allInjected && inj } } }
    s.logEv 0x0401 (if src = 0xFF then 0xFFFF else src) (bit + cause % 256 * 256) inj
  else { s with saf := { s.saf with faults := setBit s.saf.faults bit } }

/-- The number of an injection state in SAF_INJ_STATUS (R456). -/
def InjSt.code : InjSt → Nat
  | .idle => 0
  | .armed => 1
  | .applied => 2
  | .detected => 3
  | .missed => 4
  | .refused => 5
  | .cancelled => 6

/-- Time since the application of an injection, ns (R453), saturating. -/
def State.injElapsed (s : State) : Word := BitVec.ofNat 32 (min (s.now - s.saf.injAt) 0xFFFFFFFF)

/-- SAF_INJ_LATENCY (R453, R456): it counts while an injection is APPLIED, and holds what it had reached when that ends. -/
def State.latencyNow (s : State) : Word := if s.saf.injState = .applied then s.injElapsed else s.saf.injLatency

/-- An injection ends (R453, R456, R498): the latency count stops, and DETECTED counts it. -/
def State.endInj (s : State) (st : InjSt) : State :=
  let hit := st == .detected
  let s : State := { s with saf := { s.saf with
    injState := st, injPeriod := s.prd.count.setWidth 16
    injLatency := s.latencyNow
    injCovered := if hit then setBit s.saf.injCovered s.saf.injCode else s.saf.injCovered
    injCount := if hit then s.saf.injCount + 1 else s.saf.injCount } }
  s.logEv 0x0404 s.saf.injTile (s.saf.injCode + s.saf.injArg * 256 + st.code * 65536) true

/-- The injection is applied now (R453). -/
def State.applyInj (s : State) : State :=
  { s with saf := { s.saf with injState := .applied, injAt := s.now, injLatency := 0#32, injSeen := [], injReal := false } }

/-- The tiles an injection acts on: its TILE, or every tile of the grade for 0xFF (R453). -/
def State.injTiles (s : State) : List Nat := if s.saf.injTile = 0xFF then s.grade.tiles else [s.saf.injTile]

/-- A corrected single-bit error (R445): the advisory report only. -/
def State.reportEccCorr (s : State) : State := s.report 17 0xFF 0

/-- How long an exclusion lasts by its cause (R446): IMEM_UNCORR never ends in a start, SENTINEL and ECC_UNCORR end by
SAF_READMIT, CAPO_LATE by a later capo, DIAG with the state. -/
def exclRank (cause : Nat) : Nat :=
  if cause = 4 then 4 else if cause = 1 ∨ cause = 3 then 3 else if cause = 2 then 2 else if cause = 5 then 1 else 0

/-- A failure of cause 1 or 3 noted (R457): an accepted SAF_READMIT write of the same instant becomes DENIED. -/
def State.noteFailure (s : State) (t cause : Nat) : State :=
  if cause ≠ 1 ∧ cause ≠ 3 then s
  else
    let now := s.now
    let s := s.modTile t fun x => { x with failT := some now }
    if s.saf.readmitAcc = true ∧ s.saf.readmitTile = t ∧ s.saf.readmitT = now then
      { s with saf := { s.saf with readmitAcc := false, readmitDen := true } }
    else s

/-- A tile excluded for a cause, from the next release on (R446): a cause that lasts longer takes the place of the one
recorded (log entry 49). -/
def State.exclude (s : State) (t cause : Nat) : State :=
  let s := s.noteFailure t cause
  if exclRank (s.tile t).excl < exclRank cause then s.modTile t fun x => { x with excl := cause } else s

/-- SERDES_PLL of SYS_MON_STATUS, a live level (R82, R104): some SerDes PLL is without lock. -/
def State.serdesLevel (s : State) : State :=
  { s with sys := { s.sys with
      monStatus := putBit s.sys.monStatus 23 (s.sys.pcieSerdesLost || !s.sys.courseTxLost.isEmpty) } }

/-! ## Rings, links and streams -/

/-- Ring k. -/
def State.ringOf (s : State) (k : Nat) : Ring := tget {} s.ring.rings k

/-- Ring k replaced. -/
def State.setRing (s : State) (k : Nat) (r : Ring) : State :=
  { s with ring := { s.ring with rings := tput {} s.ring.rings k r } }

/-- Ring k changed by a function. -/
def State.modRing (s : State) (k : Nat) (f : Ring → Ring) : State := s.setRing k (f (s.ringOf k))

/-- LOG2_PAGES of ring k, as loaded (R431). -/
def State.ringLog2 (s : State) (k : Nat) : Nat :=
  if tget 0 s.img.rings k ≠ 0 then tget 0 s.img.rings k - 1 else tget 0 s.img.ringsDis k

/-- ENABLED of ring k (R431). -/
def State.ringEnabled (s : State) (k : Nat) : Bool := tget 0 s.img.rings k != 0

/-- Course link k. -/
def State.link (s : State) (k : Nat) : Link := tget {} s.crs.links k

/-- Course link k changed by a function. -/
def State.modLink (s : State) (k : Nat) (f : Link → Link) : State :=
  { s with crs := { s.crs with links := tput {} s.crs.links k (f (s.link k)) } }

/-- The LINKS record of link k (R123). -/
def State.linkCfg (s : State) (k : Nat) : LinkCfg := tget {} s.img.links k

/-- What the DZ keeps for a stream. -/
def State.stream (s : State) (k : Nat) : StreamRt := tget {} s.strm.rt k

/-- A stream changed by a function. -/
def State.modStream (s : State) (k : Nat) (f : StreamRt → StreamRt) : State :=
  { s with strm := { s.strm with rt := tput {} s.strm.rt k (f (s.stream k)) } }

/-- A frame by its model number. -/
def State.frame (s : State) (k : Nat) : Frame := tget {} s.strm.frm k

/-- A frame changed by a function. -/
def State.modFrame (s : State) (k : Nat) (f : Frame → Frame) : State :=
  { s with strm := { s.strm with frm := tput {} s.strm.frm k (f (s.frame k)) } }

/-- A network as loaded. -/
def State.net (s : State) (k : Nat) : NetCfg := tget {} s.img.nets k

/-- The running plan. -/
def State.plan (s : State) : PlanCfg := tget {} s.img.plans s.sch.plan

/-- A network's tile set: the tiles that hold one of its code blocks, in ascending number (R372, R374). -/
def NetCfg.tileSet (n : NetCfg) : List Nat := (List.range 256).filter fun t => n.blocks.any fun b => b.tile == t

/-- Hops between two tiles, along the row and then the column (R355). -/
def hops (a b : Nat) : Nat :=
  (a / 16 - b / 16) + (b / 16 - a / 16) + (a % 16 - b % 16) + (b % 16 - a % 16)

/-! ## Instances -/

/-- The instance with an identifier. -/
def State.inst (s : State) (id : Nat) : Option Inst := s.sch.insts.find? fun i => i.id == id

/-- The instance table changed at one identifier. -/
def State.modInst (s : State) (id : Nat) (f : Inst → Inst) : State :=
  { s with sch := { s.sch with insts := s.sch.insts.map fun i => if i.id == id then f i else i } }

/-- Deadline d = B + D (R39). -/
def Inst.deadline (i : Inst) : Nat := i.b + i.job.deadlineUs * 1000

/-- Latest start d - W (R39), 0 where W exceeds d. -/
def Inst.latestStart (i : Inst) : Nat := i.deadline - i.job.wNs

/-- Pages opened and not given back, modulo 2^32 (R414). -/
def Ring.held (r : Ring) : Nat := (r.next - r.cons).toNat

/-- A free value of the model (log entry 10): the open constant applied to the counter, which advances. -/
def State.takeFree (s : State) : DWord × State := (Config.freeValue s.free, { s with free := s.free + 1 })

/-! ## Slots in use (R193, R225) -/

/-- The slot an item of a ring holds. -/
def LandItem.slot? : LandItem → Option LandSlot
  | .line _ _ _ x => some x
  | _ => none

/-- The frame an item of a ring belongs to. -/
def LandItem.frame : LandItem → Nat
  | .opened f | .line f _ _ _ | .carrier f _ | .eofEv f _ | .endEv f _ => f

/-- Is an item of a ring an event of the stream's event queue (R195)? -/
def LandItem.isEvent : LandItem → Bool
  | .opened _ | .eofEv _ _ | .endEv _ _ => true
  | .line _ _ _ _ | .carrier _ _ => false

/-! ## DRAM (R82, R308, R317) -/

/-- DRAM peak bandwidth in 0.1 GB/s (R5). -/
def Grade.dramRate : Grade → Nat
  | .dz4 => 341
  | .dz8 => 1365
  | .dz16 => 2730

/-- The channel of a DRAM address: consecutive 256-byte units are interleaved across all channels (R308). -/
def State.chanOf (s : State) (a : Nat) : Nat := a / 256 % s.grade.channels

/-- Does a request for n bytes reach a channel that serves no further request (R82)? -/
def State.dramLost (s : State) (a n : Nat) : Bool :=
  !s.sys.ddrChanLost.isEmpty && (List.range (min s.grade.channels ((a + n + 255) / 256 - a / 256))).any fun k =>
    s.sys.ddrChanLost.contains (s.chanOf (a + 256 * k))

/-- The mesh cycles in which n bytes move at the grade's peak rate (R5, R317), by which DRAM_DATA_BUSY goes up (log entry
43). -/
def State.moveBusy (s : State) (n : Nat) : State :=
  { s with dram := { s.dram with dataBusy := s.dram.dataBusy + BitVec.ofNat 64 ((12 * n + s.grade.dramRate - 1) / s.grade.dramRate) } }

/-- Bytes written to DRAM: what falls on a channel out of service is not served (R82). -/
def State.dramPut (s : State) (a : Nat) (bs : List Byte) : State :=
  if s.dramLost a bs.length then
    { s with dram := { s.dram with
        mem := ((List.range bs.length).zip bs).foldl (fun m x =>
          if s.sys.ddrChanLost.contains (s.chanOf (a + x.1)) then m else tput 0#8 m (a + x.1) x.2) s.dram.mem } }
  else ({ s with dram := { s.dram with mem := memWrite 0#8 s.dram.mem a bs } } : State).moveBusy bs.length

/-! ## Landing rings -/

/-- The slots in use by lines of a stream's ring. -/
def StreamRt.used (x : StreamRt) : List LandSlot := x.ring.filterMap LandItem.slot?

/-- Does a fret hold a line of a stream (R225, R292)? -/
def State.holdsLine (s : State) (k t f : Nat) : Bool :=
  (s.stream k).used.any fun x => x.tile == t && decide (x.first ≤ f) && decide (f < x.first + x.frets)

end Sys2Proof.Machine
end

