-- ==== Sys2Proof/Machine/Link.lean ====
section
/-!
DEFINITION. The transmit side of a Course link (R465 to R469): sequenced flits, their order, and what is held for retry.
-/

namespace Sys2Proof.Machine

/-- A payload of 26 bytes, unused bytes zero (R465). -/
def pad26 (l : List Byte) : List Byte := (l ++ List.replicate 26 0#8).take 26

/-- The order of R467: CTRL, BOUNDARY, DIGEST and END, MSG pairs, PAGE_REQ, page flits. -/
def flitRank (typ : Nat) : Nat :=
  if typ = 1 then 0 else if typ = 2 then 1 else if typ ≤ 4 then 2 else if typ ≤ 6 then 3 else if typ = 7 then 4 else 5

/-- A flit put into the waiting queue in the order of R467. -/
def enqFlit (f : Flit) (q : List Flit) : List Flit :=
  q.filter (fun x => flitRank x.typ ≤ flitRank f.typ) ++ [f] ++ q.filter (fun x => flitRank f.typ < flitRank x.typ)

/-- LFLAGS of a flit sent now (R465). -/
def lflags (s : State) (k : Nat) : Byte :=
  BitVec.ofNat 8 (b2n (s.link k).nak + 2 * b2n (s.crs.fence.getLsbD k) + 4 * b2n (decide (8 ≤ (s.link k).hold.length)))

/-- The 30 bytes of a flit before its CRC (R465). -/
def Flit.head (f : Flit) : List Byte :=
  [BitVec.ofNat 8 (f.typ % 16), f.seq, f.ack, f.lflags] ++ pad26 f.payload

/-- CRC of a flit (R465). -/
def Flit.crc (f : Flit) : Half := BitVec.ofNat 16 (crc16Feed 0xFFFF f.head)

/-- The 32 bytes of a flit (R465). -/
def Flit.bytes (f : Flit) : List Byte := f.head ++ leBytes 2 f.crc.toNat

/-- A SKIP group inserted on every lane (R464): the flits counted start afresh. -/
def Link.skip (l : Link) : Link := { l with sent := [], skips := l.skips + 1 }

/-- A flit leaves the transmitter, behind a SKIP group where 2,048 flits have left since the last one (R464). -/
def Link.emit (l : Link) (f : Flit) : Link :=
  let l := if 2048 ≤ l.sent.length then l.skip else l
  { l with sent := l.sent ++ [f] }

/-- A flit as it goes out: with the ACK and the LFLAGS of this moment (R465). -/
def Link.stamp (l : Link) (lf : Byte) (f : Flit) : Flit := { f with ack := l.rxSeq, lflags := lf }

/-- Flits that may go out now are sent: numbered, held for retry, at most 64 unacknowledged (R468). -/
def Link.pump (lf : Byte) : Nat → Link → Link
  | 0, l => l
  | n + 1, l =>
    match l.txQ with
    | [] => l
    | f :: q =>
      if l.held.length < 64 then
        let f := l.stamp lf { f with seq := l.txSeq }
        Link.pump lf n { l.emit f with txQ := q, held := l.held ++ [f], txSeq := l.txSeq + 1, txFlits := l.txFlits + 1 }
      else l

/-- Every held flit resent, oldest first, with the ACK and the LFLAGS of this moment, ahead of whatever waits (R467, R468). -/
def Link.resend (lf : Byte) (l : Link) : Link :=
  let fs := l.held.map (l.stamp lf)
  { fs.foldl Link.emit l with held := fs }

/-- An IDLE flit, which carries the number of the next sequenced flit (R465). -/
def Link.idleFlit (lf : Byte) (l : Link) : Link := l.emit (l.stamp lf { typ := 0, seq := l.txSeq })

/-- Does a link send flits at all: UP, in training once its lanes have locked, or fenced, when it sends IDLE flits only
(R472, R488)? -/
def State.linkTalks (s : State) (k : Nat) : Bool :=
  (s.link k).st == .up || (s.link k).st == .fenced || ((s.link k).st == .training && (s.link k).locked)

/-- The IDLE flits of one tick in which nothing else goes out (R464, R467): one flit time is a tick on 4 lanes and 8 ns on 2.
`before` is the device time before the tick. -/
def State.idleFlits (s : State) (before : Nat) : State :=
  (List.range s.grade.links).foldl (fun s k =>
    if s.linkTalks k && (s.grade.linkLanes == 4 || before / 8 != s.now / 8) then
      s.modLink k fun l => l.idleFlit (lflags s k)
    else s) s

/-- Waiting flits of a link sent while there is room. -/
def State.pumpLink (s : State) (k : Nat) : State :=
  s.modLink k fun l => l.pump (lflags s k) l.txQ.length

/-- May the link carry sequenced flits: in training or UP, and not fenced (R472, R488)? -/
def State.linkSends (s : State) (k : Nat) : Bool :=
  ((s.link k).st == .training || (s.link k).st == .up) && !s.crs.fence.getLsbD k

/-- A sequenced flit queued and sent in its order (R466, R467). -/
def State.sendFlit (s : State) (k typ : Nat) (payload : List Byte) : State :=
  if s.linkSends k then
    (s.modLink k fun l => { l with txQ := enqFlit { typ := typ, payload := pad26 payload } l.txQ }).pumpLink k
  else s

/-- The link in PAIRED mode, if its current period is matched (R477). -/
def State.pairedLink (s : State) : Option Nat :=
  (List.range s.grade.links).find? fun k => (s.linkCfg k).mode == 1 && (s.link k).matched

/-- The period counter translated to the peer's view is not needed: a side sends its own PERIOD (R476). -/
def endPayload (i : Inst) (status layers : Nat) : List Byte :=
  leBytes 4 i.period.toNat ++ leBytes 2 i.job.job ++ leBytes 1 status ++ [0#8] ++ leBytes 2 layers
    ++ leBytes 4 i.bindCheck.toNat

/-- An END flit for an instance of a matched period (R479). -/
def State.sendEnd (s : State) (i : Inst) (status : Nat) : State :=
  match s.pairedLink with
  | some k => if i.paired then s.sendFlit k 4 (endPayload i status i.ownDigs.length) else s
  | none => s

/-- A DIGEST flit for a layer digest formed in a matched period (R479). -/
def State.sendDigest (s : State) (i : Inst) (layer : Nat) (d : DWord) : State :=
  match s.pairedLink with
  | some k => if i.paired then s.sendFlit k 3 (leBytes 4 i.period.toNat ++ leBytes 2 i.job.job ++ leBytes 2 layer
      ++ leBytes 8 d.toNat ++ leBytes 4 i.bindCheck.toNat ++ leBytes 1 (b2n i.degraded)) else s
  | none => s

end Sys2Proof.Machine
end

