-- ==== Sys2Proof/Machine/Store.lean ====
section
/-!
DEFINITION. The fields of a stream context (R171) and the shape of its frames: pyramid levels (R209), bands and parts
(R211), and the layout of a frame store (R214).
-/

namespace Sys2Proof

/-! ## Stream context fields (R171) -/

/-- WIDTH. -/
def Machine.StreamCfg.width (c : Machine.StreamCfg) : Nat := Machine.bits c.geom.toNat 13 0
/-- HEIGHT. -/
def Machine.StreamCfg.height (c : Machine.StreamCfg) : Nat := Machine.bits c.geom.toNat 27 14
/-- PIXEL. -/
def Machine.StreamCfg.pixel (c : Machine.StreamCfg) : Nat := Machine.bits c.geom.toNat 30 28
/-- NETWORK. -/
def Machine.StreamCfg.network (c : Machine.StreamCfg) : Nat := Machine.bits c.bind.toNat 7 0
/-- CLASS. -/
def Machine.StreamCfg.cls (c : Machine.StreamCfg) : Nat := Machine.bits c.bind.toNat 9 8
/-- WINDOW, in periods minus 1. -/
def Machine.StreamCfg.window (c : Machine.StreamCfg) : Nat := Machine.bits c.bind.toNat 13 10
/-- PYRAMID. -/
def Machine.StreamCfg.pyramid (c : Machine.StreamCfg) : Nat := Machine.bits c.bind.toNat 18 14
/-- TENSOR: FP16. -/
def Machine.StreamCfg.tensorFp16 (c : Machine.StreamCfg) : Bool := c.bind.getLsbD 19
/-- LANES. -/
def Machine.StreamCfg.lanes (c : Machine.StreamCfg) : Nat := Machine.bits c.bind.toNat 21 20
/-- INTERVAL_US. -/
def Machine.StreamCfg.intervalUs (c : Machine.StreamCfg) : Nat := Machine.bits c.timing.toNat 19 0
/-- TOL. -/
def Machine.StreamCfg.tol (c : Machine.StreamCfg) : Nat := Machine.bits c.timing.toNat 25 20
/-- SHORT_POLICY is DROP. -/
def Machine.StreamCfg.dropShort (c : Machine.StreamCfg) : Bool := c.guard.getLsbD 0
/-- LONG_POLICY is STRICT. -/
def Machine.StreamCfg.strict (c : Machine.StreamCfg) : Bool := c.guard.getLsbD 1
/-- COUNTER. -/
def Machine.StreamCfg.counter (c : Machine.StreamCfg) : Nat := Machine.bits c.guard.toNat 3 2
/-- CV_SCOPE. -/
def Machine.StreamCfg.cvScope (c : Machine.StreamCfg) : Nat := Machine.bits c.guard.toNat 5 4
/-- CV_UNIT. -/
def Machine.StreamCfg.cvUnit (c : Machine.StreamCfg) : Nat := Machine.bits c.guard.toNat 6 6
/-- LINENUM. -/
def Machine.StreamCfg.lineNum (c : Machine.StreamCfg) : Bool := c.guard.getLsbD 7

end Sys2Proof

namespace Sys2Proof.Machine

/-- The accepted STREAMS record of a stream. -/
def State.streamCfg (s : State) (k : Nat) : StreamCfg := tget {} s.img.streams k

/-- PIXEL is BYTES. -/
def StreamCfg.isBytes (c : StreamCfg) : Bool := c.pixel == 0

/-- L, the line length in bytes (R155). -/
def StreamCfg.lineBytes (c : StreamCfg) : Nat :=
  match c.pixel with
  | 0 => c.width
  | 1 => c.width * 5 / 4
  | 2 => c.width * 3 / 2
  | 3 => c.width * 2
  | 4 => c.width * 2
  | 5 => c.width * 3
  | _ => c.width

/-- Sample depth d of a RAW format (R207). -/
def StreamCfg.depth (c : StreamCfg) : Nat :=
  match c.pixel with
  | 1 => 10
  | 2 => 12
  | 3 => 16
  | _ => 8

/-- Channels of a level (R207, R210). -/
def StreamCfg.channels (c : StreamCfg) (level : Nat) : Nat :=
  if c.pixel = 4 then (if level = 0 then 2 else 1) else if c.pixel = 5 then 3 else 1

/-- Bytes per stored value: FP16 takes 2; TENSOR is ignored for BYTES (R207, R211). -/
def StreamCfg.sampleBytes (c : StreamCfg) : Nat := if c.tensorFp16 && !c.isBytes then 2 else 1

/-- The produced levels (R209): only level 0 for BYTES. -/
def StreamCfg.produced (c : StreamCfg) (level : Nat) : Bool :=
  if c.isBytes then level == 0 else bitOf c.pyramid level

/-- K_max (R209). -/
def StreamCfg.kMax (c : StreamCfg) : Nat :=
  if c.isBytes then 0 else ((List.range 5).filter fun k => bitOf c.pyramid k).getLastD 0

/-- Half, rounded up, k times. -/
def halves (n : Nat) : Nat → Nat
  | 0 => n
  | k + 1 => (halves n k + 1) / 2

/-- W_k (R209). -/
def StreamCfg.levelW (c : StreamCfg) (k : Nat) : Nat := halves c.width k

/-- H_k (R209). -/
def StreamCfg.levelH (c : StreamCfg) (k : Nat) : Nat := halves c.height k

/-- Bands of a level (R211). -/
def StreamCfg.bands (c : StreamCfg) (k : Nat) : Nat := (c.levelH k + 15) / 16

/-- Bytes of one row of a level. -/
def StreamCfg.rowBytes (c : StreamCfg) (k : Nat) : Nat := c.levelW k * c.channels k * c.sampleBytes

/-- Rows of a band: 16, or what is left (R211). -/
def StreamCfg.bandRows (c : StreamCfg) (k b : Nat) : Nat := min 16 (c.levelH k - 16 * b)

/-- Bytes of a band (R211). -/
def StreamCfg.bandBytes (c : StreamCfg) (k b : Nat) : Nat := c.bandRows k b * c.rowBytes k

/-- Parts of a band (R211). -/
def StreamCfg.bandParts (c : StreamCfg) (k b : Nat) : Nat := (c.bandBytes k b + 4095) / 4096

/-- Parts of a level. -/
def StreamCfg.levelParts (c : StreamCfg) (k : Nat) : Nat :=
  ((List.range (c.bands k)).map (c.bandParts k)).foldl (· + ·) 0

/-- N_b, parts of the built levels (R214). -/
def StreamCfg.builtParts (c : StreamCfg) : Nat :=
  ((List.range (c.kMax + 1)).map c.levelParts).foldl (· + ·) 0

/-- N_p, parts of the produced levels (R214). -/
def StreamCfg.producedParts (c : StreamCfg) : Nat :=
  (((List.range (c.kMax + 1)).filter c.produced).map c.levelParts).foldl (· + ·) 0

/-- 4 KiB units of the store head and tags (R214). -/
def StreamCfg.headUnits (c : StreamCfg) : Nat := (64 + 16 * c.producedParts + 4095) / 4096

/-- Bytes of a frame store (R214). -/
def StreamCfg.storeBytes (c : StreamCfg) : Nat := 4096 * (c.headUnits + c.builtParts)

/-- The unit of the store that holds a part: level, band, part order (R214). -/
def StreamCfg.partUnit (c : StreamCfg) (k b p : Nat) : Nat :=
  c.headUnits + ((List.range k).map c.levelParts).foldl (· + ·) 0
    + ((List.range b).map (c.bandParts k)).foldl (· + ·) 0 + p

/-- Does the part exist among the built levels? -/
def StreamCfg.hasPart (c : StreamCfg) (k b p : Nat) : Bool :=
  decide (k ≤ c.kMax) && decide (b < c.bands k) && decide (p < c.bandParts k b)

/-- DRAM address of a store of a stream. -/
def State.storeAddr (s : State) (stream store : Nat) : Option Nat :=
  (s.stream stream).storeBase.map fun b => b + store * (s.streamCfg stream).storeBytes

/-- DRAM address of the store a frame holds. -/
def State.frameStore (s : State) (fid : Nat) : Option Nat :=
  match (s.frame fid).store with
  | some k => s.storeAddr (s.frame fid).stream k
  | none => none

end Sys2Proof.Machine
end

