-- ==== Sys2Proof/Machine/Ready.lean ====
section
/-!
DEFINITION. The RDY block's bits (R98 to R103, R105), the readiness of streams (R98, R178, R198), and the start of the
period generator (R32, R475).
-/

namespace Sys2Proof.Machine

/-! ## Access paths (R15, R97, R403, R404, R407) -/

/-- Does an access over a path reach the register space: the main domain runs, and the SPI port is ready, or the PCIe link
is in L0 with Memory Space Enable set in D0? Under P_LOCK there is no BAR2. -/
def State.reach (s : State) (path : Port) : Bool :=
  let pcie := s.pcie.l0 && s.pcie.command.getLsbD 1 && s.pcie.dstate == 0
  !s.aon.mainReset && match path with
  | .bar0 => pcie
  | .bar2 => pcie && !s.sys.straps.getLsbD 0
  | .spi => s.ready 1

/-- Is the path one of the P-view, and does its access arrive? -/
def State.pview (s : State) (path : Port) : Bool := s.reach path && path != .bar0

/-- SOURCE of a HOST_MARK or CONTROL entry (R498): 0 BAR2, 1 SPI. -/
def pathSource : Port → Nat
  | .spi => 1
  | _ => 0

/-! ## RDY bits (R101 to R105) -/

/-- A RDY_STATUS bit sets: RDY_SEQ counts the change, and the time of its first setting is kept (R102, R103). -/
def State.setRdy (s : State) (i : Nat) : State :=
  if s.ready i then s
  else
    let t := s.rdy.times.getD i 0xFFFFFFFF#32
    let now := BitVec.ofNat 32 (s.sys.uptimeNs / 1000)
    { s with rdy := { s.rdy with
        status := setBit s.rdy.status i, seq := s.rdy.seq + 1
        times := if t = 0xFFFFFFFF#32 then s.rdy.times.set i now else s.rdy.times } }

/-- A RDY_STATUS bit clears. -/
def State.clrRdy (s : State) (i : Nat) : State :=
  if s.ready i then { s with rdy := { s.rdy with status := clrBit s.rdy.status i, seq := s.rdy.seq + 1 } } else s

/-- A function fails to become ready in this start (R101). -/
def State.failRdy (s : State) (i : Nat) : State := { s with rdy := { s.rdy with fail := setBit s.rdy.fail i } }

/-- Has the function failed in this start? -/
def State.failed (s : State) (i : Nat) : Bool := s.rdy.fail.getLsbD i

/-- A RDY_PORT bit sets. -/
def State.setPort (s : State) (i : Nat) : State :=
  if s.rdy.port.getLsbD i then s
  else { s with rdy := { s.rdy with port := setBit s.rdy.port i, seq := s.rdy.seq + 1 } }

/-- A RDY_PORT bit clears. -/
def State.clrPort (s : State) (i : Nat) : State :=
  if s.rdy.port.getLsbD i then { s with rdy := { s.rdy with port := clrBit s.rdy.port i, seq := s.rdy.seq + 1 } } else s

/-- A port fails to become ready in this start (R101). -/
def State.failPort (s : State) (i : Nat) : State := { s with rdy := { s.rdy with portFail := setBit s.rdy.portFail i } }

/-- The RDY_PORT bit of a sensor port by its kind (R105, R124): CSI-2 0, Ethernet 1 and 2, 10BASE-T1S 3. -/
def portBit (kind port : Nat) : Nat := if kind = 0 then port else if kind = 3 then 20 + port else 16 + port

/-- Is network k resident? -/
def State.netReady (s : State) (k : Nat) : Bool := s.rdy.net.getLsbD k

/-- Is stream k ready? -/
def State.streamReady (s : State) (k : Nat) : Bool := (tget 0#32 s.rdy.stream (k / 32)).getLsbD (k % 32)

/-! ## Streams -/

/-- Do the prerequisites of a stream hold (R98): its port, its network and PERIODS? -/
def State.streamMay (s : State) (k : Nat) : Bool :=
  let c := s.streamCfg k
  s.ready 13 && s.rdy.port.getLsbD (portBit c.kind c.port) && s.netReady c.network

/-- A stream's bit changed, with what becoming ready starts afresh: the first frame of R162 and R198, the frames of R176, and
the landing ring, which gives up what landed before (R99, R195, log entry 60). -/
def State.putStream (s : State) (k : Nat) (on : Bool) : State :=
  if s.streamReady k = on then s
  else
    let w := putBit (tget 0#32 s.rdy.stream (k / 32)) (k % 32) on
    let s : State := { s with rdy := { s.rdy with stream := tput 0#32 s.rdy.stream (k / 32) w, seq := s.rdy.seq + 1 } }
    let from_ := s.strm.nextF
    let pre (i : LandItem) : Bool := i.frame == 0 || (s.frame i.frame).pre
    if on then s.modStream k fun x => { x with
      wasReady := true, started := false, readyF := from_, seqPrev := none, ring := x.ring.filter fun i => !pre i }
    else s

/-- Every stream's readiness follows its prerequisites. -/
def State.refreshStreams (s : State) : State :=
  s.img.streams.foldl (fun s x => s.putStream x.1 (s.streamMay x.1)) s

/-! ## The start of the period generator -/

/-- The first grid point at or after a device time (R31). -/
def gridFrom (phase pNs t : Nat) : Nat :=
  if pNs = 0 then t else if t ≤ phase then phase - (phase - t) / pNs * pNs else phase + (t - phase + pNs - 1) / pNs * pNs

/-- The first grid point at or after a device time, of the running plan. -/
def State.gridPoint (s : State) (t : Nat) : Nat := gridFrom s.prd.phase.toNat (s.prd.pUs * 1000) t

/-- What PERIODS needs beside a first boundary: PLAN, RINGS, SAFETY and TIMEBASE (R98). -/
def State.periodsMay (s : State) : Bool := s.ready 12 && s.ready 10 && s.ready 11 && s.ready 3

/-- The PAIRED and JOINED links that are UP. -/
def State.upLinks (s : State) : List Nat :=
  (List.range s.grade.links).filter fun k => (s.linkCfg k).mode != 0 && (s.link k).st == .up

/-- A START flit with the side's own first boundary on a link that has had none (R475). -/
def State.sendStart (s : State) (k : Nat) : State :=
  if (s.link k).startSent then s
  else (s.sendFlit k 1 ([1#8, 0#8, 0#8, 0#8] ++ leBytes 8 s.prd.next)).modLink k fun l => { l with startSent := true }

/-- The generator's wait for the peers ends: it starts at the later of the first boundaries; one already past gives way to
the next grid point (R475). -/
def State.endStartWait (s : State) : State :=
  let f := s.upLinks.foldl (fun m k => max m ((s.link k).peerFirst.getD 0)) s.prd.next
  { s with crs := { s.crs with startWait := false }
           prd := { s.prd with next := if f < s.now then s.gridPoint s.now else f } }

/-- Start coordination (R475): while a first boundary is fixed and not reached, each UP link sends START; the generator
waits until every such peer has sent its own, or runs already. -/
def State.coordinate (s : State) : State :=
  if s.prd.gen == .idle && s.prd.started && !s.prd.anyBoundary && !s.upLinks.isEmpty then
    let s : State := s.upLinks.foldl State.sendStart s
    if s.upLinks.all fun k => (s.link k).peerFirst.isSome || (s.link k).peerBnd.isSome then s.endStartWait
    else { s with crs := { s.crs with startWait := true } }
  else s

/-- The first boundary fixed as for FREE (R32): the first grid point at least 100 µs from now. -/
def State.fixFirst (s : State) : State :=
  ({ s with prd := { s.prd with started := true, next := s.gridPoint (s.now + 100000), lockWaitEnd := none } } :
    State).coordinate

/-- The period generator starts once it may (R32): at once under FREE or with the timebase locked, else LOCK_WAIT runs. -/
def State.tryStart (s : State) : State :=
  if s.prd.started || !s.periodsMay || s.aon.standby != .none then s
  else if s.prd.align = 0 || s.ready 4 then s.fixFirst
  else if s.prd.lockWaitEnd.isSome then s
  else
    let plan := s.plan
    { s with prd := { s.prd with lockWaitEnd := some (s.now + plan.lockWaitMs * 1000000) } }

/-- LOCK_WAIT_EXPIRY (R32): the timebase has not locked within LOCK_WAIT; the generator starts as for FREE. -/
def execLockWaitExpiry (s : State) : Result :=
  .next (match s.prd.lockWaitEnd with
  | none => s
  | some t =>
    let s := s.advanceTo t
    if s.now < t ∨ s.prd.started = true then s
    else
      let s := s.fixFirst
      { s with prd := { s.prd with lockTimeout := true } })

/-- START_WAIT_TIMEOUT (R475): 1,000 ms past its own first boundary the side starts alone. -/
def execStartWaitTimeout (t : Nat) (s : State) : Result :=
  .next (
    let s := s.advanceTo t
    if s.crs.startWait = false ∨ s.now < s.prd.next + 1000000000 then s
    else { s with crs := { s.crs with startWait := false }
                  prd := { s.prd with next := s.gridPoint s.now } })

end Sys2Proof.Machine
end

