-- ==== Sys2Proof/Machine/Evr.lean ====
section
/-!
DEFINITION. The event recorder (R493 to R514): entries, suppression, the flush and its slots, their examination, recovery
and arming, and entry into retention standby up to its flush (R86).
-/

namespace Sys2Proof.Machine

/-! ## Entries (R493 to R498) -/

/-- Codes that are never suppressed (R498). -/
def alwaysCodes : List Nat :=
  [0x0101, 0x0102, 0x0103, 0x0105, 0x0106, 0x0107, 0x0108, 0x0109, 0x0301, 0x0304, 0x0402, 0x0403, 0x0404, 0x0502,
   0x0602, 0x0702, 0x0703, 0x0801, 0x0802]

/-- An entry stored at ring index SEQ mod 4,096 with the next SEQ (R493). -/
def State.storeEntry (s : State) (e : EvrEntry) : State :=
  { s with evr := { s.evr with
      ring := tput {} s.evr.ring (s.evr.next.toNat % 4096) { e with seq := s.evr.next }
      upset := tput 0 s.evr.upset (s.evr.next.toNat % 4096) 0
      next := s.evr.next + 1 } }

/-- The combination that R497 writes once per period. -/
def entryKey (e : EvrEntry) : Half × Half × Byte := (e.code, e.source, e.arg.setWidth 8)

/-- An event written, or suppressed (R497). -/
def State.writeEntry (s : State) (e : EvrEntry) : State :=
  if alwaysCodes.contains e.code.toNat then s.storeEntry e
  else if s.evr.seen.contains (entryKey e) then
    { s with evr := { s.evr with suppressed := s.evr.suppressed + 1, suppPend := s.evr.suppPend + 1 } }
  else
    let s := s.storeEntry e
    { s with evr := { s.evr with seen := s.evr.seen ++ [entryKey e] } }

/-- The event at the head of the input queue is written; room in the queue lets the losses be recorded (R495). -/
def State.writeHead (s : State) : State :=
  match s.evr.queue with
  | [] => s
  | e :: rest =>
    let s := ({ s with evr := { s.evr with queue := rest } } : State).writeEntry e
    if s.evr.lostPend = 0 then s
    else
      let n := s.evr.lostPend
      ({ s with evr := { s.evr with lostPend := 0 } } : State).logEv 0x0801 0xFFFF n

/-- Errors that have arisen in the retention SRAM (R510): ring index, and 1 for a correctable one or 2 for an uncorrectable. -/
def State.upsetRing (s : State) (l : List (Nat × Nat)) : State :=
  { s with evr := { s.evr with upset := l.foldl (fun m x => tput 0 m (x.1 % 4096) (min x.2 2)) s.evr.upset } }

/-- EVENT_ENTRY_WRITE (R495): `upsets` are the errors that have arisen in the retention SRAM since the last entry was written. -/
def execEventEntryWrite (s : State) (upsets : List (Nat × Nat) := []) : Result :=
  .next (if s.aon.mainReset then s else (s.upsetRing upsets).writeHead)

/-- Every event that waits is written. -/
def State.drainEvents (s : State) : State := (List.range 66).foldl (fun s _ => s.writeHead) s

/-- Capo step 10 (R497): the SUPPRESSED entry of the period, and the next period's combinations start afresh. -/
def State.closeSuppression (s : State) : State :=
  let n := s.evr.suppPend
  let s : State := { s with evr := { s.evr with seen := [], suppPend := 0 } }
  if n = 0 then s else s.logEv 0x0802 0xFFFF n

/-- The sequence number that a ring index implies: the newest one stored there (R493, R510). -/
def Evr.seqAt (e : Evr) (i : Nat) : Word := e.next - 1 - BitVec.ofNat 32 ((e.next - 1).toNat + 4096 - i) % 4096

/-- A ring entry read from the retention SRAM (R445, R510): a correctable error is corrected and reported; for an uncorrectable one
a DAMAGED entry with the sequence number that its index implies stands in, whose TIME, PERIOD and START the spec does not give
(free values, log entry 10), and ECC_UNCORR is raised. -/
def State.readEntry (s : State) (i : Nat) : EvrEntry × State :=
  match tget 0 s.evr.upset i with
  | 0 => (tget {} s.evr.ring i, s)
  | 1 => (tget {} s.evr.ring i, s.reportEccCorr)
  | _ =>
    let (a, s) := s.takeFree
    let (b, s) := s.takeFree
    let e : EvrEntry := { code := 0xFFFE#16, source := 0xFFFF#16, seq := s.evr.seqAt i, time := a, period := b.setWidth 32
                          start := (b >>> 32).setWidth 16 }
    let s : State := { s with evr := { s.evr with events := setBit s.evr.events 4 } }
    (e, s.report 1 0xFF 0)

/-- Ring entries read one after the other. -/
def State.readEntries (s : State) : List Nat → List EvrEntry × State
  | [] => ([], s)
  | i :: l =>
    let r := s.readEntry i
    let rest := r.2.readEntries l
    (r.1 :: rest.1, rest.2)

/-- The 32 bytes of an entry (R496). -/
def entryBytes (e : EvrEntry) : List Byte :=
  leBytes 2 e.code.toNat ++ leBytes 2 e.source.toNat ++ leBytes 4 e.seq.toNat ++ leBytes 8 e.time.toNat
    ++ leBytes 4 e.period.toNat ++ leBytes 2 e.start.toNat ++ [e.flags, 0#8] ++ leBytes 8 e.arg.toNat

/-! ## Slots (R499, R505, R506) -/

/-- Base of a slot in the recorder range. -/
def slotBase (n : Nat) : Nat := 65536 * n

/-- Bytes of a slot. -/
def State.slotBytes (s : State) (n off len : Nat) : List Byte := memRead 0xFF#8 s.evr.flash (slotBase n + off) len

/-- Does the DZ drive the xSPI and eMMC pins? They are at high impedance while the main domain is held in reset (R114); of the
flash only the two recorder slots are ever programmed or erased. -/
def State.flashPinsDriven (s : State) : Bool := !s.aon.mainReset

/-- Bytes programmed into a slot: a program only clears bits of the flash. -/
def State.program (s : State) (n off : Nat) (bs : List Byte) : State :=
  let old := s.slotBytes n off bs.length
  let new := (old.zip bs).map fun x => x.1 &&& x.2
  { s with evr := { s.evr with flash := memWrite 0xFF#8 s.evr.flash (slotBase n + off) new } }

/-- Are the header, CHECK and COMMIT bytes of a slot all 0xFF? -/
def State.slotBlank (s : State) (n : Nat) : Bool :=
  (s.slotBytes n 0 256 ++ s.slotBytes n 0x4100 4 ++ s.slotBytes n 0x4200 1).all (· == 0xFF#8)

/-- Does the whole slot read 0xFF (R508)? -/
def State.slotErased (s : State) (n : Nat) : Bool :=
  s.evr.flash.all fun c => c.1 < slotBase n || slotBase n + 65536 ≤ c.1

/-- Is a slot header valid: MAGIC, FORMAT, COUNT, reserved bytes and HEADER_CHECK (R499, R505)? -/
def headerValid (h : List Byte) : Bool :=
  slice h 0 4 == [0x44#8, 0x5A#8, 0x45#8, 0x56#8] && field h 4 2 == 1 && decide (1 ≤ field h 6 2) &&
    decide (field h 6 2 ≤ 512) && field h 0x1D 3 == 0 && (slice h 0x30 204).all (· == 0#8) &&
    crc32c (slice h 0 252) == wordAt h 0xFC

/-- The state of a slot as first read (R505), with its FLUSH_SEQ. -/
def State.classify (s : State) (n : Nat) : EvrSlot :=
  let h := s.slotBytes n 0 256
  let c := (s.slotBytes n 0x4200 1).headD 0xFF#8
  let seq := wordAt h 8
  if s.slotBlank n then {}
  else if !headerValid h then { st := 1 }
  else if c = 0xFF#8 then { st := 2, seq := seq }
  else if c ≠ 0x3C#8 then { st := 3, seq := seq }
  else { st := 4, seq := seq }

/-- The slot n as examined. -/
def State.evrSlot (s : State) (n : Nat) : EvrSlot := if n = 0 then s.evr.slot0 else s.evr.slot1

/-- A slot's state recorded. -/
def State.setEvrSlot (s : State) (n : Nat) (x : EvrSlot) : State :=
  if n = 0 then { s with evr := { s.evr with slot0 := x } } else { s with evr := { s.evr with slot1 := x } }

/-- Is FLUSH_SEQ a newer than b (R506)? -/
def newerSeq (a b : Word) : Bool := decide (1 ≤ (a - b).toNat) && decide ((a - b).toNat < 2 ^ 31)

/-- The newest slot among those in state k (R506). -/
def State.newestSlot (s : State) (k : Nat) : Option Nat :=
  let a := s.evr.slot0.st == k
  let b := s.evr.slot1.st == k
  if a && b then some (if newerSeq s.evr.slot1.seq s.evr.slot0.seq then 1 else 0)
  else if a then some 0 else if b then some 1 else none

/-- FLUSH_SEQ of the next flush (R506). -/
def State.nextFlushSeq (s : State) : Word :=
  let l := ([s.evr.slot0, s.evr.slot1].filter fun x => 2 ≤ x.st && x.st ≤ 6).map fun x => x.seq.toNat
  BitVec.ofNat 32 (l.foldl max 0 + 1)

/-- ARG of a SLOTS entry (R498). -/
def State.slotsArg (s : State) : Nat :=
  s.evr.slot0.st + 16 * s.evr.slot1.st + 256 * s.evr.recSlot + 512 * b2n s.evr.recovered

/-- The slots examined at load step 2 (R507, R508): EVR sets, and the SLOTS entry is written. -/
def State.examineSlots (s : State) : State :=
  let s := (s.setEvrSlot 0 (s.classify 0)).setEvrSlot 1 (s.classify 1)
  let target := match s.newestSlot 4 with
    | some 0 => 1
    | _ => 0
  let s : State := { s with evr := { s.evr with
    examined := true, target := target
    arm := if s.slotBlank target then .early else .unarmed } }
  (s.setRdy 7).logEv 0x0109 0xFFFF s.slotsArg

/-- The whole target is read: ARMED, or its erase begins (R508). -/
def State.armTarget (s : State) : State :=
  if s.evr.faulty then s
  else { s with evr := { s.evr with arm := if s.slotErased s.evr.target then .armed else .erasing } }

/-- A COMMITTED slot verified: TRUSTED or CHECK_FAIL (R505, R509). -/
def State.verifySlot (s : State) (n : Nat) : State :=
  if (s.evrSlot n).st ≠ 4 then s
  else
    let h := s.slotBytes n 0 256
    let bs := s.slotBytes n 0x100 (32 * field h 6 2)
    let ok := crc32c (h ++ bs) == wordAt (s.slotBytes n 0x4100 4) 0
    s.setEvrSlot n { (s.evrSlot n) with st := if ok then 5 else 6 }

/-- Recovery and arming at LOAD_DONE (R508, R509). -/
def State.recover (s : State) : State :=
  if !s.evr.examined then s
  else
    let s := (s.verifySlot 0).verifySlot 1
    let s : State := match s.newestSlot 5 with
      | none => s
      | some n =>
        let h := s.slotBytes n 0 256
        let s : State := { s with evr := { s.evr with
          recovered := true, recSlot := n, recHead := h, target := 1 - n
          recData := s.slotBytes n 0x100 (32 * field h 6 2) } }
        s.logEv 0x0109 0xFFFF s.slotsArg
    if s.evr.arm = .spent ∨ s.evr.arm = .flushing then s else s.armTarget

/-! ## The flush (R500 to R504) -/

/-- The snapshot (R500): the ring entries of the newest min(512, SEQ count) events, in ascending SEQ, as read (R510). -/
def State.snapshot (s : State) : List EvrEntry × State :=
  let n := min 512 s.evr.ring.length
  s.readEntries ((List.range n).map fun i => (s.evr.next - BitVec.ofNat 32 (n - i)).toNat % 4096)

/-- The slot header of a flush (R499). -/
def State.flushHeader (s : State) (l : List EvrEntry) (cause : Nat) : List Byte :=
  let h := [0x44#8, 0x5A#8, 0x45#8, 0x56#8] ++ leBytes 2 1 ++ leBytes 2 l.length ++ leBytes 4 s.nextFlushSeq.toNat
    ++ leBytes 4 s.evr.starts.toNat ++ leBytes 4 (sysId s).toNat ++ leBytes 4 s.rdy.imgId.toNat
    ++ leBytes 4 ((l.map fun e => e.seq.toNat).headD 0) ++ leBytes 1 cause ++ leBytes 3 0 ++ leBytes 8 s.now
    ++ leBytes 8 (s.sys.uptimeNs / 1000) ++ List.replicate 204 0#8
  h ++ leBytes 4 (crc32c h).toNat

/-- Why a flush is skipped (R498, R508), 0 where it may run. -/
def State.skipReason (s : State) : Nat :=
  match s.evr.arm with
  | .early | .armed => 0
  | .verifying => if s.evr.armBefore = .early ∨ s.evr.armBefore = .armed then 0 else 1
  | .erasing => 2
  | .spent | .flushing => 4
  | .unarmed => if s.failed 5 then 3 else 1

/-- The programs of a flush in order (R501): the header, the entries 256 bytes at a time, CHECK and COMMIT. -/
def flushPrograms (h bs : List Byte) : List (Nat × List Byte) :=
  [(0, h)] ++ (List.range ((bs.length + 255) / 256)).map (fun i => (0x100 + 256 * i, slice bs (256 * i) (min 256 (bs.length - 256 * i))))
    ++ [(0x4100, leBytes 4 (crc32c (h ++ bs)).toNat), (0x4200, [0x3C#8])]

/-- Programs carried out on the target slot. -/
def State.programAll (s : State) (l : List (Nat × List Byte)) : State := l.foldl (fun s p => s.program s.evr.target p.1 p.2) s

/-- Bytes of a program cut short: bits that it was to clear may still be set (free values, log entry 10). -/
def tornBytes : List Byte → State → List Byte × State
  | [], s => ([], s)
  | b :: bs, s =>
    let (v, s) := s.takeFree
    let (r, s) := tornBytes bs s
    ((b ||| v.setWidth 8) :: r, s)

/-- A flush that is cut simply stops (R504, R505, R514): some of its programs are done, and one of them only in part; how far it
got is a free value (log entry 10). -/
def State.cutFlush (s : State) : State :=
  if !s.evr.flushing then s
  else
    let todo := s.evr.todo
    let (v, s) := s.takeFree
    let k := v.toNat % (todo.length + 1)
    let s := s.programAll (todo.take k)
    match todo.drop k with
    | [] => s
    | (off, bs) :: _ =>
      let (bs, s) := tornBytes bs s
      s.program s.evr.target off bs

/-- An erase that is cut leaves any state between the slot as it was and a blank one (R505): each bit that was clear may be set
(free values, log entry 10). -/
def State.cutErase (s : State) : State :=
  if s.evr.arm ≠ .erasing then s
  else
    let base := slotBase s.evr.target
    (s.evr.flash.filter fun c => base ≤ c.1 && c.1 < base + 65536).foldl (fun s c =>
      let (v, s) := s.takeFree
      { s with evr := { s.evr with flash := tput 0xFF#8 s.evr.flash c.1 (c.2 ||| v.setWidth 8) } }) s

/-- A flush begins with the snapshot fixed and its programs laid out (R500, R501); they are done at FLUSH_DONE. The boolean
tells whether it began. -/
def State.beginFlush (s : State) (cause : Nat) : State × Bool :=
  let why := s.skipReason
  if why ≠ 0 then
    let s : State := { s with evr := { s.evr with events := setBit s.evr.events 1 } }
    (s.logEv 0x0108 0xFFFF why, false)
  else
    let r := s.snapshot
    let l := r.1
    let s := r.2
    let h := s.flushHeader l cause
    let bs := (l.map entryBytes).flatten
    let n := s.evr.target
    let seq := s.nextFlushSeq
    let s := s.setEvrSlot n { st := 2, seq := seq }
    ({ s with evr := { s.evr with arm := .flushing, flushing := true, todo := flushPrograms h bs, flushSeq := seq, flushStandby := cause == 2,
                                  flushT0 := s.sys.uptimeNs } }, true)

/-! ## Retention standby (R86) -/

/-- The main domain held in reset (R93, R95): every block of it is as at reset; the always-on domain, the recorder's
retention SRAM, the flash, the Hoist and what lies outside the part stay, and a flush or erase under way is cut. SAFE_TOGGLE is
low. -/
def State.mainReset (s : State) : State :=
  let s := s.cutFlush.cutErase
  let fresh : State := {}
  { fresh with
    pending := s.pending, grade := s.grade, free := s.free, hoist := s.hoist, out := s.out
    aon := { s.aon with mainReset := true, pllLocked := false, pinAfterFlush := false, softAfterFlush := false }
    evr := { fresh.evr with ring := s.evr.ring, upset := s.evr.upset, next := s.evr.next, starts := s.evr.starts, flash := s.evr.flash }
    ring := { fresh.ring with hostMem := s.ring.hostMem } }

/-- A cause remembered for the next start (R104): bits in the order of SYS_RST_CAUSE. -/
def State.addCause (s : State) (bit : Nat) : State := { s with aon := { s.aon with causes := setBit s.aon.causes bit } }

/-- Standby step 4: PWR_EN_MAIN falls, and the main domain loses its rails. -/
def State.sleep (s : State) : State :=
  let l2 := s.pcie.l2
  let s := (s.addCause 4).mainReset
  { s with aon := { s.aon with standby := .asleep, pwrEnMain := false }, pcie := { s.pcie with l2 := l2 } }

/-- Standby step 3: posted writes complete or are abandoned, and the PCIe link goes to L2 once the host has answered
(R86, R401); a link that is not in L0 needs no answer. -/
def State.standbyLink (s : State) : State :=
  let s : State := { s with ring := { s.ring with posted := [] } }
  if s.pcie.l0 && !s.pcie.pmeAck then { s with aon := { s.aon with standby := .waitL2 } }
  else { s with pcie := { s.pcie with l2 := s.pcie.l0, l0 := false } }.sleep

/-- Standby entry (R86): intake stops, the load ends, the STANDBY event is written and the recorder flushes, unless a flush
already runs (R88). -/
def State.enterStandby (s : State) : State :=
  let s := (s.logEv 0x0105 0xFFFF 0).drainEvents
  let s : State := { s with
    aon := { s.aon with standby := .flushing, standbyT := s.sys.uptimeNs }
    strm := { s.strm with stopped := true }
    img := { s.img with stopped := true } }
  if s.evr.flushing then { s with evr := { s.evr with flushStandby := true } }
  else
    let (s, ran) := s.beginFlush 2
    if ran then s else s.standbyLink

/-! ## Commands -/

/-- PWR_FAIL_N_FALL (R78, R500, R504, R513): the PWR_FAIL entry is written and the flush begins; while a flush runs the
edge is only counted, and in standby it is ignored (R88). -/
def execPwrFailNFall (s : State) : Result :=
  .next (
    let s : State := { s with aon := { s.aon with pwrFailN := false } }
    if s.aon.mainReset || s.aon.standby == .asleep then s
    else
      let s : State := { s with sys := { s.sys with monEvents := setBit s.sys.monEvents 26 } }
      if s.evr.flushing || s.aon.standby == .flushing || s.aon.standby == .waitL2 then
        { s with evr := { s.evr with events := setBit s.evr.events 5 } }
      else
        let s := s.drainEvents
        let s := s.storeEntry (mkEntry s 0x0106 0xFFFF (s.sys.uptimeNs / 1000) false)
        (s.beginFlush 1).1)

/-- What waited for the flush's end goes on: a pin or soft reset takes effect (R95), else standby's next step. A soft
reset begins its hold of 8 always-on cycles. -/
def State.afterFlush (s : State) : State :=
  let pin := s.aon.pinAfterFlush
  let soft := s.aon.softAfterFlush
  if pin || soft then
    let s := if pin then s.addCause 2 else s
    let s := if soft then s.addCause 3 else s
    let s := s.mainReset
    { s with aon := { s.aon with softHold := soft, standby := .none } }
  else if s.aon.standby = .flushing then s.standbyLink else s

/-- What a bound on time brings about: a reset that waits for a flush takes effect no later than 3 ms after it was asserted
(R95), and PWR_EN_MAIN falls no later than 3.2 ms after standby entry began (R86). -/
def State.timeDue (s : State) : State :=
  if (s.aon.pinAfterFlush || s.aon.softAfterFlush) && decide (s.aon.resetT + 3000000 ≤ s.sys.uptimeNs) then s.afterFlush
  else if (s.aon.standby == .flushing || s.aon.standby == .waitL2) && decide (s.aon.standbyT + 3200000 ≤ s.sys.uptimeNs) then
    s.sleep
  else s

/-- What the block does on an empty queue: one tick of PLL_T (R179, log entry 3), the IDLE flits of its Course links (R467), and
what falls due by it. -/
def State.idle (s : State) : State := (s.tick.idleFlits s.now).timeDue

/-- FLUSH_DONE (R501): every program up to COMMIT is done, the bus is released, and the recorder is SPENT. -/
def execFlushDone (s : State) : Result :=
  .next (if !s.evr.flushing then s else
    let n := s.evr.target
    let s := s.programAll s.evr.todo
    let s := s.setEvrSlot n { st := 4, seq := s.evr.flushSeq }
    let s : State := { s with evr := { s.evr with
      arm := .spent, flushing := false, todo := [], flushes := s.evr.flushes + 1, events := setBit s.evr.events 3 } }
    let us := (s.sys.uptimeNs - s.evr.flushT0) / 1000
    (s.logEv 0x0107 n (s.evr.flushSeq.toNat + us * 2 ^ 32)).afterFlush)

/-- FLASH_OP_ABANDON (R514): the program or erase under way is abandoned where it stands, and the recorder stays UNARMED. -/
def execFlashOpAbandon (s : State) : Result :=
  .next (if !s.evr.flushing && s.evr.arm != .erasing then s else
    let was := s.evr.flushing
    let s := s.cutFlush.cutErase
    let s : State := { s with evr := { s.evr with
      arm := .unarmed, flushing := false, todo := [], faulty := true, events := setBit s.evr.events 6 } }
    if was then s.afterFlush else s)

/-- RECORDER_REARM (R508): PWR_FAIL_N has been high for 10 ms, and after a flush the older slot becomes the target and is
armed or erased. -/
def execRecorderRearm (s : State) : Result :=
  .next (
    let s : State := { s with aon := { s.aon with pwrFailN := true } }
    if s.evr.arm ≠ .spent then s else
    ({ s with evr := { s.evr with target := 1 - s.evr.target } } : State).armTarget)

/-- SLOT_ERASE_DONE (R508): the erased slot is read again: ARMED, or UNARMED with SLOT_FAULT. -/
def execSlotEraseDone (blank : Bool) (s : State) : Result :=
  .next (if s.evr.arm ≠ .erasing then s else
    if blank then
      let n := s.evr.target
      let s := s.setEvrSlot n {}
      { s with evr := { s.evr with arm := .armed, flash := memClear 0xFF#8 s.evr.flash (slotBase n) 65536 } }
    else
      let s := s.cutErase
      { s with evr := { s.evr with arm := .unarmed, faulty := true, events := setBit s.evr.events 6 } })

/-- EVR_MARK_WRITE (R511): a HOST_MARK entry; the block takes writes through the P-view only. -/
def execEvrMarkWrite (path : Port) (value : Word) (s : State) : Result :=
  .next (if s.pview path then s.logEv 0x0702 (pathSource path) value.toNat else s)

end Sys2Proof.Machine
end

