-- ==== Sys2Proof/Machine/Spm.lean ====
section
/-!
DEFINITION. The scratchpad: persistent placement (R277), region handles and the checks of an access (R270 to R273), fret
states, the scrubber's queue, spill slots, and the allocator's decision (R278 to R285).
-/

namespace Sys2Proof.Machine

/-! ## Frets -/

/-- The fret f of a scratchpad. -/
def Spm.fret (p : Spm) (f : Nat) : Fret := tget {} p.frets f

/-- A fret replaced. -/
def Spm.setFret (p : Spm) (f : Nat) (x : Fret) : Spm := { p with frets := tput {} p.frets f x }

/-- A fret changed. -/
def Spm.modFret (p : Spm) (f : Nat) (g : Fret → Fret) : Spm := p.setFret f (g (p.fret f))

/-- A fret enters a state under an entry or a stream; only an access resets its age (R281). -/
def Spm.become (p : Spm) (f : Nat) (st : FretSt) (entry stream : Nat := 0) : Spm :=
  p.modFret f fun x => { x with st := st, entry := entry, stream := stream }

/-- The frets in a state, ascending. -/
def Spm.inState (p : Spm) (st : FretSt) : List Nat := (List.range 96).filter fun f => (p.fret f).st == st

/-- The number of frets in a state. -/
def Spm.count (p : Spm) (st : FretSt) : Nat := (p.inState st).length

/-- A granted entry of the region table. -/
def Spm.ent (p : Spm) (e : Nat) : RegEnt := tget {} p.ents e

/-- The bank of a fret (R264). -/
def bankOf (f : Nat) : Nat := f / 6

/-- The distance ring of a bank (R264). -/
def ringOfBank (b : Nat) : Nat := if b < 4 then 0 else if b < 8 then 1 else 2

/-- Frets become DIRTY together, in ascending number, and join the scrubber's queue (R285, R286). -/
def Spm.dirty (p : Spm) (fs : List Nat) : Spm :=
  let fs := (List.range 96).filter fun f => fs.contains f && (p.fret f).st != .dirty
  let p : Spm := fs.foldl (fun p f => p.become f .dirty) p
  { p with dirtyQ := p.dirtyQ ++ fs }

/-! ## Persistent placement -/

/-- A region put into a list in ascending region index. -/
def insRegion (x : RegionCfg) : List RegionCfg → List RegionCfg
  | [] => [x]
  | y :: l => if x.region < y.region then x :: y :: l else y :: insRegion x l

/-- Regions in ascending region index (R131: any index of 16 bits). -/
def sortRegions (l : List RegionCfg) : List RegionCfg := l.foldr insRegion []

/-- The regions of a plan on a tile, in ascending region index. -/
def PlanCfg.regionsOn (p : PlanCfg) (t : Nat) : List RegionCfg := sortRegions (p.regions.filter fun r => r.tile == t)

/-- R277: each region takes the highest frets not yet placed, listed ascending; a STATE region its CUR copy first and
then its NEXT copy. `top` is one above the highest fret left. -/
def placeFrom (top : Nat) : List RegionCfg → List (RegionCfg × List Nat × List Nat)
  | [] => []
  | r :: rs =>
    let a := (List.range r.frets).map fun i => top - r.frets + i
    if r.kind = 0 then
      let b := (List.range r.frets).map fun i => top - 2 * r.frets + i
      (r, a, b) :: placeFrom (top - 2 * r.frets) rs
    else (r, a, []) :: placeFrom (top - r.frets) rs

/-- The persistent frets of a plan on a tile. -/
def PlanCfg.placement (p : PlanCfg) (t : Nat) : List (RegionCfg × List Nat × List Nat) :=
  placeFrom 96 (p.regionsOn t)

/-- What a persistent placement wants a fret to be: STATE, or LANDING with its stream. -/
def wantOf (pl : List (RegionCfg × List Nat × List Nat)) (f : Nat) : Option Fret :=
  pl.findSome? fun x =>
    if x.2.1.contains f || x.2.2.contains f then
      some (if x.1.kind = 0 then { st := .state } else { st := .landing, stream := x.1.stream })
    else none

/-- Bits set in an absence mask. -/
def maskBits (m : Nat) : Nat := ((List.range 4).filter fun i => bitOf m i).length

/-- The plan instance that R393 chooses for the effective set, none where no accepted instance serves. -/
def State.choosePlan (s : State) : Option Nat :=
  let e := s.sch.eff.toNat
  let contains (x : Nat × PlanCfg) := (List.range 4).all fun i => !bitOf e i || bitOf x.2.absentMask i
  match s.img.plans.find? fun x => x.2.absentMask == e with
  | some x => some x.1
  | none =>
    match (s.img.plans.filter contains).foldl (fun m x => match m with
      | none => some x
      | some y => if maskBits x.2.absentMask < maskBits (y : Nat × PlanCfg).2.absentMask then some x else some y) none with
    | some x => some x.1
    | none => if e = 0 then some 0 else none

/-- The plan that the next release runs: the chosen one while a switch waits for the release (R393). -/
def State.nextPlan (s : State) : Nat := if s.prd.switched then (s.choosePlan).getD s.sch.plan else s.sch.plan

/-- The plan whose landing rings are in effect: a new plan's from the boundary on (R225). -/
def State.landPlan (s : State) : PlanCfg := tget {} s.img.plans s.nextPlan

/-- A FREE fret that the plan wants for a persistent region becomes it (R292). -/
def State.claimFret (s : State) (t f : Nat) : State :=
  if s.ready 12 && ((s.tile t).spm.fret f).st == .free then
    match wantOf ((tget {} s.img.plans s.nextPlan).placement t) f with
    | some x => s.modSpm t fun p => p.become f x.st 0 x.stream
    | none => s
  else s

/-- The scrubber finishes the fret at the head of its queue: it holds zero and becomes FREE, or goes to the persistent
region that waits for it (R286, R292). -/
def State.scrubOne (s : State) (t : Nat) : State :=
  match (s.tile t).spm.dirtyQ with
  | [] => s
  | f :: rest =>
    let s := s.modSpm t fun p =>
      { (p.become f .free) with
        dirtyQ := rest
        mem := p.mem.filter fun c => c.1 < 4096 * f || 4096 * f + 4096 ≤ c.1 }
    s.claimFret t f

/-- Every fret a tile's scrubber still holds, zeroed. -/
def State.scrubAll (s : State) (t : Nat) : State :=
  (List.range (s.tile t).spm.dirtyQ.length).foldl (fun s _ => s.scrubOne t) s

/-! ## Spill slots (R313) -/

/-- An activation spill slot given back. -/
def State.freeSlot (s : State) (k : Nat) : State :=
  { s with dram := { s.dram with slots := tput none s.dram.slots k none } }

/-- The lowest-numbered free slot. -/
def State.lowestSlot (s : State) : Option Nat :=
  (List.range s.dram.slotCount).find? fun k => tget none s.dram.slots k == none

/-- Slots in use: DRAM_SPILL_USED (R317). -/
def State.slotsUsed (s : State) : Nat := s.dram.slots.length

/-- Spilled places of a tile: SPM_STATUS2.SPILLED, at most 127 (R313). -/
def Spm.spilledPlaces (p : Spm) : Nat :=
  (p.ents.map fun e => (e.2.places.filter fun
    | .fret _ => false
    | _ => true).length).foldl (· + ·) 0

/-- A place's fret while it has one. -/
def Place.fretOf : Place → Option Nat
  | .fret f => some f
  | .restoring _ f => some f
  | .spilled _ => none

/-- A place's slot while it has one. -/
def Place.slotOf : Place → Option Nat
  | .fret _ => none
  | .restoring k _ => some k
  | .spilled k => some k

/-- The first place of a tile that waits for its content: (entry, index, slot, fret). -/
def Spm.restoring (p : Spm) : Option (Nat × Nat × Nat × Nat) :=
  let one (e k : Nat) : Place → Option (Nat × Nat × Nat × Nat)
    | .restoring slot f => some (e, k, slot, f)
    | _ => none
  p.ents.findSome? fun x => (List.range x.2.places.length).findSome? fun k => x.2.places[k]?.bind (one x.1 k)

/-- The places of a tile whose content a restore is bringing back (R276). -/
def Spm.restoringPlaces (p : Spm) : Nat :=
  (p.ents.map fun e => (e.2.places.filter fun
    | .restoring _ _ => true
    | _ => false).length).foldl (· + ·) 0

/-- The places and entries ended together: their frets become DIRTY once, their slots are freed, spills of them are
cancelled, and the entries stop being live (R285, R290). -/
def State.endEntries (s : State) (t : Nat) (es : List Nat) : State :=
  let p := (s.tile t).spm
  let places := (es.map fun e => (p.ent e).places).flatten
  let slots := places.filterMap Place.slotOf ++ (p.spilling.filter fun x => es.contains x.entry).map (·.slot)
  let s := s.modSpm t fun p =>
    let p := { p with spilling := p.spilling.filter fun x => !es.contains x.entry }
    let p := es.foldl (fun p e => { p with ents := tput {} p.ents e { (p.ent e) with live := false, places := [] } }) p
    p.dirty (places.filterMap Place.fretOf)
  slots.foldl State.freeSlot s

/-- The live entries an instance owns on a tile (R271). -/
def Spm.entsOf (p : Spm) (id : Nat) : List Nat :=
  (p.ents.filter fun e => e.2.live && e.2.inst == id).map fun e => e.1

/-- The spills begun for an instance's requests end with it (R293): the victims stay GRANTED, their slots are freed. -/
def State.dropSpills (s : State) (t id : Nat) : State :=
  let mine := (s.tile t).spm.spilling.filter fun x => x.req == id
  let s := s.modSpm t fun p =>
    mine.foldl (fun p x => p.modFret x.fret fun y => { y with st := .granted })
      { p with spilling := p.spilling.filter fun x => x.req != id }
  mine.foldl (fun s x => s.freeSlot x.slot) s

/-- Everything an instance holds in a tile's scratchpad ends: regions, waiting requests with the spills begun for them,
queued memory operations (R285, R291, R293). -/
def State.spmEndInst (s : State) (t id : Nat) : State :=
  let es := (s.tile t).spm.entsOf id
  let s := if es.isEmpty then s else s.endEntries t es
  let s := if ((s.tile t).spm.spilling.any fun x => x.req == id) then s.dropSpills t id else s
  s.modSpm t fun p => { p with reqs := p.reqs.filter (fun r => r.inst != id),
                               memQ := p.memQ.filter (fun m => m.inst != id) }

/-! ## Handles (R270 to R273) -/

/-- Why an access through a handle fails, or that it must wait for a restore (R271, R276). -/
inductive HErr where
  | handle | bound | wait
deriving DecidableEq, Repr

/-- The region a handle names for an instance: its places, or none where the handle fails R271 or R273. -/
def regionOf (s : State) (t : Nat) (i : Inst) (h : Half) (write : Bool) : Option (List Place) :=
  let e := bits h.toNat 6 0
  let g := bits h.toNat 15 7
  let p := (s.tile t).spm
  if e = 0 then none
  else if e ≤ 32 then
    if g ≠ 0 ∨ s.excluded t then none else
    match p.states[(e - 1) / 2]? with
    | none => none
    | some r =>
      if e % 2 = 1 then if write then none else some (r.cur.map .fret)
      else if i.job.job = r.writer then some (r.nxt.map .fret) else none
  else
    let x := p.ent e
    if x.live && x.gen == g && x.inst == i.id then some x.places else none

/-- Is this place reachable now: its fret GRANTED or STATE and not being copied out? -/
def placeReady (p : Spm) : Place → Option Nat
  | .fret f => if (p.fret f).st = .granted ∨ (p.fret f).st = .state then some f else none
  | _ => none

/-- The scratchpad address of byte o of a region, if its place is reachable (R264). -/
def regionAddr (p : Spm) (pl : List Place) (o : Nat) : Option Nat :=
  match pl[o / 4096]? with
  | none => none
  | some x => (placeReady p x).map fun f => 4096 * f + o % 4096

/-- The check of an access of n bytes at offset o (R271), with the addresses it reaches. -/
def access (s : State) (t : Nat) (i : Inst) (h : Half) (o n : Nat) (write : Bool) : Except HErr (List Nat) :=
  match regionOf s t i h write with
  | none => .error .handle
  | some pl =>
    if o + n > 4096 * pl.length then .error .bound
    else match (List.range n).mapM fun k => regionAddr (s.tile t).spm pl (o + k) with
      | none => .error .wait
      | some l => .ok l

/-- The failure's bit in SPM_EVENTS: BAD_HANDLE or BOUND (R271, R289). -/
def State.spmFail (s : State) (t : Nat) : HErr → State
  | .handle => s.modSpm t fun p => { p with events := setBit p.events 2 }
  | .bound => s.modSpm t fun p => { p with events := setBit p.events 3 }
  | .wait => s

/-- Frets touched through a handle have their age reset (R281). -/
def Spm.touch (p : Spm) (addrs : List Nat) : Spm :=
  ((List.range 96).filter fun f => addrs.any fun a => a / 4096 == f).foldl
    (fun p f => p.modFret f fun x => { x with age := 0 }) p

/-- Bytes read from scratchpad addresses. -/
def Spm.readAt (p : Spm) (addrs : List Nat) : List Byte := addrs.map fun a => tget 0#8 p.mem a

/-- Bytes written to scratchpad addresses. -/
def Spm.writeAt (p : Spm) (addrs : List Nat) (bs : List Byte) : Spm :=
  { p with mem := (addrs.zip bs).foldl (fun m x => tput 0#8 m x.1 x.2) p.mem }

/-! ## Bank conflicts (R266) -/

/-- The distinct 32-byte words of scratchpad addresses. -/
def wordsAt (addrs : List Nat) : List Nat := (addrs.map (· / 32)).eraseDups

/-- The words of a set that lie in a bank (R264: 128 words to a fret). -/
def bankLoad (ws : List Nat) (b : Nat) : Nat := (ws.filter fun w => bankOf (w / 128) == b).length

/-- Conflict counters after a set of accesses of one cycle (R266): a bank that holds n of its words leaves words unserved in
n - 1 cycles. -/
def addConflicts (m : FMap Word) (ws : List Nat) : FMap Word :=
  (List.range 16).foldl (fun m b =>
    if bankLoad ws b ≤ 1 then m else tput 0#32 m b (tget 0#32 m b + BitVec.ofNat 32 (bankLoad ws b - 1))) m

/-- The cycles a set of accesses takes beyond its first (R266). -/
def extraCycles (ws : List Nat) : Nat := (List.range 16).foldl (fun m b => max m (bankLoad ws b - 1)) 0

/-- A set of accesses of one cycle on the array port. -/
def Spm.conflictA (p : Spm) (ws : List Nat) : Spm := { p with confA := addConflicts p.confA ws }

/-- A set of accesses of one cycle on the core port. -/
def Spm.conflictC (p : Spm) (ws : List Nat) : Spm := { p with confC := addConflicts p.confC ws }

/-- A request put in order of class and then of arrival (R282), which notes whether others wait. -/
def Spm.addReq (p : Spm) (r : AllocReq) : Spm :=
  let r := { r with behind := !p.reqs.isEmpty }
  { p with reqs := p.reqs.filter (fun x => x.cls ≤ r.cls) ++ [r] ++ p.reqs.filter (fun x => r.cls < x.cls) }

/-- The spilled places an access touches ask the allocator for a fret each (R276). -/
def State.askRestore (s : State) (t : Nat) (i : Inst) (h : Half) (o n : Nat) : State :=
  let e := bits h.toNat 6 0
  if e ≤ 32 then s else
  let p := (s.tile t).spm
  let need := (List.range (p.ent e).places.length).filter fun k =>
    decide (4096 * k < o + n) && decide (o < 4096 * k + 4096) &&
    (match (p.ent e).places[k]? with
     | some (.spilled _) => !(p.reqs.any fun r => r.restore == some (e, k))
     | _ => false)
  need.foldl (fun s k => s.modSpm t fun p =>
    p.addReq { inst := i.id, cls := i.job.cls, n := 1, since := s.now, restore := some (e, k) }) s

/-! ## The allocator (R278 to R285) -/

/-- held(c): frets GRANTED or SPILLING held by jobs of class c (R280). -/
def heldOf (s : State) (t c : Nat) : Nat :=
  let p := (s.tile t).spm
  ((List.range 96).filter fun f =>
    let x := p.fret f
    (x.st == .granted || x.st == .spilling) &&
      (match s.inst (p.ent x.entry).inst with
       | some i => i.job.cls == c
       | none => false)).length

/-- RESERVE[c] (R128). -/
def State.reserve (s : State) (c : Nat) : Nat := s.img.reserve.getD c 0

/-- avail - protected(c), given the held counts per class and the number of FREE and DIRTY frets (R280). -/
def roomFor (reserve held : List Nat) (avail c : Nat) : Int :=
  (avail : Int) - ((List.range 4).foldl (fun acc k =>
    if k = c then acc else acc + (reserve.getD k 0 - held.getD k 0)) 0 : Nat)

/-- The frets in the order R279 takes them from the FREE ones. -/
def pickFrets (p : Spm) (n ring : Nat) (spread : Bool) : List Nat :=
  let rings := if ring = 1 then [1, 0, 2] else if ring = 2 then [2, 1, 0] else [0, 1, 2]
  let inRing (r : Nat) := (p.inState .free).filter fun f => ringOfBank (bankOf f) == r
  if spread then
    let banks := (rings.map fun r => (List.range 16).filter fun b => ringOfBank b == r).flatten
    let free (b : Nat) := (p.inState .free).filter fun f => bankOf f == b
    -- round r of the cycle takes each bank's r-th free fret
    (((List.range 6).map fun k => banks.filterMap fun b => (free b)[k]?).flatten).take n
  else ((rings.map inRing).flatten).take n

/-- Handles named by queued or running passes and memory operations: their regions' frets are pinned (R281). The handles
stand at the descriptor offsets of R233 and R352. -/
def pinnedHandles (x : Tile) : List Nat :=
  ((x.arr.queue ++ x.arr.running).map fun q =>
    [field q.bytes 0x18 2, field q.bytes 0x1A 2, field q.bytes 0x1C 2, field q.bytes 0x1E 2]).flatten
  ++ (x.spm.memQ.map fun m => [field m.bytes 4 2, field m.bytes 6 2]).flatten

/-- Is the granted entry e pinned? -/
def pinned (x : Tile) (e : Nat) : Bool := (pinnedHandles x).contains (e + 128 * (x.spm.ent e).gen)

/-- Is the fret pinned (R281): does a queued or running pass or memory operation name its region, a granted one or a copy of a
STATE region (R273)? -/
def fretPinned (x : Tile) (f : Nat) : Bool :=
  let r := x.spm.fret f
  let copy (k : Nat) (g : StateReg) : Bool :=
    (g.cur.contains f && (pinnedHandles x).contains (1 + 2 * k)) ||
      (g.nxt.contains f && (pinnedHandles x).contains (2 + 2 * k))
  if r.st == .granted || r.st == .spilling then pinned x r.entry
  else r.st == .state && (List.range x.spm.states.length).any fun k => match x.spm.states[k]? with
    | some g => copy k g
    | none => false

/-- Victim candidates, coldest first and then lowest fret (R281): not a fret whose content a restore has yet to bring. -/
def victimOrder (s : State) (t id c : Nat) : List Nat :=
  let x := s.tile t
  let ok := (x.spm.inState .granted).filter fun f =>
    let e := (x.spm.fret f).entry
    !pinned x e && (x.spm.ent e).places.contains (.fret f) && (x.spm.ent e).inst != id &&
      (match s.inst (x.spm.ent e).inst with
       | some i => decide (c ≤ i.job.cls)
       | none => false)
  ((List.range 256).map fun k => ok.filter fun f => (x.spm.fret f).age == 255 - k).flatten

/-- Exactly enough victims for n frets, from a list of candidates with their classes; none if they do not suffice. -/
def chooseVictims (reserve : List Nat) (n c : Nat) : List Nat → Nat → List (Nat × Nat) → Option (List Nat)
  | held, avail, [] => if (n : Int) ≤ roomFor reserve held avail c then some [] else none
  | held, avail, (f, k) :: rest =>
    if (n : Int) ≤ roomFor reserve held avail c then some []
    else (chooseVictims reserve n c (held.set k (held.getD k 0 - 1)) (avail + 1) rest).map (f :: ·)

/-- Victims go SPILLING for an instance's request, each with the lowest free slot (R281, R293, R313). -/
def State.startSpills (s : State) (t id : Nat) (fs : List Nat) : State :=
  fs.foldl (fun s f =>
    match s.lowestSlot with
    | none => s
    | some k =>
      let s := s.modSpm t fun p =>
        { (p.modFret f fun x => { x with st := .spilling }) with
          spilling := p.spilling ++ [{ fret := f, entry := (p.fret f).entry, slot := k, req := id }]
          events := setBit p.events 5 }
      let slots := tput none s.dram.slots k (some { crc := 0#32, tile := t })
      { s with dram := { s.dram with slots := slots, spillPeak := maxW s.dram.spillPeak slots.length } }) s

/-- What the allocator answers a request: keep it waiting, refuse it with a code, or grant it. -/
inductive AllocAns where
  | keep | victims (fs : List Nat) | noSlot | refuse (code : Nat) | grant
deriving DecidableEq, Repr

/-- The decision on one request (R280 to R284). An excluded tile refuses every request (R294), and a WAIT 0 request that
arrived behind another is refused without being examined (R282). -/
def allocDecide (s : State) (t : Nat) (r : AllocReq) (claim : Nat) : AllocAns :=
  let p := (s.tile t).spm
  let held := (List.range 4).map (heldOf s t)
  let reserve := (List.range 4).map s.reserve
  let inReserve := decide (held.getD r.cls 0 + r.n ≤ reserve.getD r.cls 0)
  let isRestore := r.restore.isSome
  let avail := p.count .free + p.count .dirty
  let own := (p.entsOf r.inst).foldl (fun n e => n + (p.ent e).places.length) 0
  if !isRestore && (s.excluded t || p.diag) then .refuse 0x05
  else if !isRestore && !r.waits && r.behind && !inReserve then .refuse 0x04
  else if !isRestore && (r.n == 0 || decide (64 < r.n)) then .refuse 0x01
  else if !isRestore && decide (own + r.n > claim) then .refuse 0x02
  else if !isRestore && decide ((p.ents.filter fun e => e.2.live).length ≥ 95) then .refuse 0x03
  else if (r.n : Int) ≤ roomFor reserve held avail r.cls then
    if r.n ≤ p.count .free then .grant
    else if r.waits || inReserve then .keep else .refuse 0x04
  else if !(r.waits || inReserve) then .refuse 0x04
  else
    -- frets already SPILLING will pass to DIRTY: count them as available before more victims are chosen
    let sp := p.spilling.length
    let heldAfter := (List.range 4).map fun c => held.getD c 0 - (p.spilling.filter fun x =>
      match s.inst (p.ent x.entry).inst with
      | some i => i.job.cls == c
      | none => false).length
    let all := (victimOrder s t r.inst r.cls).filterMap fun f =>
      (s.inst (p.ent (p.fret f).entry).inst).map fun i => (f, i.job.cls)
    -- within its reserve, a request takes them from the classes above theirs (R284)
    let cand := if inReserve && !isRestore then all.filter fun x => decide (reserve.getD x.2 0 < held.getD x.2 0) else all
    match chooseVictims reserve r.n r.cls heldAfter (avail + sp) cand with
    | none => .keep
    | some [] => .keep
    | some vs =>
      if decide (s.slotsUsed + vs.length ≤ s.dram.slotCount) && decide (p.spilledPlaces + sp + vs.length ≤ 127)
      then .victims vs else .noSlot

/-- The answer given to the core that waits for it: the handle, or bit 31 and the code (R353). -/
def State.answerAlloc (s : State) (t : Nat) (v : Word) : State :=
  s.modTc t fun c =>
    match c.allocRd with
    | none => c
    | some rd =>
      { c with s := if rd = 0 then c.s else c.s.set rd v, allocRd := none, stall := 0,
               pc := c.pc + 4, retired := c.retired + 1, cyc := c.cyc + 1 }

/-- Mesh cycles in a time of ns (R12: 1.2 GHz). -/
def meshCycles (ns : Nat) : Nat := ns * 6 / 5

/-- The request granted leaves the queue, its wait recorded in SPM_WAIT_MAX (R289). -/
def State.dropReq (s : State) (t : Nat) (r : AllocReq) : State :=
  s.modSpm t fun p => { p with reqs := p.reqs.erase r, waitMax := maxW p.waitMax (meshCycles (s.now - r.since)) }

/-- A grant (R270, R279): the lowest entry that is not live takes the frets with its GEN advanced; a restore takes one
fret for its spilled place. -/
def State.grantReq (s : State) (t : Nat) (r : AllocReq) : State :=
  let p := (s.tile t).spm
  let fs := pickFrets p r.n r.ring r.spread
  let s := s.dropReq t r
  match r.restore with
  | some (e, k) =>
    match fs, (p.ent e).places[k]? with
    | f :: _, some (.spilled slot) =>
      s.modSpm t fun p =>
        { (p.become f .granted e) with
          ents := tput {} p.ents e { (p.ent e) with places := (p.ent e).places.set k (.restoring slot f) } }
    | _, _ => s
  | none =>
    match (List.range 128).find? fun e => decide (33 ≤ e) && !(p.ent e).live with
    | none => s
    | some e =>
      let g := (p.ent e).gen % 511 + 1
      let s := s.modSpm t fun p =>
        let p : Spm := fs.foldl (fun p f => p.become f .granted e) p
        { p with ents := tput {} p.ents e { live := true, gen := g, inst := r.inst, places := fs.map .fret },
                 grants := p.grants + 1 }
      s.answerAlloc t (BitVec.ofNat 32 (e + 128 * g))

/-- One decision of the tile's allocator: a request within its class reserve is examined even while others wait (R284), one
that is refused without examination is refused (R282, R294), and of the others only the head of the queue is looked at. A
refused request changes only SPM_REFUSALS and REFUSED (R283). -/
def State.allocOne (s : State) (t : Nat) : State :=
  let p := (s.tile t).spm
  let urgent (r : AllocReq) := r.restore.isNone &&
    (s.excluded t || p.diag || (!r.waits && r.behind) || decide (heldOf s t r.cls + r.n ≤ s.reserve r.cls))
  match (p.reqs.find? urgent).or p.reqs.head? with
  | none => s
  | some r =>
    match s.inst r.inst with
    | none => s.modSpm t fun p => { p with reqs := p.reqs.erase r }
    | some i =>
      match allocDecide s t r i.job.frets with
      | .keep => s
      | .victims fs => s.startSpills t r.inst fs
      | .noSlot => { s with dram := { s.dram with events := setBit s.dram.events 4 } }
      | .refuse c =>
        let s := s.modSpm t fun p => { p with
          reqs := p.reqs.erase r, refusals := p.refusals + 1, events := setBit p.events 4 }
        s.answerAlloc t (BitVec.ofNat 32 (0x80000000 + c))
      | .grant => s.grantReq t r

end Sys2Proof.Machine
end

