-- ==== Sys2Proof/Machine/Pager.lean ====
section
/-!
DEFINITION. The pager's bookkeeping (R301 to R311): who subscribes, which page becomes eligible, merging and issue of
fetches, and the release of pages.
-/

namespace Sys2Proof.Machine

/-! ## Slots (R302) -/

/-- Slots a tile's current (or next) subscription holds. -/
def Bow.holds (b : Bow) (next : Bool) : Nat := (b.slots.filter fun p => !p.ended && p.next == next).length

/-- The current or the next subscription of a tile. -/
def Bow.sub (b : Bow) (next : Bool) : Option BowSub := if next then b.nxt else b.cur

/-- The current or the next subscription of a tile replaced. -/
def Bow.setSub (b : Bow) (next : Bool) (c : BowSub) : Bow := if next then { b with nxt := some c } else { b with cur := some c }

/-- Is this subscription of a tile one of an instance to a layer? -/
def Bow.subTo (b : Bow) (inst layer : Nat) (next : Bool) : Bool :=
  match b.sub next with
  | some c => c.inst == inst && c.layer == layer
  | none => false

/-- The live subscriptions of an instance to a layer, each by its tile and whether it is that tile's next one: a tile may hold
two (R301). -/
def State.subsTo (s : State) (i : Inst) (layer : Nat) : List (Nat × Bool) :=
  (i.tiles.map fun t => ([false, true].filter ((s.tile t).bow.subTo i.id layer)).map fun n => (t, n)).flatten

/-- A layer of a network. -/
def NetCfg.layer (n : NetCfg) (k : Nat) : LayerCfg := n.layers.getD k {}

/-- Has the current subscription of a tile a page waiting for a slot (R302): its subscribers are complete and pages
remain? -/
def State.curWaits (s : State) (t : Nat) : Bool :=
  match (s.tile t).bow.cur with
  | none => false
  | some c =>
    match s.inst c.inst with
    | none => false
    | some i =>
      let l := (s.net c.net).layer c.layer
      decide (c.elig < l.pageCount) && (s.subsTo i c.layer).length == l.tiles

/-- Can the tile give this subscription a slot now (R302)? `both` tells that its other subscription is given one with it. -/
def State.canGive (s : State) (t : Nat) (next both : Bool) : Bool :=
  let b := (s.tile t).bow
  decide (b.slots.length + b2n both < 4) && decide (b.holds next < 3) &&
    (!next || both || decide (3 ≤ b.holds false) || !s.curWaits t)

/-! ## Fetches (R305, R306) -/

/-- Demand requests of a tile at the pager: spill writes, and of its reads and restores at most 8, the others waiting in the
tile's own queue (R309, R310). -/
def State.tileDemand (s : State) (t : Nat) (p : Spm) : Nat :=
  p.spilling.length + min 8 ((s.dram.reads.filter fun r => r.tile == t).length + p.restoringPlaces)

/-- Demand requests waiting at the pager: DRAM_QUEUE (R309, R317). -/
def State.demandWaiting (s : State) : Nat :=
  s.dram.queue.length + (s.tiles.map fun x => s.tileDemand x.1 x.2.spm).foldl (· + ·) 0

/-- DRAM_QUEUE_PEAK held. -/
def State.notePeak (s : State) : State :=
  { s with dram := { s.dram with queuePeak := maxW s.dram.queuePeak s.demandWaiting } }

/-- JOINED links in a linked period over which a network is shared with this chip as the follower (R486): the lead with
the lowest position. -/
def State.leadLink (s : State) (net : Nat) : Option Nat :=
  let ok := (List.range s.grade.links).filter fun k =>
    (s.linkCfg k).mode == 2 && (s.link k).linked && (tget {} (s.link k).ownShare net).set &&
      tget {} (s.link k).ownShare net == tget {} (s.link k).peerShare net && decide ((s.linkCfg k).peerPos < modPos s)
  match ok with
  | [] => none
  | a :: l => some (l.foldl (fun a b => if (s.linkCfg b).peerPos < (s.linkCfg a).peerPos then b else a) a)

/-- An earlier fetch of the page still queued takes the subscribers; else an entry prefetched for the job takes them;
else a fetch is queued (R305 to R307). -/
def State.addFetch (s : State) (f : Fetch) (job : Option Nat) : State :=
  let same (q : Fetch) := q.net == f.net && q.page == f.page
  let early (e : Staged) := e.net == f.net && e.page == f.page && e.pre == job && e.subs.isEmpty
  let join (q : Fetch) :=
    if same q then
      { q with subs := q.subs ++ f.subs, key := min q.key f.key, fromPeer := q.fromPeer.or f.fromPeer }
    else q
  let take (e : Staged) := if early e then { e with subs := f.subs, key := f.key, pre := none } else e
  if s.dram.queue.any same then { s with dram := { s.dram with queue := s.dram.queue.map join } }
  else if job.isSome && s.dram.staging.any early then
    { s with dram := { s.dram with staging := s.dram.staging.map take } }
  else
    let s : State := { s with dram := { s.dram with queue := s.dram.queue ++ [f] } }
    s.notePeak

/-- A subscription given a slot for page j of its layer (R302, R305): a page whose blocks it has retired comes marked (R304),
and its wait for the slot ends (R318). -/
def Bow.reserve (b : Bow) (l : LayerCfg) (j now : Nat) (next : Bool) : Bow :=
  match b.sub next with
  | none => b
  | some c =>
    let p : BowPage := { next := next, page := l.firstPage + j, marked := decide (min ((j + 1) * l.bpp) l.total ≤ c.retired) }
    let w := match c.waitFrom with
      | some t => (now - t) * 6 / 5
      | none => 0
    { (b.setSub next { c with elig := j + 1, waitFrom := none }) with
      slots := b.slots ++ [p], slotWaitMax := maxW b.slotWaitMax w }

/-- Page j of an instance's layer made eligible: slots reserved for its subscriptions, the fetch queued (R305). -/
def State.makeEligible (s : State) (i : Inst) (layer j : Nat) (rs : List (Nat × Bool)) : State :=
  let l := (s.net i.job.net).layer layer
  let now := s.now
  let s : State := rs.foldl (fun s r => s.modBow r.1 fun b => b.reserve l j now r.2) s
  s.addFetch { net := i.job.net, page := l.firstPage + j, key := i.deadline,
               subs := rs.map fun r => { tile := r.1, inst := i.id, layer := layer } } (some i.job.job)

/-- The wait of a subscription for a slot: it begins when that slot is all that its page waits for (R318). -/
def State.noteSlotWait (s : State) (r : Nat × Bool) (only : Bool) : State :=
  let now := s.now
  s.modBow r.1 fun b => match b.sub r.2 with
    | none => b
    | some c => b.setSub r.2 { c with waitFrom := if only then some (c.waitFrom.getD now) else none }

/-- Pages of one layer made eligible while R305 holds, at most `n` of them. A page goes to the subscriptions that have
had the fewest pages. -/
def State.scanLayer (s : State) (i : Inst) (layer : Nat) : Nat → State
  | 0 => s
  | n + 1 =>
    let l := (s.net i.job.net).layer layer
    let rs := s.subsTo i layer
    let had (r : Nat × Bool) := match (s.tile r.1).bow.sub r.2 with
      | some c => c.elig
      | none => 0
    let j := rs.foldl (fun m r => min m (had r)) l.pageCount
    let route := rs.filter fun r => had r == j
    let give (r : Nat × Bool) := s.canGive r.1 r.2 (route.contains (r.1, !r.2))
    if rs.length == l.tiles && decide (j < l.pageCount) then
      let short := (route.filter fun r => !give r).map (·.1)
      if short.isEmpty then (s.makeEligible i layer j route).scanLayer i layer n
      else route.foldl (fun s r => s.noteSlotWait r (short.all fun t => t == r.1)) s
    else s

/-- The layers an instance subscribes to, on any of its tiles, ascending. -/
def State.subLayers (s : State) (i : Inst) : List Nat :=
  let ls := (i.tiles.map fun t =>
    ((s.tile t).bow.cur.toList ++ (s.tile t).bow.nxt.toList).filterMap fun c =>
      if c.inst = i.id then some c.layer else none).flatten
  (List.range (s.net i.job.net).layers.length).filter ls.contains

/-- Eligibility of R305 examined for every instance. -/
def State.pagerScan (s : State) : State :=
  s.sch.insts.foldl (fun s i => (s.subLayers i).foldl (fun s l => s.scanLayer i l 16) s) s

/-- The class a fetch serves: the lowest among its jobs (R309). -/
def fetchClass (s : State) (f : Fetch) : Nat :=
  f.subs.foldl (fun m r => match s.inst r.inst with
    | some i => min m i.job.cls
    | none => m) 4

/-- Is fetch a served before b: earlier deadline, then class (R309)? -/
def fetchBefore (s : State) (a b : Fetch) : Bool :=
  decide (a.key < b.key) || (a.key == b.key && decide (fetchClass s a < fetchClass s b))

/-- The next fetch in the order of R309; arrival breaks ties. -/
def nextFetch (s : State) : List Fetch → Option Fetch
  | [] => none
  | f :: l => match nextFetch s l with
    | none => some f
    | some g => if fetchBefore s g f then some g else some f

/-- One queued fetch issued into a free staging entry and counted (R305, R306). -/
def State.issueFetch (s : State) : State :=
  if !s.dram.trained || decide (16 ≤ s.dram.staging.length) then s else
  match nextFetch s s.dram.queue with
  | none => s
  | some f =>
    let again := s.dram.fetched.contains (f.net, f.page)
    let lead := if f.fromPeer.isNone then s.leadLink f.net else none
    let remote := lead.isSome
    let s := match lead with
      | some k => s.sendFlit k 7 (leBytes 1 f.net ++ [0#8] ++ leBytes 4 f.page ++ leBytes 8 f.key)
      | none => s
    { s with dram := { s.dram with
        queue := s.dram.queue.erase f
        staging := s.dram.staging ++ [{ net := f.net, page := f.page, subs := f.subs, remote := remote,
                                        fromPeer := f.fromPeer, key := f.key }]
        fetches := s.dram.fetches + 1
        refetches := if again then s.dram.refetches + 1 else s.dram.refetches
        events := if again then setBit s.dram.events 5 else s.dram.events
        fetched := if again then s.dram.fetched else s.dram.fetched ++ [(f.net, f.page)] } }

/-- The pager runs: what is eligible is queued and what can be issued is issued. -/
def State.pagerRun (s : State) : State :=
  let s := s.pagerScan
  (List.range s.dram.queue.length).foldl (fun s _ => s.issueFetch) s

/-! ## Releasing pages (R304) -/

/-- Blocks a queued pass names: BLOCK_FIRST and the number of its steps (R236, R247, R250, R252), from the descriptor of
R233. -/
def passBlocks (d : List Byte) : Nat × Nat :=
  let form := field d 0 1
  let kh := field d 4 1
  let kw := field d 5 1
  let g := field d 0x0A 2
  (field d 0x14 4,
   if form = 0 then kh * kw * g else if form = 1 then 16 * g
   else if form = 2 then (if field d 1 1 = 1 then field d 0x0E 2 * g else 0) else kh * kw)

/-- Does a pass bound to a layer name a block of an archive page? -/
def passNames (n : NetCfg) (page : Nat) (q : PassReq) : Bool :=
  match q.layer with
  | none => false
  | some k =>
    let l := n.layer k
    let (f, c) := passBlocks q.bytes
    decide (l.firstPage ≤ page) && decide (f < (page - l.firstPage + 1) * l.bpp) &&
      decide ((page - l.firstPage) * l.bpp < f + c)

/-- The first block of a running pass that is not in the window, and so not loaded; past its last one where all are there
(R240, R304). -/
def firstMissing (n : NetCfg) (b : Bow) (q : PassReq) : Nat :=
  match q.layer with
  | none => 0
  | some k =>
    let l := n.layer k
    let (f, c) := passBlocks q.bytes
    let there (x : Nat) : Bool :=
      let page := l.firstPage + x / l.bpp
      (q.loaded.any fun y => y.1 == page) || b.slots.any fun p => p.page == page && p.usable
    f + ((List.range c).find? fun k => !there (f + k)).getD c

/-- Does a running pass name a block of the page that it has not loaded (R304): one behind a block that it waits for? -/
def runPins (n : NetCfg) (b : Bow) (page : Nat) (q : PassReq) : Bool :=
  passNames n page q && match q.layer with
    | none => false
    | some k =>
      let l := n.layer k
      let (f, c) := passBlocks q.bytes
      let m := firstMissing n b q
      decide (m < f + c) && decide (m < (page - l.firstPage + 1) * l.bpp)

/-- Is a page pinned by a queued or running descriptor of the tile (R304)? -/
def pagePinned (s : State) (t page : Nat) : Bool :=
  let x := s.tile t
  let by_ (f : NetCfg → PassReq → Bool) (q : PassReq) : Bool := match s.inst q.inst with
    | some i => f (s.net i.job.net) q
    | none => false
  x.arr.queue.any (by_ fun n q => passNames n page q) || x.arr.running.any (by_ fun n q => runPins n x.bow page q)

end Sys2Proof.Machine
end

