-- ==== Sys2Proof/Machine/Ring.lean ====
section
/-!
DEFINITION. The ring engine's operations (R409 to R427): posted writes, the mirror area, records, pages, pending records
and voiding.
-/

namespace Sys2Proof.Machine

/-! ## Posted writes (R402, R426) -/

/-- Are posted writes accepted: link in L0, Bus Master Enable, D0 and flow-control credit (R402, R426)? -/
def State.hostOpen (s : State) : Bool :=
  s.pcie.l0 && s.pcie.command.getLsbD 2 && s.pcie.dstate == 0 && s.pcie.credit

/-- The Max_Payload_Size the host has configured, in bytes (R400, R402): Device Control bits 7:5. -/
def State.maxPayload (s : State) : Nat := 128 * 2 ^ bits s.pcie.devCtl.toNat 7 5

/-- A write cut into pieces of at most `m` bytes none of which crosses a 4 KiB boundary (R402). -/
def splitWrite (m : Nat) : Nat → Nat → List Byte → List Posted
  | 0, _, _ => []
  | n + 1, a, bs =>
    if bs.isEmpty then []
    else
      let k := min m (4096 - a % 4096)
      .write a (bs.take k) :: splitWrite m n (a + k) (bs.drop k)

/-- An entry of the queue handed to the host: a write lands in its memory, a completion answers its read. -/
def State.handOver (s : State) : Posted → State
  | .write a bs => { s with ring := { s.ring with hostMem := memWrite 0#8 s.ring.hostMem a bs } }
  | .completion data status => { s with out := { s.out with data := data, status := status } }

/-- A posted write to host memory: performed at once where writes flow and none waits, else queued in order, in the pieces of
R402. A mirror write that meets a full queue before a stall has begun is queued behind the others, past the 64 entries of R91:
the spec abandons one only during the stall (R70; DESIGN CHOICE, log entry 53). -/
def State.post (s : State) (a : Nat) (bs : List Byte) : State :=
  if s.hostOpen && s.ring.posted.isEmpty then
    { s with ring := { s.ring with hostMem := memWrite 0#8 s.ring.hostMem a bs } }
  else { s with ring := { s.ring with posted := s.ring.posted ++ splitWrite s.maxPayload bs.length a bs } }

/-- The queued writes go out in order (R426), and with them the completions that waited behind them (R403). -/
def State.drainPosted (s : State) : State :=
  s.ring.posted.foldl State.handOver { s with ring := { s.ring with posted := [] } }

/-! ## The mirror area (R411, R412) -/

/-- RING_MIRROR.ENABLE. -/
def State.mirrorOn (s : State) : Bool := s.ring.mirrorLo.getLsbD 0

/-- Address of the mirror area. -/
def State.mirrorAddr (s : State) : Nat := s.ring.mirrorHi.toNat * 2 ^ 32 + s.ring.mirrorLo.toNat / 4096 * 4096

/-- A write into the mirror area: nothing while ENABLE is 0; skipped, with MIRROR_ABANDONED, in a write stall (R427). -/
def State.mirrorWrite (s : State) (off : Nat) (bs : List Byte) : State :=
  if !s.mirrorOn then s
  else if s.ring.writeStall then { s with ring := { s.ring with gevents := setBit s.ring.gevents 1 } }
  else s.post (s.mirrorAddr + off) bs

/-- The 8 bytes of a ring's mirror entry (R411). -/
def mirrorEntry (r : Ring) : List Byte :=
  leBytes 4 r.prod.toNat ++ leBytes 4 (b2n r.run + 2 * b2n r.stalled + 4 * b2n r.summary
    + (r.drops + r.abandons).toNat % 65536 * 65536)

/-- A ring's mirror entry written (R412). -/
def State.mirrorRing (s : State) (k : Nat) : State := s.mirrorWrite (0x400 + 8 * k) (mirrorEntry (s.ringOf k))

/-- The latest pennant written to the mirror. -/
def State.mirrorPennant (s : State) : State := s.mirrorWrite 0 (wordsBytes s.pen.cur)

/-- A full rewrite (R412): RESYNC increments, then the pennant, RESYNC and every enabled ring's entry. -/
def State.fullRewrite (s : State) : State :=
  let s := { s with ring := { s.ring with resyncs := s.ring.resyncs + 1, gevents := setBit s.ring.gevents 2 } }
  let s := if s.prd.count.toNat = 0 && s.pen.cur.getD 31 0#32 = 0#32 then s else s.mirrorPennant
  let s := s.mirrorWrite 0x080 (leBytes 4 s.ring.resyncs.toNat)
  ((List.range 256).filter s.ringEnabled).foldl State.mirrorRing s

/-! ## Records (R420, R421) -/

/-- S, the bytes a record occupies (R416). -/
def recSize (len : Nat) : Nat := 64 + 32 * ((len + 31) / 32) + 32

/-- The 64-byte header (R420) of a record taken at `t`. -/
def recHeader (s : State) (q : RecReq) (index t : Nat) : List Byte :=
  let suspect := s.crs.fence ≠ 0#2
  let flags := b2n q.final + 4 * b2n suspect + 8 * b2n (s.sch.plan != 0) + 16 * b2n (s.tb.state == .holdover)
  leBytes 1 0xD2 ++ leBytes 1 q.status ++ leBytes 2 q.stream ++ leBytes 1 q.net ++ leBytes 1 q.cls ++ leBytes 2 q.job
    ++ leBytes 4 q.frame.toNat ++ leBytes 4 q.period.toNat ++ leBytes 8 q.tInput ++ leBytes 8 t
    ++ leBytes 4 q.payload.length ++ leBytes 4 q.detail.toNat ++ leBytes 2 q.missing ++ leBytes 1 q.ring
    ++ leBytes 1 flags ++ leBytes 2 s.plan.planId.toNat ++ leBytes 2 index ++ leBytes 2 q.tile ++ List.replicate 14 0#8

/-- The first 28 bytes of the trailer (R421). -/
def recTrailer28 (q : RecReq) : List Byte :=
  leBytes 2 q.stream ++ leBytes 1 q.status ++ leBytes 1 q.net ++ leBytes 4 q.frame.toNat ++ leBytes 8 q.tInput
    ++ leBytes 4 q.payload.length ++ leBytes 4 q.period.toNat ++ leBytes 2 q.job ++ [0#8, 0#8]

/-- CHECK of the trailer: CRC-32C over the payload, then trailer bytes 0x00 to 0x1B (R421). -/
def recCheck (q : RecReq) : Word := crc32c (q.payload ++ recTrailer28 q)

/-- A whole record, its payload padded to 32 bytes (R416). -/
def recBytes (s : State) (q : RecReq) (index t : Nat) : List Byte :=
  let n := q.payload.length
  recHeader s q index t ++ q.payload ++ List.replicate ((n + 31) / 32 * 32 - n) 0#8
    ++ recTrailer28 q ++ leBytes 4 (recCheck q).toNat

/-! ## Pages (R414 to R417) -/

/-- Host address of page number q of a ring (R414). -/
def pageAddr (s : State) (k q : Nat) : Nat := (s.ringOf k).base.toNat + 4096 * (q % 2 ^ s.ringLog2 k)

/-- The 64-byte page head (R415). -/
def pageHead (k : Nat) (p : RingPage) : List Byte :=
  let h := leBytes 1 0xD6 ++ leBytes 1 k ++ [p.flags] ++ [0#8] ++ leBytes 4 p.num ++ leBytes 2 p.records ++ leBytes 2 p.used
    ++ leBytes 2 p.first ++ [0#8, 0#8] ++ leBytes 4 p.period.toNat ++ List.replicate 4 0#8 ++ leBytes 8 p.tClose.toNat
    ++ List.replicate 28 0#8
  h ++ leBytes 4 (crc32c h).toNat

/-- The open page closes (R417): PERIOD and T_CLOSE are fixed. -/
def State.closePage (s : State) (k : Nat) (capo : Bool) : State :=
  match (s.ringOf k).openP with
  | none => s
  | some p =>
    let p := { p with period := s.prd.count, tClose := BitVec.ofNat 64 s.now,
                      flags := if capo then setBit p.flags 2 else p.flags }
    s.modRing k fun r => { r with openP := none, closed := r.closed ++ [p] }

/-- Closed pages at the head of the ring that publish together: up to the first that is not the first half of a spanning
record. -/
def pageGroup : List RingPage → List RingPage
  | [] => []
  | p :: ps => if p.spanNext then p :: pageGroup ps else [p]

/-- May the head group of closed pages be published: none pending, and the record complete (R417, R419)? -/
def Ring.publishable (r : Ring) : Bool :=
  match pageGroup r.closed with
  | [] => false
  | g => g.all (fun p => p.pend.isEmpty) && (match g.getLast? with
      | some p => !p.spanNext
      | none => false)

/-- The page of a summary record (R415, R425). -/
def RingPage.isSummary (p : RingPage) : Bool := p.flags.getLsbD 3

/-- Publish the head group of closed pages: heads, PROD, mirror entry, in that order (R410, R417). Once the page of its summary
is published the ring is STALLED no more (R425), which its mirror entry shows. -/
def State.publish (s : State) (k : Nat) : State :=
  if (s.ringOf k).publishable then
    let g := pageGroup (s.ringOf k).closed
    let s := g.foldl (fun s p => s.post (pageAddr s k p.num) (pageHead k p)) s
    let s := s.modRing k fun r => { r with prod := r.prod + BitVec.ofNat 32 g.length, closed := r.closed.drop g.length }
    let s := s.mirrorRing k
    if g.any RingPage.isSummary then (s.modRing k fun r => { r with stalled := false, summary := false }).mirrorRing k else s
  else s

/-- Publish every page of a ring that may be. -/
def State.publishAll (s : State) (k : Nat) : State :=
  (List.range (s.ringOf k).closed.length).foldl (fun s _ => s.publish k) s

/-- One page's pending records of an instance stop being pending. -/
def unpend (id : Nat) (p : RingPage) : RingPage := { p with pend := p.pend.filter fun x => x.1 != id }

/-- VOID set in the headers of an instance's records of a page (R419). -/
def voidBody (id : Nat) (p : RingPage) : RingPage :=
  let body := (p.pend.filter fun x => x.1 == id).foldl
    (fun b x => b.set (x.2 + 0x2B) (setBit (b.getD (x.2 + 0x2B) 0#8) 1)) p.body
  { p with body := body }

/-- The rewritten headers of an instance's voided records, posted (R419). -/
def State.voidWrites (s : State) (k id : Nat) (p : RingPage) : State :=
  (p.pend.filter fun x => x.1 == id).foldl
    (fun s x => s.post (pageAddr s k p.num + 0x40 + x.2) (slice (voidBody id p).body x.2 64)) s

/-- Does the open page hold anything of a record, were it the tail of one (R417)? -/
def Ring.openHolds (r : Ring) : Bool :=
  match r.openP with
  | some p => decide (0 < p.used)
  | none => false

/-- The pages of a ring that are open or closed and unpublished. -/
def Ring.pages (r : Ring) : List RingPage := r.closed ++ r.openP.toList

/-- A record in transfer abandoned: nothing of it counts in USED, and the fresh pages it opened are released (R419). -/
def Ring.abandonXfer (r : Ring) : Ring :=
  match r.xfer with
  | none => r
  | some x => { r with xfer := none, next := r.next - BitVec.ofNat 32 x.fresh }

/-- Is unit u of a tile held by the ring engine for a record still in transfer (R363)? -/
def State.ringHolds (s : State) (t u : Nat) : Bool := s.ring.rings.any fun k => match k.2.xfer with
  | some x => !x.item.own && x.item.unitTaken && x.item.tile == t && x.item.unit == u
  | none => false

/-- Is it a write, not a completion? -/
def Posted.isWrite : Posted → Bool
  | .write _ _ => true
  | .completion _ _ => false

/-- The bytes that the posted-write queue can still take (R91, R428). -/
def State.postRoom (s : State) : Nat := (64 - s.ring.posted.length) * s.maxPayload

/-- Bytes of a host DMA transfer written: read from DRAM in chunks of 2 KiB (R309, R310), and posted as the rings' are (R428). -/
def State.hdmaMove (s : State) (n : Nat) : State :=
  let bs := memRead 0#8 s.dram.mem s.hdma.curSrc n
  let s := (s.moveBusy n).post s.hdma.curDst bs
  { s with dram := { s.dram with hostChunks := s.dram.hostChunks + BitVec.ofNat 32 ((n + 2047) / 2048) } }

/-- A host DMA transfer ends before it is whole (R428): how many of its bytes were written is open, and no more than the queue
takes while the host accepts none. -/
def State.hdmaStop (s : State) (code : Nat) : State :=
  if s.hdma.state ≠ 1 then s
  else
    let (f, s) := s.takeFree
    let most := if s.hostOpen && s.ring.posted.isEmpty then s.hdma.curLen else min s.hdma.curLen s.postRoom
    let n := if s.dramLost s.hdma.curSrc s.hdma.curLen then 0 else 64 * (f.toNat % (most / 64 + 1))
    let s := s.hdmaMove n
    { s with hdma := { s.hdma with state := 3, code := code, bytes := BitVec.ofNat 32 n } }

/-- What the rings hold of an instance when it ends (R419): its records stop being pending, voided unless it completed;
its queued records go, and one in transfer is abandoned. -/
def State.ringsEndInst (s : State) (id : Nat) (completed : Bool) : State :=
  let ks := s.ring.rings.map (·.1)
  let s := ks.foldl (fun s k =>
    let r := s.ringOf k
    let s := if completed then s else r.pages.foldl (fun s p => s.voidWrites k id p) s
    let f := fun p => unpend id (if completed then p else voidBody id p)
    let s := s.modRing k fun r => { r with closed := r.closed.map f, openP := r.openP.map f }
    if completed then s
    else match r.xfer with
      | some x => if x.item.inst == id && !x.item.own then s.modRing k Ring.abandonXfer else s
      | none => s) s
  if completed then s
  else { s with ring := { s.ring with
    rpub := s.ring.rpub.filter (fun q => q.inst != id), rpubWait := s.ring.rpubWait.filter (fun q => q.inst != id) } }

/-- Losses for the next summary of a ring (R425). -/
def Ring.lose (r : Ring) (period : Word) (dropped abandoned : Nat) : Ring :=
  { r with sumFirst := if r.sumDropped + r.sumAbandoned = 0 then period else r.sumFirst
           sumLast := period
           sumDropped := satAdd 32 r.sumDropped dropped
           sumAbandoned := satAdd 32 r.sumAbandoned abandoned }

/-- Is ring k a safety ring (R441)? -/
def State.safetyRing (s : State) (k : Nat) : Bool := s.img.safetyRings.getLsbD k

/-- The ring becomes STALLED with SUMMARY_PENDING (R424, R425), and the pennant being built shows it. -/
def State.stallRing (s : State) (k : Nat) : State :=
  let s := s.modRing k fun r => { r with stalled := true, summary := true }
  let s := { s with pen := { s.pen with acc := { s.pen.acc with stalled := setBit s.pen.acc.stalled k } } }
  s.mirrorRing k

end Sys2Proof.Machine
end

