-- ==== Sys2Proof/Machine/Inst.lean ====
section
/-!
DEFINITION. How threads and job instances end: return to entry (R327, R328), the array and pager effects of a kill (R255,
R322), the record and the registers of an ending (R387, R394), completion (R40, R384) with the pair's comparison (R480),
and a Course link going DOWN (R471).
-/

namespace Sys2Proof.Machine

/-! ## Check-value units (R203, R205) -/

/-- The unit u of a tile core. -/
def Tc.cv (c : Tc) (u : Nat) : CvUnit := if u = 0 then c.cv0 else c.cv1

/-- The unit u replaced. -/
def Tc.setCv (c : Tc) (u : Nat) (x : CvUnit) : Tc := if u = 0 then { c with cv0 := x } else { c with cv1 := x }

/-- Who waits for unit u, first come first served. -/
def Tc.waiters (c : Tc) (u : Nat) : List CvHolder := if u = 0 then c.cvWait else c.cvWait1

/-- The waiters of unit u replaced. -/
def Tc.setWaiters (c : Tc) (u : Nat) (l : List CvHolder) : Tc :=
  if u = 0 then { c with cvWait := l } else { c with cvWait1 := l }

/-- Is it intake, for some stream? -/
def CvHolder.isIntake : CvHolder → Bool
  | .intake _ => true
  | .none | .tile | .ring | .inject => false

/-- A request for unit u: granted if it is free and nobody waits ahead, else the requester joins the queue (R203), in which
every stream, the tile program, the ring engine and the injector have places of their own. -/
def Tc.askCv (c : Tc) (u : Nat) (who : CvHolder) : Tc × Bool :=
  if (c.cv u).holder = .none ∧ ((c.waiters u).isEmpty ∨ (c.waiters u).head? = some who) then
    ((c.setCv u { (c.cv u) with holder := who }).setWaiters u ((c.waiters u).erase who), true)
  else if (c.waiters u).contains who then (c, false)
  else (c.setWaiters u (c.waiters u ++ [who]), false)

/-- A request of one who may already hold the unit. -/
def Tc.claimCv (c : Tc) (u : Nat) (who : CvHolder) : Tc × Bool :=
  if (c.cv u).holder = who then (c, true) else c.askCv u who

/-- The claim of a unit by a holder ends, and its running value is lost (R205). -/
def Tc.releaseCv (c : Tc) (u : Nat) (who : CvHolder) : Tc :=
  if (c.cv u).holder = who then c.setCv u {} else c

/-- The tile program's claims and requests end (R205, R328). -/
def Tc.dropClaims (c : Tc) : Tc :=
  let c := (c.releaseCv 0 .tile).releaseCv 1 .tile
  { c with claim0 := false, claim1 := false, cvWait := c.cvWait.erase .tile, cvWait1 := c.cvWait1.erase .tile }

/-! ## Threads (R326 to R328) -/

/-- The mailboxes without an instance's entries (R328, R356). -/
def dropMail (m : FMap (List Msg)) (id : Nat) : FMap (List Msg) :=
  (m.map fun x => (x.1, x.2.filter fun y => y.inst != id)).filter fun x => !x.2.isEmpty

/-- A core back at its entry point. At a kill, exception or capo every register is zeroed and the digest closes; at HALT
they are kept, never readable (R328). -/
def Tc.toEntry (c : Tc) (id : Nat) (kill : Bool) : Tc :=
  let c := c.dropClaims
  let c := { c with inst := none, stall := 0, allocRd := none, wdArmed := false, rpubOut := 0,
                    readsOut := 0, mbox := dropMail c.mbox id }
  if kill then
    { c with s := List.replicate 32 0#32, v := List.replicate 16 0#256, p := List.replicate 4 0#32,
             b := List.replicate 8 (0#16, false), tkA := {}, tkM := {}, tkP := {}, tkR := {},
             fpInvalid := false, fpOverflow := false, digOpen := none, digArr := 0#64, digArrData := [],
             digArrAny := false, digCore := 0#64, digCoreN := 0, digCoreData := [] }
  else c

/-- The array cleared (R255): accumulators zero, weight registers invalid, queue empty, the pass abandoned. -/
def Arr.clear (a : Arr) : Arr :=
  { a with queue := [], running := [], acc := [], wDomain := 0, active := none, shadow := none, keepBad := true }

/-- A killed job's array: cleared if it has a pass queued or running, with KILLED for a pass abandoned (R255, R256). -/
def Arr.kill (a : Arr) (id : Nat) : Arr :=
  if (a.queue ++ a.running).any fun q => q.inst == id then
    { a.clear with events := if a.running.isEmpty then a.events else setBit a.events 10 }
  else a

/-- A tile's subscriptions end and its slots are freed (R304, R307, R328). -/
def Bow.endSubs (b : Bow) : Bow := { b with cur := none, nxt := none, slots := [] }

/-- The pager forgets a thread: it leaves every route; a fetch left with no job is cancelled if not yet issued, freed if
whole in staging (R322); one left with other jobs is keyed by the earliest of their deadlines (R306, R309); its part reads are
discarded. `kill` counts the cancelled fetches (R316). -/
def State.pagerEndThread (s : State) (t id : Nat) (kill : Bool) : State :=
  let drop (l : List SubRef) := l.filter fun x => !(x.tile == t && x.inst == id)
  let key (f : Fetch) (l : List SubRef) : Nat :=
    match l.filterMap fun x => (s.inst x.inst).map (·.deadline) with
    | [] => f.key
    | d :: ds => if f.fromPeer.isSome || drop f.subs == f.subs then f.key else ds.foldl min d
  let q := s.dram.queue.map fun f => { f with subs := drop f.subs, key := key f (drop f.subs) }
  let live := q.filter fun f => !f.subs.isEmpty || f.fromPeer.isSome
  let gone := q.length - live.length
  let st := (s.dram.staging.map fun e => { e with subs := drop e.subs }).filter fun e =>
    !(e.whole && e.subs.isEmpty && e.pre.isNone && e.fromPeer.isNone)
  { s with dram := { s.dram with
      queue := live, staging := st
      cancelled := if kill then satW s.dram.cancelled gone else s.dram.cancelled
      reads := s.dram.reads.filter fun r => !(r.tile == t && r.inst == id) } }

/-- A thread ends on a tile (R327): by HALT, or returned to entry, its job killed or complete (`ok`). -/
def State.endThread (s : State) (t id : Nat) (kill : Bool) (ok : Bool := false) : State :=
  let s := if kill then s.modArr t fun a => a.kill id else s
  let s := (s.modTc t fun c => c.toEntry id kill).modBow t Bow.endSubs
  let s := s.pagerEndThread t id (kill && !ok)
  s.modInst id fun i => { i with running := i.running.filter fun x => x != t }

/-! ## Decisions waiting for the engine (R376, R381) -/

/-- The order of decisions that arise together: class, deadline, job index (R376). -/
def decideBefore (a b : Inst) : Bool :=
  decide (a.job.cls < b.job.cls) || (a.job.cls == b.job.cls &&
    (decide (a.deadline < b.deadline) || (a.deadline == b.deadline && decide (a.job.job < b.job.job))))

/-- An instance put into a list in the order of R376. -/
def insDecide (x : Inst) : List Inst → List Inst
  | [] => [x]
  | y :: l => if decideBefore x y then x :: y :: l else y :: insDecide x l

/-- Decisions that arise join the engine's queue in arrival order, and those of one instant in the order of R376. -/
def State.queueDecisions (s : State) (l : List Inst) : State :=
  let now := s.now
  let l := l.filter fun i => !s.sch.decideQ.any fun q => q.1 == i.id
  let same := s.sch.insts.filter fun i => s.sch.decideQ.contains (i.id, now)
  let q := (s.sch.decideQ.filter fun q => q.2 != now) ++ ((same ++ l).foldr insDecide []).map fun i => (i.id, now)
  { s with sch := { s.sch with decideQ := q, decidePeak := maxW s.sch.decidePeak q.length } }

/-- The deferred instances of a gang are tested again (R381). -/
def State.retestGang (s : State) (g : Nat) : State :=
  s.queueDecisions (s.sch.insts.filter fun i => i.gang == g && i.st == .deferred)

/-! ## Endings (R387) -/

/-- The place of a status in STATUS_COUNTS (R52). -/
def statusSlot (st : Nat) : Option Nat :=
  if st ≤ 2 then some st else if 0x10 ≤ st ∧ st ≤ 0x15 then some (st - 0x10 + 3) else none

/-- STATUS_COUNTS with one more, saturating at 16 bits (R52). -/
def countStatus (l : List Nat) (st : Nat) : List Nat :=
  match statusSlot st with
  | some k => l.set k (satAdd 16 (l.getD k 0) 1)
  | none => l

/-- SLIP (R387): the first decision instant, or the admission instant of a deferred instance, less r. -/
def Inst.slip (i : Inst) : Nat :=
  (if i.deferred then i.admitAt.getD 0 else i.firstDecision.getD 0) - i.r.getD 0

/-- The status an instance has on completion (R422). -/
def Inst.okStatus (i : Inst) : Nat := if i.degraded then 2 else if i.deferred then 1 else 0

/-- The extended frame counter and start time of the frame bound to the first input (R219, R420). -/
def firstFrame (s : State) (i : Inst) : Word × Nat :=
  match i.bound with
  | f :: _ => if f = 0 then (0#32, 0) else ((s.frame f).ext, (s.frame f).start)
  | [] => (0#32, 0)

/-- The sum of the missing lines of bound frames, saturating (R176). -/
def State.missingOf (s : State) (bound : List Nat) : Nat := bound.foldl (fun n f => satAdd 16 n (s.frame f).missing) 0

/-- The record the DZ produces itself for an ending: zero payload, after the instance's own records (R387, R420, R422). -/
def ownRecord (s : State) (i : Inst) (status : Nat) (detail : Word) : RecReq :=
  { own := true, inst := 0, arrival := s.ring.arrivals, place := i.records, ring := i.job.ring, status := status, detail := detail,
    stream := i.job.stream, net := i.job.net, cls := i.job.cls, job := i.job.job, frame := (firstFrame s i).1,
    period := i.period, tInput := (firstFrame s i).2,
    missing := if i.r.isSome then i.missing else s.missingOf i.bound }

/-- CRC-32C over the extended frame counters of the bound frames (R466). -/
def State.bindCheckOf (s : State) (bound : List Nat) : Word :=
  crc32c (bound.map fun f => leBytes 4 (s.frame f).ext.toNat).flatten

/-- SCH_JOB_LAST and SCH_JOB_DETAIL (R394). -/
def State.jobEnded (s : State) (i : Inst) (status : Nat) (detail : Word) : State :=
  { s with sch := { s.sch with
      jobLast := tput 0#32 s.sch.jobLast i.job.job (BitVec.ofNat 32 (status + i.period.toNat % 2 ^ 24 * 256))
      jobDetail := tput 0#32 s.sch.jobDetail i.job.job detail
      ended := tput 0 s.sch.ended i.job.job (status + 1) } }

/-- The class counters and events of an ending (R394). -/
def State.countEnding (s : State) (i : Inst) (status : Nat) : State :=
  let c := i.job.cls
  { s with
    sch := { s.sch with
      shedC := if status = 0x11 then tput 0#32 s.sch.shedC c (tget 0#32 s.sch.shedC c + 1) else s.sch.shedC
      lateC := if status = 0x10 then tput 0#32 s.sch.lateC c (tget 0#32 s.sch.lateC c + 1) else s.sch.lateC
      events := if status = 0x11 then setBit s.sch.events 1 else s.sch.events
      slipMax := if status ≤ 2 then maxW s.sch.slipMax i.slip else s.sch.slipMax }
    pen := { s.pen with acc := { s.pen.acc with counts := countStatus s.pen.acc.counts status } }
    prd := { s.prd with capKilled := s.prd.capKilled ||
      (decide (0x10 ≤ status) && s.prd.digSelEff.getLsbD 31 &&
        bits s.prd.digSelEff.toNat 11 0 == i.job.stream && bits s.prd.digSelEff.toNat 23 16 == i.job.net) } }

/-- The reports of a class-0 ending (R443): C0_LATE and C0_FAULT. -/
def State.reportEnding (s : State) (i : Inst) (status tile cause : Nat) : State :=
  if i.job.cls = 0 then
    if status = 0x10 then s.report 7 0xFF 0
    else if status = 0x14 then s.report 8 tile cause
    else s
  else s

/-- Staging entries prefetched for a job are freed unused when it ends (R307). -/
def State.freePrefetch (s : State) (job : Nat) : State :=
  { s with dram := { s.dram with staging := s.dram.staging.filter fun e =>
      !(e.pre == some job && e.subs.isEmpty) } }

/-- Check-value units that the ring engine held for records that are gone are free, and it waits for none without a record
(R205, R419). -/
def State.dropRingClaims (s : State) (ts : List Nat) : State :=
  ts.foldl (fun s t =>
    let gone (u : Nat) := !s.ringHolds t u
    let waits (u : Nat) := s.ring.rpub.any fun q => q.tile == t && q.unit == u
    s.modTc t fun c =>
      let c := if gone 0 then c.releaseCv 0 .ring else c
      let c := if gone 1 then c.releaseCv 1 .ring else c
      { c with cvWait := if waits 0 then c.cvWait else c.cvWait.erase .ring
               cvWait1 := if waits 1 then c.cvWait1 else c.cvWait1.erase .ring }) s

/-- Messages of a link that `p` picks, waiting to go out or held, are discarded (R485). -/
def State.dropLinkMsgs (s : State) (k : Nat) (p : RemMsg → Bool) : State :=
  let n := ((s.link k).outQ.filter p).length + ((s.link k).hold.filter p).length
  if n = 0 then s
  else s.modLink k fun l => { l with
    outQ := l.outQ.filter fun r => !p r, hold := l.hold.filter fun r => !p r
    msgDiscards := l.msgDiscards + BitVec.ofNat 32 n, events := setBit l.events 6 }

/-- The messages of an instance that has ended are discarded on every link (R485). -/
def State.linkEndInst (s : State) (i : Inst) : State :=
  (List.range s.grade.links).foldl
    (fun s k => s.dropLinkMsgs k fun r => r.job == i.job.job && r.period == i.period) s

/-- An instance leaves the table (R372): its threads return to entry, its scratchpad, windows and records end, its gang's
deferred instances are tested again, and its outcome is published. -/
def State.endInst (s : State) (id status : Nat) (detail : Word) (tile : Nat := 0xFF) : State :=
  match s.inst id with
  | none => s
  | some i =>
    let ok := decide (status ≤ 2)
    let s : State := i.running.foldl (fun s t => s.endThread t id true ok) s
    let s : State := i.tiles.foldl (fun s t => s.spmEndInst t id) s
    let s : State := (s.tiles.map (·.1)).foldl (fun s t =>
      s.modTc t fun c => { c with mbox := dropMail c.mbox id }) s
    let s := s.linkEndInst i
    let s := (s.ringsEndInst id ok).dropRingClaims i.tiles
    let s := (s.countEnding i status).jobEnded i status detail
    let s := if i.localDone then s else s.sendEnd { i with bindCheck := s.bindCheckOf i.bound } status
    let s := s.freePrefetch i.job.job
    let s := { s with sch := { s.sch with insts := s.sch.insts.filter (fun x => x.id != id),
                                          decideQ := s.sch.decideQ.filter (fun x => x.1 != id) } }
    let s := if ok ∨ status = 0x16 then s
      else { s with ring := { s.ring with
        own := s.ring.own ++ [ownRecord s i status detail], arrivals := s.ring.arrivals + 1 } }
    let s := s.reportEnding i status tile (bits detail.toNat 15 8)
    (if i.tiles.isEmpty && i.st != .deferred then s else s.retestGang i.gang).pagerRun

/-- A fault of a thread or of a job's data ends its instance FAULT_TILE on every tile (R386). -/
def State.faultInst (s : State) (id tile cause : Nat) : State :=
  s.endInst id 0x14 (BitVec.ofNat 32 (tile + cause * 256)) tile

/-! ## Mismatches (R480, R482) -/

/-- An entry of CRS_MM_LOG, counted in CRS_MM_HEAD (R489). -/
def State.logMismatch (s : State) (e : MmEntry) : State :=
  { s with crs := { s.crs with
      mmLog := tput {} s.crs.mmLog s.crs.mmHead e
      mmHead := (s.crs.mmHead + 1) % 16
      mmWritten := satAdd 24 s.crs.mmWritten 1 } }

/-- An instance ends MISMATCH (R482): the report, the log, and the record with CAUSE and LAYER. For a cause other than
VALUE the spec states no digests for the log: they are free values (log entry 10). An instance whose digest injection 0x09
has inverted is the injection's expected report (R454). -/
def State.mismatch (s : State) (id k cause layer : Nat) (own peer : DWord) : State :=
  match s.inst id with
  | none => s
  | some i =>
    let (a, s) := if cause = 1 then (own, s) else s.takeFree
    let (b, s) := if cause = 1 then (peer, s) else s.takeFree
    let inj := s.injApplied 9 && s.saf.injInsts.contains id
    let s := s.logMismatch { period := i.period, job := i.job.job, layer := layer, cause := cause, link := k,
                             own := a, peer := b }
    let s := s.modLink k fun l => { l with mismatches := satW l.mismatches, events := setBit l.events 3 }
    let s := s.logEv 0x0603 k (i.job.job + layer * 2 ^ 16 + cause * 2 ^ 32) inj
    let s := s.report 9 0xFF cause inj
    let s := if inj && s.injTiles.all s.saf.injSeen.contains then s.endInj .detected else s
    let s := { s with pen := { s.pen with acc := { s.pen.acc with mismatch := true } } }
    s.endInst id 0x15 (BitVec.ofNat 32 (cause + layer * 256))

/-! ## Kills at the deadline (R41, R385, R399, R480) -/

/-- Has the frame completed (R218)? -/
def State.frameDone (s : State) (f : Nat) : Bool := (s.frame f).state != .opened

/-- Streams whose bound frame is still open when the instance is killed: STRM_OPEN (R177). -/
def State.countOpen (s : State) (i : Inst) : State :=
  (i.bound.filter fun f => f != 0 && !s.frameDone f).foldl
    (fun s f => s.modStream (s.frame f).stream fun x => { x with openCnt := satAdd 16 x.openCnt 1 }) s

/-- The ending of an instance that has not ended by its deadline or boundary (R385, R387, R399, R480). -/
def State.killLate (s : State) (i : Inst) : State :=
  match i.st with
  | .created | .waitInput => (s.countOpen i).endInst i.id 0x10 3#32
  | .deciding => s.endInst i.id 0x10 2#32
  | .deferred => s.endInst i.id 0x11 1#32
  | .admitted => s.endInst i.id 0x10 2#32
  | .running =>
    match i.localDone && i.paired && !i.waived, s.pairedLink with
    | true, some k => s.mismatch i.id k 3 0xFFFF 0#64 0#64
    | _, _ => s.endInst i.id 0x10 (BitVec.ofNat 32 (1 + 256 * min ((min s.now i.deadline - i.tStart) / 1000) 0xFFFFFF))

/-! ## Completion (R40, R384, R480) -/

/-- Is the job a STATE writer in the running plan? Its completion waits for its threads to end (R40). -/
def State.isWriter (s : State) (i : Inst) : Bool :=
  s.plan.regions.any fun r => r.kind == 0 && r.writer == i.job.job

/-- The waiving conditions of R480. -/
def waives (i : Inst) : Bool :=
  i.degraded ||
  (match i.peerEnd with
   | some e => decide (0x10 ≤ e.status) || e.bindCheck != i.bindCheck
   | none => false) ||
  i.peerDigs.any fun x => x.2.degraded || x.2.bindCheck != i.bindCheck

/-- The layers both sides have sent and not yet compared equal. -/
def toCompare (i : Inst) : List (Nat × DWord × DWord) :=
  i.ownDigs.filterMap fun x =>
    if i.compared.contains x.1 then none
    else if i.peerDigs.any (fun y => y.1 == x.1) then some (x.1, x.2, (tget {} i.peerDigs x.1).digest)
    else none

/-- The first compared layer whose digests differ, of an instance whose comparison is open and not waived (R480). -/
def State.differs (s : State) (i : Inst) : Option (Nat × Nat × DWord × DWord) :=
  match s.pairedLink with
  | none => none
  | some k =>
    if !i.paired || i.waived || waives i then none
    else ((toCompare i).find? fun x => x.2.1 != x.2.2).map fun x => (k, x)

/-- What ends an instance at its deadline: a value mismatch found at the same time (R490), else the kill (R42, R385). -/
def State.settleLate (s : State) (i : Inst) : State :=
  match s.differs i with
  | some (k, x) => s.mismatch i.id k 1 x.1 x.2.1 x.2.2
  | none => s.killLate i

/-- Closes or advances the comparison of an instance of a matched period, and completes it when it may (R40, R480). At
its deadline, or at the boundary where that is one, the kill goes ahead of the completion (R42, R385, R395). -/
def State.settle (s : State) (id : Nat) : State :=
  match s.inst id with
  | none => s
  | some i =>
    if i.deadline ≤ s.now then s.settleLate i else
    let localNow := i.finalDone && (!s.isWriter i || i.running.isEmpty)
    let s := if localNow && !i.localDone then
        (s.sendEnd i i.okStatus).modInst id fun i => { i with localDone := true }
      else s
    let i := { i with localDone := i.localDone || localNow }
    let done (s : State) := if i.localDone then s.endInst id i.okStatus (BitVec.ofNat 32 (min i.slip 0xFFFFFFFF)) else s
    match s.pairedLink with
    | none => done s
    | some k =>
      if !i.paired then done s
      else if i.waived then done s
      else if waives i then
        let s := (s.modLink k fun l => { l with waived := l.waived + 1 }).modInst id fun i => { i with waived := true }
        done s
      else
        let l := toCompare i
        match l.find? fun x => x.2.1 != x.2.2 with
        | some x => s.mismatch id k 1 x.1 x.2.1 x.2.2
        | none =>
          let s := s.modLink k fun c => { c with compared := c.compared + BitVec.ofNat 32 l.length }
          let s := s.modInst id fun i => { i with compared := i.compared ++ l.map (·.1) }
          match i.peerEnd with
          | none => s
          | some e =>
            if !i.localDone then s
            else if e.layers ≠ i.ownDigs.length then s.mismatch id k 2 0xFFFF 0#64 0#64
            else if i.compared.length + l.length = i.ownDigs.length then done s
            else s

/-- The instance of a job in a period of the own count (R476, R480). -/
def State.instOf (s : State) (job : Nat) (period : Word) : Option Inst :=
  s.sch.insts.find? fun i => i.job.job == job && i.period == period

/-- A peer's DIGEST or END flit taken for its instance, its PERIOD translated by the link's difference (R466, R476, R480). -/
def State.takePeer (s : State) (k : Nat) (f : Flit) : State :=
  let p := f.payload
  match s.instOf (field p 4 2) (wordAt p 0 - (s.link k).delta) with
  | none => s
  | some i =>
    if !i.paired then s
    else if f.typ = 3 then
      let d : PeerDig := { digest := BitVec.ofNat 64 (field p 8 8), bindCheck := wordAt p 0x10,
                           degraded := (p.getD 0x14 0#8).getLsbD 0 }
      (s.modInst i.id fun i => { i with peerDigs := tput {} i.peerDigs (field p 6 2) d }).settle i.id
    else
      let e : EndInfo := { status := field p 6 1, layers := field p 8 2, bindCheck := wordAt p 0x0A }
      (s.modInst i.id fun i => { i with peerEnd := some e }).settle i.id

/-- The comparisons still open when the period stops being linked end MISMATCH, cause LINK_DOWN (R480). -/
def State.closeComparisons (s : State) (k : Nat) : State :=
  (s.sch.insts.filter fun i => i.paired && !i.waived && (s.linkCfg k).mode == 1 && (s.link k).matched).foldl
    (fun s i => s.mismatch i.id k 4 0xFFFF 0#64 0#64) s

/-- A paired thread's end may complete a STATE writer (R40). -/
def State.threadEnded (s : State) (id : Nat) : State := s.settle id

/-! ## Links (R471, R474) -/

/-- RDY_PORT bit of a Course link (R98). -/
def linkPortBit (k : Nat) : Nat := 24 + k

/-- The link's readiness is lost (R474). -/
def State.linkUnready (s : State) (k : Nat) : State :=
  if s.rdy.port.getLsbD (linkPortBit k) then
    { s with rdy := { s.rdy with port := clrBit s.rdy.port (linkPortBit k), seq := s.rdy.seq + 1 } }
  else s

/-- Does a shared page still wait for this link's lead (R487)? -/
def State.awaitsPage (s : State) (k : Nat) : Bool :=
  (s.dram.staging.any fun e => e.remote && !e.whole && s.leadLink e.net == some k) ||
  (s.dram.queue.any fun f => f.remote && s.leadLink f.net == some k)

/-- The link's period is no longer linked; its comparisons close, its messages are discarded, and shared fetches fall back
(R480, R485, R487). -/
def State.unlink (s : State) (k : Nat) : State :=
  let was := (s.link k).linked
  let page := s.awaitsPage k
  let s := (s.closeComparisons k).dropLinkMsgs k fun _ => true
  let s := s.modLink k fun l =>
    let e := if was then setBit l.events 4 else l.events
    { l with linked := false, matched := false, pageNet := none, pageData := []
             events := if page then setBit e 7 else e }
  { s with dram := { s.dram with
      queue := s.dram.queue.map fun f => { f with remote := false }
      staging := s.dram.staging.map fun e => if e.whole then e else { e with remote := false } } }

/-- A link goes DOWN with a cause: its retry buffer and queues empty (R471). -/
def State.linkDown (s : State) (k cause : Nat) : State :=
  if (s.link k).st = .up ∨ (s.link k).st = .training then
    let s := (s.unlink k).linkUnready k
    let s := s.modLink k fun l => { l with
      st := .down, cause := cause, locked := false, gotHello := false, events := setBit l.events 2, downs := l.downs + 1,
      held := [], txQ := [], outQ := [], hold := [], msgA := none, pageNet := none, pageData := [], txSeq := 0#8,
      rxSeq := 0#8, nak := false, nakFor := none, sameRetries := 0, crcTimes := [], peerBnd := none, startSent := false,
      peerFirst := none, deltaSet := false, skew := 0, peerHold := false, peerShare := [] }
    s.logEv 0x0601 k (3 + cause * 256)
  else s

end Sys2Proof.Machine
end

