-- ==== Sys2Proof/Machine/Float.lean ====
section
/-!
DEFINITION. Floating point as R341 gives it: binary16, bfloat16 and binary32, computed exactly on dyadic numbers and
rounded once, to nearest with ties to even.
-/

namespace Sys2Proof.Machine

/-- A binary format: exponent bits and fraction bits (R339). -/
structure FFmt where
  /-- exponent bits -/
  eb : Nat
  /-- fraction bits -/
  mb : Nat
deriving DecidableEq, Repr

/-- FP16, IEEE 754 binary16 (R339). -/
def fp16 : FFmt := ⟨5, 10⟩
/-- BF16 (R339). -/
def bf16 : FFmt := ⟨8, 7⟩
/-- FP32, binary32 (R339). -/
def fp32 : FFmt := ⟨8, 23⟩

/-- Width in bits. -/
def FFmt.width (f : FFmt) : Nat := 1 + f.eb + f.mb
/-- The bits of +infinity. -/
def FFmt.infBits (f : FFmt) : Nat := (2 ^ f.eb - 1) * 2 ^ f.mb
/-- The canonical quiet NaN (R341). -/
def FFmt.nanBits (f : FFmt) : Nat := f.infBits + 2 ^ (f.mb - 1)
/-- The sign bit's weight. -/
def FFmt.signBit (f : FFmt) : Nat := 2 ^ (f.eb + f.mb)
/-- Exponent of the least representable step. -/
def FFmt.qmin (f : FFmt) : Int := 2 - 2 ^ (f.eb - 1) - (f.mb : Int)

/-- What a pattern stands for: a number is (-1)^neg * m * 2^e. -/
inductive FVal where
  | nan (signalling : Bool)
  | inf (neg : Bool)
  | fin (neg : Bool) (m : Nat) (e : Int)
deriving DecidableEq, Repr

/-- The value of a pattern; subnormals are kept (R341). -/
def fdec (f : FFmt) (x : Nat) : FVal :=
  let neg := x / f.signBit % 2 == 1
  let ex := x / 2 ^ f.mb % 2 ^ f.eb
  let fr := x % 2 ^ f.mb
  if ex = 2 ^ f.eb - 1 then
    if fr = 0 then .inf neg else .nan (fr < 2 ^ (f.mb - 1))
  else if ex = 0 then .fin neg fr f.qmin
  else .fin neg (2 ^ f.mb + fr) (f.qmin + (ex - 1 : Nat))

/-- A result with the sticky flags it raises (FPFLAGS, R324). -/
structure FRes where
  /-- the bits -/
  bits : Nat
  /-- INVALID -/
  inv : Bool := false
  /-- OVERFLOW -/
  ovf : Bool := false
deriving DecidableEq, Repr

/-- m * 2^(-d) rounded to nearest, ties to even. -/
def rneShift (m d : Nat) : Nat :=
  let q := m / 2 ^ d
  let r := m % 2 ^ d
  if 2 * r > 2 ^ d ∨ (2 * r = 2 ^ d ∧ q % 2 = 1) then q + 1 else q

/-- The exact value rounded once into the format. -/
def fround (f : FFmt) (neg : Bool) (m : Nat) (e : Int) : FRes :=
  let sg := if neg then f.signBit else 0
  if m = 0 then { bits := sg } else
  let q := max ((Nat.log2 m : Int) + e - f.mb) f.qmin
  let k := if q ≤ e then m * 2 ^ (e - q).toNat else rneShift m (q - e).toNat
  let b := (q - f.qmin).toNat * 2 ^ f.mb + k
  if b < f.infBits then { bits := sg + b } else { bits := sg + f.infBits, ovf := true }

/-- A signed exact value rounded; `zneg` is the sign of an exact zero. -/
def froundInt (f : FFmt) (zneg : Bool) (v : Int) (e : Int) : FRes :=
  if v = 0 then fround f zneg 0 e else fround f (v < 0) v.natAbs e

/-- The canonical NaN of an invalid operation. -/
def fInvalid (f : FFmt) : FRes := { bits := f.nanBits, inv := true }

/-- A NaN passed on: INVALID only for a signalling one. -/
def fNan (f : FFmt) (sig : Bool) : FRes := { bits := f.nanBits, inv := sig }

/-- Is the value a signalling NaN? -/
def FVal.sig : FVal → Bool
  | .nan s => s
  | _ => false

/-- Is the value a NaN? -/
def FVal.isNan : FVal → Bool
  | .nan _ => true
  | _ => false

/-- The signed mantissa at exponent `q`, which is at or below the value's own. -/
def scaled (neg : Bool) (m : Nat) (e q : Int) : Int :=
  let v : Int := m * 2 ^ (e - q).toNat
  if neg then -v else v

/-- Sum of two values, rounded once (R342). -/
def faddV (f : FFmt) (a b : FVal) : FRes :=
  match a, b with
  | .nan p, y => fNan f (p || y.sig)
  | x, .nan q => fNan f (q || x.sig)
  | .inf p, .inf q => if p = q then { bits := f.infBits + (if p then f.signBit else 0) } else fInvalid f
  | .inf p, _ => { bits := f.infBits + (if p then f.signBit else 0) }
  | _, .inf q => { bits := f.infBits + (if q then f.signBit else 0) }
  | .fin p m e, .fin q n d =>
    let l := min e d
    froundInt f (p && q) (scaled p m e l + scaled q n d l) l

/-- The exact product of two numbers (no rounding), or what it is otherwise; none for an invalid one. -/
def fmulV (a b : FVal) : Option FVal :=
  match a, b with
  | .nan p, y => some (.nan (p || y.sig))
  | x, .nan q => some (.nan (q || x.sig))
  | .inf p, .inf q => some (.inf (p != q))
  | .inf p, .fin q n _ => if n = 0 then none else some (.inf (p != q))
  | .fin p m _, .inf q => if m = 0 then none else some (.inf (p != q))
  | .fin p m e, .fin q n d => some (.fin (p != q) (m * n) (e + d))

/-- A value rounded into the format. -/
def fenc (f : FFmt) : FVal → FRes
  | .nan s => fNan f s
  | .inf p => { bits := f.infBits + (if p then f.signBit else 0) }
  | .fin p m e => fround f p m e

/-- VFADD (R342). -/
def fadd (f : FFmt) (a b : Nat) : FRes := faddV f (fdec f a) (fdec f b)
/-- The negated value of a pattern. -/
def FVal.neg : FVal → FVal
  | .nan s => .nan s
  | .inf p => .inf (!p)
  | .fin p m e => .fin (!p) m e
/-- VFSUB (R342). -/
def fsub (f : FFmt) (a b : Nat) : FRes := faddV f (fdec f a) (fdec f b).neg
/-- VFMUL (R342). -/
def fmul (f : FFmt) (a b : Nat) : FRes :=
  match fmulV (fdec f a) (fdec f b) with
  | none => fInvalid f
  | some v => fenc f v
/-- VFMA: d + a * b, rounded once (R342). A product of zero by infinity is invalid whatever d is. -/
def ffma (f : FFmt) (d a b : Nat) : FRes :=
  match fmulV (fdec f a) (fdec f b) with
  | none => fInvalid f
  | some v => faddV f v (fdec f d)

/-- Is a less than b, for numbers and infinities (-0 equal to +0)? -/
def fltV (a b : FVal) : Bool :=
  match a, b with
  | .nan _, _ | _, .nan _ => false
  | .inf p, .inf q => p && !q
  | .inf p, _ => p
  | _, .inf q => !q
  | .fin p m e, .fin q n d =>
    let l := min e d
    scaled p m e l < scaled q n d l

/-- Are a and b equal? -/
def feqV (a b : FVal) : Bool :=
  match a, b with
  | .nan _, _ | _, .nan _ => false
  | .inf p, .inf q => p == q
  | .inf _, _ | _, .inf _ => false
  | .fin p m e, .fin q n d =>
    let l := min e d
    scaled p m e l == scaled q n d l

/-- The order of VFMIN and VFMAX: -0 is less than +0 (R342). -/
def fltOrd (f : FFmt) (a b : Nat) : Bool :=
  let x := fdec f a
  let y := fdec f b
  fltV x y || (feqV x y && a / f.signBit % 2 == 1 && b / f.signBit % 2 == 0)

/-- VFMIN or VFMAX: a NaN operand loses to a number (R342). -/
def fminmax (f : FFmt) (mx : Bool) (a b : Nat) : FRes :=
  let x := fdec f a
  let y := fdec f b
  let inv := x.sig || y.sig
  if x.isNan && y.isNan then { bits := f.nanBits, inv := inv }
  else if x.isNan then { bits := b, inv := inv }
  else if y.isNan then { bits := a, inv := inv }
  else { bits := if fltOrd f a b != mx then a else b }

/-- Bits of the greatest representable magnitude at or below m * 2^e. -/
def ffloor (f : FFmt) (m : Nat) (e : Int) : Nat :=
  if m = 0 then 0 else
  let q := max ((Nat.log2 m : Int) + e - f.mb) f.qmin
  let k := if q ≤ e then m * 2 ^ (e - q).toNat else m / 2 ^ (q - e).toNat
  min (f.infBits) ((q - f.qmin).toNat * 2 ^ f.mb + k)

/-- Does the magnitude `b` lie within 1 unit in the last place of some point of [lo, hi] * 2^e? -/
def withinUlp (f : FFmt) (lo hi : Nat) (e : Int) (b : Nat) : Bool :=
  let u : Int := max ((Nat.log2 lo : Int) + e - f.mb) f.qmin
  match fdec f b with
  | .fin _ m d =>
    let l := min (min e d) u
    decide (scaled false lo e l ≤ scaled false m d l + scaled false 1 u l ∧
      scaled false m d l ≤ scaled false hi e l + scaled false 1 u l)
  | _ => b == f.infBits

/-- A magnitude chosen, by an open choice, among those within 1 unit in the last place. -/
def chooseUlp (f : FFmt) (lo hi : Nat) (e : Int) (choice : Nat) : FRes :=
  let b := ffloor f lo e
  let c := ([b - 2, b - 1, b, b + 1, b + 2].filter fun x => x ≤ f.infBits && withinUlp f lo hi e x)
  let r := c.getD (choice % max c.length 1) b
  { bits := r, ovf := r == f.infBits }

/-- VFRCP: 1 / a, within 1 unit in the last place of the exact result, the same on every part (R342). -/
def frcp (f : FFmt) (a : Nat) : FRes :=
  match fdec f a with
  | .nan s => fNan f s
  | .inf p => { bits := if p then f.signBit else 0 }
  | .fin p m e =>
    let sg := if p then f.signBit else 0
    if m = 0 then { bits := sg + f.infBits } else
    let lo := 2 ^ 200 / m
    let hi := lo + (if 2 ^ 200 % m = 0 then 0 else 1)
    let r := chooseUlp f lo hi (-200 - e) (Config.rcpChoice f.width a)
    { r with bits := sg + r.bits }

/-- floor(ln 2 * 2^80). -/
def ln2Fix : Nat := 837963523372001241319907

/-- Terms y^n / n! of exp, from n = k, as fixed point with 80 fraction bits. -/
def expTerms (y : Nat) : Nat → Nat → Nat → Nat
  | 0, _, _ => 0
  | fuel + 1, k, t => t + expTerms y fuel (k + 1) (t * y / 2 ^ 80 / (k + 1))

/-- VFEXP2: 2^a, within 1 unit in the last place of the exact result, the same on every part (R342). -/
def fexp2 (f : FFmt) (a : Nat) : FRes :=
  match fdec f a with
  | .nan s => fNan f s
  | .inf p => { bits := if p then 0 else f.infBits }
  | .fin p m e =>
    if m ≠ 0 ∧ (Nat.log2 m : Int) + e ≥ 9 then
      if p then chooseUlp f 1 1 (f.qmin - 300) (Config.exp2Choice f.width a)
      else { bits := f.infBits, ovf := true }
    else
    -- a as fixed point with 80 fraction bits, rounded down
    let x : Int := (scaled p m (e + 80) (min (e + 80) 0)) / 2 ^ (-(min (e + 80) 0)).toNat
    let n := x / 2 ^ 80
    let y := (x % 2 ^ 80).toNat * ln2Fix / 2 ^ 80
    let v := expTerms y 30 0 (2 ^ 80)
    if n ≥ 2 ^ (f.eb - 1) then { bits := f.infBits, ovf := true }
    else chooseUlp f (v - 64) (v + 64) (n - 80) (Config.exp2Choice f.width a)

/-- A pattern of one format converted into another (R344). -/
def fconv (src dst : FFmt) (a : Nat) : FRes := fenc dst (fdec src a)

/-- An integer converted to a format, rounded (R344). -/
def fofInt (f : FFmt) (v : Int) : FRes := froundInt f false v 0

/-- A pattern converted to a signed integer of w bits: nearest even, saturating, 0 for a NaN (R344). -/
def ftoInt (f : FFmt) (w : Nat) (a : Nat) : Int × Bool :=
  let hi : Int := 2 ^ (w - 1) - 1
  let lo : Int := -2 ^ (w - 1)
  match fdec f a with
  | .nan _ => (0, true)
  | .inf p => (if p then lo else hi, true)
  | .fin p m e =>
    let k : Int := if 0 ≤ e then m * 2 ^ e.toNat else rneShift m (-e).toNat
    let v := if p then -k else k
    if v > hi then (hi, true) else if v < lo then (lo, true) else (v, false)

end Sys2Proof.Machine
end

