-- ==== Sys2Proof/Machine/Vec.lean ====
section
/-!
DEFINITION. The element operations of the tile core's vector instructions (R339 to R346), on plain numbers.
-/

namespace Sys2Proof.Machine

/-- A vector register (R324). -/
abbrev VReg := BitVec 256

/-- Element i of w bytes (R324: bytes iw to iw + w - 1, little-endian). -/
def vget (w : Nat) (v : VReg) (i : Nat) : Nat := (v.toNat >>> (8 * w * i)) % 2 ^ (8 * w)

/-- The number of elements of w bytes. -/
def vcount (w : Nat) : Nat := 32 / w

/-- All elements of w bytes. -/
def velems (w : Nat) (v : VReg) : List Nat := (List.range (vcount w)).map (vget w v)

/-- The register whose elements of w bytes are the list, the rest zero. -/
def vof (w : Nat) (l : List Nat) : VReg :=
  BitVec.ofNat 256 ((l.take (vcount w)).foldr (fun x acc => x % 2 ^ (8 * w) + acc * 2 ^ (8 * w)) 0)

/-- An element read as a signed number. -/
def sgn (w x : Nat) : Int := if 2 ^ (8 * w - 1) ≤ x then (x : Int) - 2 ^ (8 * w) else x

/-- The element that holds an integer modulo 2^(8w). -/
def uns (w : Nat) (v : Int) : Nat := (v % 2 ^ (8 * w)).toNat

/-- A number held to the signed range of b bits. -/
def satS (b : Nat) (v : Int) : Int := max (-(2 ^ (b - 1))) (min (2 ^ (b - 1) - 1) v)

/-- Which elements are active (R340). -/
def active (m : Bool) (p : Word) (w i : Nat) : Bool := !m || p.getLsbD (w * i)

/-- An element-wise result: inactive elements keep the old value (R340). -/
def vmap (m : Bool) (p : Word) (w : Nat) (old : VReg) (f : Nat → Nat) : VReg :=
  vof w ((List.range (vcount w)).map fun i => if active m p w i then f i else vget w old i)

/-- Width in bytes of an integer element type W (R339). -/
def intW (w : BitVec 2) : Option Nat :=
  match w.toNat with
  | 0 => some 1
  | 1 => some 2
  | 2 => some 4
  | _ => none

/-- Format of a floating-point element type W (R339). -/
def floatW (w : BitVec 2) : Option FFmt :=
  match w.toNat with
  | 0 => some fp16
  | 1 => some bf16
  | 2 => some fp32
  | _ => none

/-- VADD. -/
def eAdd (w a b : Nat) : Nat := uns w (a + b)
/-- VSUB. -/
def eSub (w a b : Nat) : Nat := uns w ((a : Int) - b)
/-- VMUL. -/
def eMul (w a b : Nat) : Nat := uns w (sgn w a * sgn w b)
/-- VMULH: the high half of the signed product. -/
def eMulh (w a b : Nat) : Nat := uns w (sgn w a * sgn w b / 2 ^ (8 * w))
/-- VMIN. -/
def eMin (w a b : Nat) : Nat := if sgn w b < sgn w a then b else a
/-- VMAX. -/
def eMax (w a b : Nat) : Nat := if sgn w a < sgn w b then b else a
/-- VMINU. -/
def eMinu (_ a b : Nat) : Nat := min a b
/-- VMAXU. -/
def eMaxu (_ a b : Nat) : Nat := max a b
/-- VAND. -/
def eAnd (_ a b : Nat) : Nat := a &&& b
/-- VOR. -/
def eOr (_ a b : Nat) : Nat := a ||| b
/-- VXOR. -/
def eXor (_ a b : Nat) : Nat := a ^^^ b
/-- VSLL: shift by b modulo 8w. -/
def eSll (w a b : Nat) : Nat := a * 2 ^ (b % (8 * w)) % 2 ^ (8 * w)
/-- VSRA. -/
def eSra (w a b : Nat) : Nat := uns w (sgn w a / 2 ^ (b % (8 * w)))
/-- VSRL. -/
def eSrl (w a b : Nat) : Nat := a / 2 ^ (b % (8 * w))
/-- VADDS. -/
def eAdds (w a b : Nat) : Nat := uns w (satS (8 * w) (sgn w a + sgn w b))
/-- VSUBS. -/
def eSubs (w a b : Nat) : Nat := uns w (satS (8 * w) (sgn w a - sgn w b))
/-- VABS. -/
def eAbs (w a _b : Nat) : Nat := uns w (satS (8 * w) (sgn w a).natAbs)
/-- VRSRA: (a + 2^(s-1)) >> s with s = b modulo 8w; a when s = 0. -/
def eRsra (w a b : Nat) : Nat :=
  let s := b % (8 * w)
  if s = 0 then a else uns w ((sgn w a + 2 ^ (s - 1)) / 2 ^ s)

/-- The integer comparisons of VCMP (R343); none for a reserved FN. -/
def cmpInt (fn w a b : Nat) : Option Bool :=
  match fn with
  | 0 => some (a = b)
  | 1 => some (a ≠ b)
  | 2 => some (sgn w a < sgn w b)
  | 3 => some (sgn w a ≤ sgn w b)
  | 4 => some (a < b)
  | 5 => some (a ≤ b)
  | _ => none

/-- The floating-point comparisons of VCMP (R343) with the INVALID they raise; a NaN compares false. -/
def cmpFloat (f : FFmt) (fn a b : Nat) : Option (Bool × Bool) :=
  let x := fdec f a
  let y := fdec f b
  match fn with
  | 8 => some (feqV x y, x.sig || y.sig)
  | 9 => some (fltV x y, x.isNan || y.isNan)
  | 10 => some (fltV x y || feqV x y, x.isNan || y.isNan)
  | _ => none

/-- The conversions of VCVT (R344): width of the result's elements, and the results (each with INVALID and
OVERFLOW); none for a reserved FN. -/
def convert (fn : Nat) (a b : VReg) : Option (Nat × List FRes) :=
  let lo (w : Nat) (v : VReg) := (velems w v).take (vcount w / 2)
  let hi (w : Nat) (v : VReg) := (velems w v).drop (vcount w / 2)
  let widen (w : Nat) (l : List Nat) := l.map fun x => ({ bits := uns (2 * w) (sgn w x) } : FRes)
  let narrow (w : Nat) (l : List Nat) := l.map fun x => ({ bits := uns (w / 2) (satS (4 * w) (sgn w x)) } : FRes)
  let toI (f : FFmt) (w : Nat) (l : List Nat) := l.map fun x =>
    let r := ftoInt f (8 * w) x
    ({ bits := uns w r.1, inv := r.2 } : FRes)
  match fn with
  | 0 => some (2, widen 1 (lo 1 a))
  | 1 => some (2, widen 1 (hi 1 a))
  | 2 => some (4, widen 2 (lo 2 a))
  | 3 => some (4, widen 2 (hi 2 a))
  | 4 => some (2, narrow 4 (velems 4 a ++ velems 4 b))
  | 5 => some (1, narrow 2 (velems 2 a ++ velems 2 b))
  | 6 => some (4, (velems 4 a).map fun x => fofInt fp32 (sgn 4 x))
  | 7 => some (4, toI fp32 4 (velems 4 a))
  | 8 => some (4, (lo 2 a).map (fconv fp16 fp32))
  | 9 => some (4, (hi 2 a).map (fconv fp16 fp32))
  | 10 => some (2, (velems 4 a ++ velems 4 b).map (fconv fp32 fp16))
  | 11 => some (4, (lo 2 a).map (fconv bf16 fp32))
  | 12 => some (4, (hi 2 a).map (fconv bf16 fp32))
  | 13 => some (2, (velems 4 a ++ velems 4 b).map (fconv fp32 bf16))
  | 14 => some (2, (velems 2 a).map fun x => fofInt fp16 (sgn 2 x))
  | 15 => some (2, toI fp16 2 (velems 2 a))
  | _ => none

/-- A signed INT32 key put into a list in descending order. -/
def insDesc (x : Nat) : List Nat → List Nat
  | [] => [x]
  | y :: l => if sgn 4 y < sgn 4 x then x :: y :: l else y :: insDesc x l

/-- INT32 keys in descending signed order (R345). -/
def sortDesc (l : List Nat) : List Nat := l.foldr insDesc []

/-- VSHUF: byte j is byte (b_j mod 32) of a (R345). -/
def vshuf (a b : VReg) : VReg := vof 1 ((velems 1 b).map fun j => vget 1 a (j % 32))

/-- VCOMP: the active elements in ascending order, the rest zero (R345). -/
def vcomp (p : Word) (w : Nat) (a : VReg) : VReg :=
  vof w (((List.range (vcount w)).filter (active true p w)).map (vget w a))

/-- The active elements of a register with their indices. -/
def activeElems (m : Bool) (p : Word) (w : Nat) (v : VReg) : List (Nat × Nat) :=
  ((List.range (vcount w)).filter (active m p w)).map fun i => (i, vget w v i)

/-- VRMAX / VRMIN over the active elements, the least / greatest value of the type with none (R346). -/
def reduceMax (w : Nat) (l : List (Nat × Nat)) : Int :=
  l.foldl (fun acc e => max acc (sgn w e.2)) (-(2 ^ (8 * w - 1)))
/-- The minimum of the active elements. -/
def reduceMin (w : Nat) (l : List (Nat × Nat)) : Int :=
  l.foldl (fun acc e => min acc (sgn w e.2)) (2 ^ (8 * w - 1) - 1)
/-- VRADD: the sum of the active elements. -/
def reduceAdd (w : Nat) (l : List (Nat × Nat)) : Int := l.foldl (fun acc e => acc + sgn w e.2) 0
/-- VRARGMAX: the lowest active index that holds the maximum, or 0xFFFF_FFFF (R346). -/
def argMax (w : Nat) (l : List (Nat × Nat)) : Nat :=
  match l.find? (fun e => sgn w e.2 == reduceMax w l) with
  | some e => e.1
  | none => 0xFFFFFFFF

/-- A signed integer as a scalar register's 32 bits. -/
def toWord (v : Int) : Word := BitVec.ofInt 32 v

/-- The predicate with every lane bit of element i equal to f i (R343). -/
def predOf (w : Nat) (f : Nat → Bool) : Word :=
  BitVec.ofNat 32 ((List.range 32).foldr (fun j acc => (if f (j / w) then 1 else 0) + 2 * acc) 0)

end Sys2Proof.Machine
end

