-- ==== Sys2Proof/Machine/Operands.lean ====
section
/-!
DEFINITION. The tile core's operands and issue: reading and writing registers, instruction words (R331, R332), the checks
of a fetch (R334, R364), exceptions (R365), and accesses through a binding (R335 to R337).
-/

namespace Sys2Proof.Machine

/-! ## Registers (R324) -/

/-- s[r]; s0 reads zero. -/
def Tc.sreg (c : Tc) (r : BitVec 5) : Word := if r = 0#5 then 0#32 else c.s.getD r.toNat 0#32

/-- s[r] written; s0 ignores writes. -/
def Tc.setS (c : Tc) (r : BitVec 5) (v : Word) : Tc := if r = 0#5 then c else { c with s := c.s.set r.toNat v }

/-- v[r]. -/
def Tc.vreg (c : Tc) (r : BitVec 4) : VReg := c.v.getD r.toNat 0#256

/-- v[r] written. -/
def Tc.setV (c : Tc) (r : BitVec 4) (v : VReg) : Tc := { c with v := c.v.set r.toNat v }

/-- Predicate p. -/
def Tc.pred (c : Tc) (r : Nat) : Word := c.p.getD (r % 4) 0#32

/-- Predicate p written. -/
def Tc.setP (c : Tc) (r : Nat) (v : Word) : Tc := { c with p := c.p.set (r % 4) v }

/-- Binding h: its handle and DIG flag. -/
def Tc.bind (c : Tc) (h : BitVec 3) : Half × Bool := c.b.getD h.toNat (0#16, false)

/-- The vector register named by a five-bit field: the low 4 bits (R331). -/
def vOf (r : BitVec 5) : BitVec 4 := r.setWidth 4

/-- A vector register field whose high bit must be zero (R331). -/
def vOk (r : BitVec 5) : Bool := !r.getLsbD 4

end Sys2Proof.Machine

namespace Sys2Proof

/-! ## Instruction words (R331, R332) -/

/-- The word of an R-format instruction. -/
def RFmt.word (a : RFmt) (op : BitVec 6) (fn : BitVec 11) : Word := op ++ a.rd ++ a.ra ++ a.rb ++ fn
/-- The word of an I-format instruction. -/
def IFmt.word (a : IFmt) (op : BitVec 6) : Word := op ++ a.rd ++ a.ra ++ a.imm
/-- The word of an M-format instruction. -/
def MFmt.word (a : MFmt) (op : BitVec 6) : Word := op ++ a.rd ++ a.ra ++ a.h ++ a.imm
/-- The word of a B-format instruction. -/
def BFmt.word (a : BFmt) (op : BitVec 6) : Word := op ++ a.ra ++ a.rb ++ a.off
/-- The word of a J-format instruction. -/
def JFmt.word (a : JFmt) (op : BitVec 6) : Word := op ++ a.rd ++ a.off
/-- The word of a V-format instruction. -/
def VFmt.word (a : VFmt) (op : BitVec 6) (fn : BitVec 9) : Word :=
  op ++ a.vd ++ a.va ++ a.vb ++ BitVec.ofBool a.m ++ a.pg ++ a.w ++ fn
/-- The word of an X-format instruction. -/
def XFmt.word (a : XFmt) (op : BitVec 6) (fn : BitVec 8) : Word :=
  op ++ a.rs ++ a.v1 ++ a.v2 ++ BitVec.ofBool a.m ++ a.pg ++ a.w ++ fn
/-- The word of a G-format instruction. -/
def GFmt.word (a : GFmt) (op : BitVec 6) : Word := op ++ a.vd ++ a.h ++ a.ra ++ a.rb ++ a.w ++ 0#7

/-- The address of an M-format access: s[RA] + IMM13, modulo 2^32 (R336). -/
def MFmt.addr (a : MFmt) (c : Machine.Tc) (imm : BitVec 13) : Nat := (c.sreg a.ra + imm.signExtend 32).toNat

end Sys2Proof

namespace Sys2Proof.Machine

/-! ## Exceptions (R365) -/

/-- What an instruction comes to: it completes (at the next address, or at a jump's target), it ends its thread, it raises
an exception, or it stalls with a code of TC_STATUS.STALL (R366). -/
inductive TcRes where
  | ok (s : State) (target : Option Half)
  | done (s : State)
  | exc (s : State) (cause : Nat)
  | stall (s : State) (code : Nat)

/-- An exception recorded on its tile (R365, R366): TC_EXC and TC_EXC_INSN are written, its reports and the exclusion of the
tile follow (R443, R446). -/
def State.recordExc (s : State) (t cause : Nat) (word : Word) (ecc : Nat) : State :=
  let s := s.modTc t fun c => { c with
    exc := BitVec.ofNat 32 (cause + c.pc.toNat * 65536), excInsn := word, exceptions := satW c.exceptions,
    events := (let e := setBit c.events 0
               let e := if cause = 6 then setBit e 2 else e
               if cause = 7 then setBit e 3 else e) }
  let s := if cause = 7 then s.report 2 t cause else if cause = 6 then s.report 1 t cause else s
  if ecc = 2 then s.exclude t 4 else if ecc = 4 then s.exclude t 3 else s

/-- An exception (R365): it is recorded, and the instance ends FAULT_TILE on every tile. -/
def State.tcException (s : State) (t id cause : Nat) (word : Word) (ecc : Nat) : State :=
  (s.recordExc t cause word ecc).faultInst id t cause

/-- The instruction word at the core's PC. -/
def State.wordAtPc (s : State) (t : Nat) : Word :=
  BitVec.ofNat 32 (leNat (memRead 0#8 (s.tile t).imem (s.tile t).tc.pc.toNat 4))

/-- An exception with those that threads of the instance raise on other tiles in the same cycle: each is recorded on its tile,
and the job ends FAULT_TILE once (R367). -/
def State.raiseExc (s : State) (t id : Nat) (env : TEnv) (cause : Nat) (word : Word) (ecc : Nat) : State :=
  let s : State := env.peers.foldl (fun s x =>
    if x.1 != t && (s.tile x.1).tc.inst == some id then s.recordExc x.1 x.2.1 (s.wordAtPc x.1) x.2.2 else s) s
  s.tcException t id cause word ecc

/-! ## Issue -/

/-- The code blocks of a network on a tile (R135, R326). -/
def codeBlocks (s : State) (i : Inst) (t : Nat) : List BlockCfg := (s.net i.job.net).blocks.filter fun b => b.tile == t

/-- Does the address lie in a code block of the network on the tile (R334)? -/
def inBlocks (s : State) (i : Inst) (t : Nat) (pc : Half) : Bool :=
  (codeBlocks s i t).any fun b => decide (b.off ≤ pc.toNat) && decide (pc.toNat + 4 ≤ b.off + b.len)

/-- The exception of a fetch, if any: WDOG outside the window, IFETCH outside the code blocks (R334, R364). -/
def fetchCause (s : State) (i : Inst) (t : Nat) (c : Tc) : Option Nat :=
  if c.pc.toNat < c.wdLow ∨ c.wdHigh < c.pc.toNat + 4 then some 7
  else if !inBlocks s i t c.pc then some 2
  else none

/-- Is the word one whose opcode or FN R332 does not list, or a G-format word with a bit of 6:0 set (R331)? -/
def reservedWord (w : Word) : Bool :=
  let op := bits w.toNat 31 26
  let fn := bits w.toNat 10 0
  let v := bits w.toNat 8 0
  if op = 0x00 then
    !([0, 1, 2, 3, 4, 5, 6, 7, 8, 9, 0xA, 0xB, 0xC, 0xD, 0x10, 0x11, 0x12, 0x14, 0x15, 0x16, 0x17, 0x20, 0x21].contains fn)
  else if op ≤ 0x18 then false
  else if op = 0x19 then decide (6 < fn)
  else if op = 0x1A then decide (1 < fn)
  else if op = 0x1B then decide (4 < fn)
  else if op = 0x1C then decide (3 < fn)
  else if op = 0x1D then decide (5 < fn)
  else if op = 0x1E then decide (7 < fn)
  else if op = 0x1F then decide (3 < fn)
  else if op = 0x30 then decide (0x12 < v)
  else if op = 0x31 then decide (7 < v)
  else if op = 0x32 then !([0, 1, 2, 3, 4, 5, 8, 9, 0xA].contains v)
  else if op = 0x33 then decide (0xF < v)
  else if op = 0x34 then decide (4 < v)
  else if op = 0x35 then decide (7 < bits w.toNat 7 0)
  else if op = 0x36 then decide (5 < fn)
  else if op = 0x38 ∨ op = 0x39 then false
  else if op = 0x3A ∨ op = 0x3B then bits w.toNat 6 0 != 0
  else true

/-- The issue of one instruction by the core of a tile that runs a thread: the fetch's checks, ILLEGAL where a reserved word
stands at its PC or a reserved field is not zero, then the effect. A tile that runs no thread issues nothing. -/
def State.issue (s : State) (t : Nat) (env : TEnv) (word : Word) (legal : Bool)
    (f : State → Tc → Inst → TcRes) : State :=
  if !s.grade.hasTile t then s else
  match (s.tile t).tc.inst with
  | none => s
  | some id =>
    match s.inst id with
    | none => s
    | some i =>
      if (s.tile t).tc.allocRd.isSome then s else
      let s := s.modTc t fun c => { c with stallC := c.stallC + BitVec.ofNat 64 env.stall, cyc := c.cyc + env.stall }
      match fetchCause s i t (s.tile t).tc with
      | some k => s.raiseExc t id env k word 0
      | none =>
        if env.ecc = 2 ∨ env.ecc = 4 then s.raiseExc t id env 6 word env.ecc else
        let s := if env.ecc = 1 ∨ env.ecc = 3 then
            (s.modTc t fun c => { c with eccCorr := satW c.eccCorr, events := setBit c.events 1 }).reportEccCorr
          else s
        if reservedWord (s.wordAtPc t) then s.raiseExc t id env 1 (s.wordAtPc t) 0 else
        if !legal then s.raiseExc t id env 1 word 0 else
        match f s (s.tile t).tc i with
        | .ok s pc => s.modTc t fun c =>
            { c with pc := pc.getD (c.pc + 4), retired := c.retired + 1, stall := 0, cyc := c.cyc + 1 }
        | .done s => s
        | .exc s k => s.raiseExc t id env k word 0
        | .stall s k => s.modTc t fun c => { c with stall := k }

/-- An instruction that changes only its own core's state. -/
def State.issueReg (s : State) (t : Nat) (env : TEnv) (word : Word) (legal : Bool) (f : Tc → Tc) : State :=
  s.issue t env word legal fun s _ _ => .ok (s.modTc t f) none

/-! ## Accesses through a binding (R271, R335) -/

/-- The exception code of a failed access: HANDLE or BOUND; a spilled place makes the access wait (R271, R276). -/
def failRes (s : State) (t : Nat) : HErr → TcRes
  | .handle => .exc (s.spmFail t .handle) 4
  | .bound => .exc (s.spmFail t .bound) 5
  | .wait => .stall s 2

/-- The scratchpad ECC of a read made for the thread (R269): none for a clean read. -/
def eccRead (s : State) (t : Nat) (env : TEnv) (k : State → TcRes) : TcRes :=
  if env.dataEcc = 2 then
    .exc (s.modSpm t fun p => { p with events := setBit p.events 1 }) 6
  else if env.dataEcc = 1 then
    k ((s.modSpm t fun p => { p with events := setBit p.events 0, eccCorr := satW p.eccCorr }).reportEccCorr)
  else k s

/-- A read for a job of a mailbox, a queue or a message lane (R443, R445): a single error is corrected and counted, a double
one is reported and ends the job FAULT_TILE. -/
def jobRead (s : State) (t : Nat) (i : Inst) (ecc : Nat) (k : State → TcRes) : TcRes :=
  if ecc = 2 then .done ((s.report 1 t 0).faultInst i.id t 0)
  else if ecc = 1 then k s.reportEccCorr
  else k s

/-- A command that a queue carries to its unit (R91, R445). -/
def viaQueue (s : State) (t : Nat) (i : Inst) (env : TEnv) (k : State → TcRes) : TcRes := jobRead s t i env.queueEcc k

/-- Is the tile core → mesh queue full (R310, R354): the reads that find no place at the pager wait in it, beside the other
traffic of the tile? -/
def meshFull (s : State) (t : Nat) (env : TEnv) : Bool :=
  decide (16 ≤ (s.tile t).tc.readsOut + (s.tile t).spm.restoringPlaces - 8 + (s.ring.rpubWait.filter fun q => q.tile == t).length
    + env.queued)

/-- A command through the tile core → mesh queue: it stalls while that is full (R330, R354). -/
def viaMesh (s : State) (t : Nat) (i : Inst) (env : TEnv) (k : State → TcRes) : TcRes :=
  if meshFull s t env then .stall s 3 else viaQueue s t i env k

/-- A load of n bytes at an offset of the region of a handle, its bytes given to `k`. -/
def loadBytes (s : State) (t : Nat) (i : Inst) (h : Half) (o n : Nat) (env : TEnv) (k : State → List Byte → TcRes) : TcRes :=
  match access s t i h o n false with
  | .error .wait => .stall (s.askRestore t i h o n) 2
  | .error e => failRes s t e
  | .ok addrs =>
    eccRead s t env fun s => k (s.modSpm t fun p => p.touch addrs) ((s.tile t).spm.readAt addrs)

/-- A gather of bytes at separate offsets (R338): every element is checked before any is read, and the banks count the
conflicts of its words (R266). -/
def gatherBytes (s : State) (t : Nat) (i : Inst) (h : Half) (offs : List Nat) (n : Nat) (env : TEnv)
    (k : State → List (List Byte) → TcRes) : TcRes :=
  match offs.mapM fun o => access s t i h o n false with
  | .error .wait => .stall (offs.foldl (fun s o => s.askRestore t i h o n) s) 2
  | .error e => failRes s t e
  | .ok addrs =>
    eccRead s t env fun s =>
      k (s.modSpm t fun p => (p.touch addrs.flatten).conflictC (wordsAt addrs.flatten))
        (addrs.map fun a => (s.tile t).spm.readAt a)

/-- The core source of the open layer fed with stored bytes (R362). -/
def Tc.feedCore (c : Tc) (dig : Bool) (bs : List Byte) : Tc :=
  if dig && c.digOpen.isSome then
    { c with digCore := BitVec.ofNat 64 (crc64Feed c.digCore.toNat bs), digCoreN := c.digCoreN + bs.length,
             digCoreData := c.digCoreData ++ bs }
  else c

/-- A store of bytes, each with its offset, through binding h; `whole` tells whether whole 64-bit words are written, so
that no stored error is read (R269). -/
def storeBytes (s : State) (t : Nat) (i : Inst) (h : Half) (dig : Bool) (o n : Nat) (keep : Nat → Bool) (bs : List Byte)
    (whole : Bool) (env : TEnv) : TcRes :=
  match access s t i h o n true with
  | .error .wait => .stall (s.askRestore t i h o n) 2
  | .error e => failRes s t e
  | .ok addrs =>
    let put (s : State) : TcRes :=
      let kept := ((addrs.zip bs).zip (List.range n)).filter fun x => keep x.2
      let s := s.modSpm t fun p => (p.touch addrs).writeAt (kept.map fun x => x.1.1) (kept.map fun x => x.1.2)
      .ok (s.modTc t fun c => c.feedCore dig (kept.map fun x => x.1.2)) none
    if whole then put s else eccRead s t env put

end Sys2Proof.Machine
end

