-- ==== Sys2Proof/Machine/Passes.lean ====
section
/-!
DEFINITION. The array's passes: the descriptor (R233), its checks (R234, R257), the arithmetic of the four forms (R230 to
R232, R236, R246 to R252), the gating count (R253) and the drains (R243, R244).
-/

namespace Sys2Proof.Machine

/-! ## The pass descriptor (R233) -/

/-- A pass descriptor read into its fields. -/
structure Desc where
  /-- FORM -/
  form : Nat
  /-- OP -/
  op : Nat
  /-- FLAGS -/
  flags : Nat
  /-- KH -/
  kh : Nat
  /-- KW -/
  kw : Nat
  /-- STRIDE -/
  stride : Nat
  /-- GROUP -/
  group : Nat
  /-- LOG2N -/
  log2n : Nat
  /-- SHIFT, as its byte -/
  shift : Nat
  /-- CIN_GROUPS -/
  cin : Nat
  /-- SEG -/
  seg : Nat
  /-- BINS -/
  bins : Nat
  /-- ACC_BASE -/
  base : Nat
  /-- FIRST_BIN -/
  firstBin : Nat
  /-- BLOCK_FIRST -/
  block : Nat
  /-- IN_HANDLE -/
  hIn : Half
  /-- OUT_HANDLE -/
  hOut : Half
  /-- W_HANDLE -/
  hW : Half
  /-- EPI_HANDLE -/
  hEpi : Half
  /-- IN_OFFSET -/
  inOff : Nat
  /-- IN_POS_PITCH -/
  inPos : Nat
  /-- IN_CH_PITCH -/
  inCh : Nat
  /-- IN_ROW_PITCH -/
  inRow : Nat
  /-- OUT_OFFSET -/
  outOff : Nat
  /-- OUT_POS_PITCH -/
  outPos : Nat
  /-- Q_SHIFT -/
  qShift : Nat
  /-- byte 0x33 -/
  rsv : Nat
  /-- OUT_ROW_PITCH -/
  outRow : Nat
  /-- EPI_OFFSET -/
  epiOff : Nat
  /-- TAG -/
  tag : Nat
deriving DecidableEq, Repr

/-- A descriptor from its 64 bytes (R233). -/
def Desc.ofBytes (d : List Byte) : Desc :=
  { form := field d 0 1, op := field d 1 1, flags := field d 2 2, kh := field d 4 1, kw := field d 5 1,
    stride := field d 6 1, group := field d 7 1, log2n := field d 8 1, shift := field d 9 1, cin := field d 0x0A 2,
    seg := field d 0x0C 2, bins := field d 0x0E 2, base := field d 0x10 2, firstBin := field d 0x12 2,
    block := field d 0x14 4, hIn := BitVec.ofNat 16 (field d 0x18 2), hOut := BitVec.ofNat 16 (field d 0x1A 2),
    hW := BitVec.ofNat 16 (field d 0x1C 2), hEpi := BitVec.ofNat 16 (field d 0x1E 2), inOff := field d 0x20 4,
    inPos := field d 0x24 2, inCh := field d 0x26 2, inRow := field d 0x28 4, outOff := field d 0x2C 4,
    outPos := field d 0x30 2, qShift := field d 0x32 1, rsv := field d 0x33 1, outRow := field d 0x34 4,
    epiOff := field d 0x38 4, tag := field d 0x3C 4 }

/-- FLAGS.HALT. -/
def Desc.halt (d : Desc) : Bool := bitOf d.flags 0
/-- FLAGS.INT4. -/
def Desc.int4 (d : Desc) : Bool := bitOf d.flags 1
/-- FLAGS.LOCAL. -/
def Desc.loc (d : Desc) : Bool := bitOf d.flags 2
/-- FLAGS.KEEP. -/
def Desc.keep (d : Desc) : Bool := bitOf d.flags 3
/-- FLAGS.DRAIN: 0 NONE, 1 ACC32, 2 Q8, 3 FP16C. -/
def Desc.drain (d : Desc) : Nat := bits d.flags 5 4
/-- FLAGS.BIAS. -/
def Desc.bias (d : Desc) : Bool := bitOf d.flags 6
/-- N. -/
def Desc.n (d : Desc) : Nat := 2 ^ d.log2n
/-- Bins of a half-spectrum (R248). -/
def Desc.spectrum (d : Desc) : Nat := d.n * (d.n / 2 + 1)
/-- FREQUENCY FORWARD. -/
def Desc.isFwd (d : Desc) : Bool := d.form == 2 && d.op == 0
/-- FREQUENCY MAC. -/
def Desc.isMac (d : Desc) : Bool := d.form == 2 && d.op == 1
/-- FREQUENCY INVERSE. -/
def Desc.isInv (d : Desc) : Bool := d.form == 2 && d.op == 2
/-- A pass that uses the transform unit alone (R235). -/
def Desc.isTu (d : Desc) : Bool := d.isFwd || d.isInv
/-- The domain of the form: 1 SPATIAL, 2 WINOGRAD, 3 SPECTRAL (R229, R256). -/
def Desc.domain (d : Desc) : Nat := if d.form = 1 then 2 else if d.form = 2 then 3 else 1
/-- Steps of the pass (R236, R247, R250, R252). -/
def Desc.steps (d : Desc) : Nat :=
  if d.form = 0 then d.kh * d.kw * d.cin else if d.form = 1 then 16 * d.cin
  else if d.form = 2 then (if d.op = 1 then d.bins * d.cin else 0) else d.kh * d.kw
/-- n of R252, groups per depth-wise pass. -/
def Desc.groups (d : Desc) : Nat := min (32 / d.group) (24 / d.group)
/-- Bytes of one block (R230). -/
def Desc.blockBytes (d : Desc) : Nat :=
  let full := if d.form = 3 then d.groups * d.group * d.group else 768
  if d.form = 1 then 1152 else if d.form = 2 then 768 else if d.int4 then full / 2 else full
/-- Accumulator entries per column (R234, R247, R250); none for the transform unit. -/
def Desc.entries (d : Desc) : Nat :=
  if d.form = 1 then 16 * d.seg else if d.form = 2 then (if d.isMac then d.seg * d.bins else 0) else d.seg
/-- The signed scale exponent of FORWARD and INVERSE. -/
def Desc.scale (d : Desc) : Int := if 128 ≤ d.shift then (d.shift : Int) - 256 else d.shift
/-- Does it need the epilogue vector? -/
def Desc.needsEpi (d : Desc) : Bool := d.bias || d.drain == 2
/-- Does it write the output region? -/
def Desc.writes (d : Desc) : Bool := d.isFwd || d.drain != 0

/-! ## Checks (R234, R257) -/

/-- One past the last input byte the pass names. -/
def Desc.inEnd (d : Desc) : Nat :=
  if d.form = 1 then d.inOff + (d.cin - 1) * d.inCh + 3 * d.inRow + (2 * d.seg + 1) * d.inPos + 32
  else if d.isFwd then d.inOff + (d.n - 1) * d.inRow + (d.n - 1) * d.inPos + 32
  else if d.isMac then d.inOff + (d.seg - 1) * d.inRow + (16 * d.cin - 1) * d.inCh + 4 * (d.firstBin + d.bins)
  else if d.isInv then d.inOff + 11 * d.inCh + 4 * d.spectrum
  else d.inOff + (d.cin - 1) * d.inCh + (d.kh - 1) * d.inRow + ((d.seg - 1) * d.stride + d.kw - 1) * d.inPos + 32

/-- Bytes per output position (R243). -/
def Desc.outBytes (d : Desc) : Nat :=
  let ch := if d.form = 3 then d.groups * d.group else if d.form = 2 then 12 else 24
  if d.drain = 1 then 4 * ch else ch

/-- One past the last output byte the pass names (R243, R249). -/
def Desc.outEnd (d : Desc) : Nat :=
  if d.isFwd then d.outOff + 31 * d.outRow + 4 * d.spectrum
  else if d.isMac then d.outOff + (d.seg - 1) * d.outRow + 11 * d.outPos + 4 * d.bins
  else if d.isInv then d.outOff + (d.n - d.kh) * d.outRow + (d.n - d.kh) * d.outPos + d.outBytes
  else if d.form = 1 then d.outOff + d.outRow + (2 * d.seg - 1) * d.outPos + d.outBytes
  else d.outOff + (d.seg - 1) * d.outPos + d.outBytes

/-- Input ranges a pass reads, one per vector, as (offset, bytes) (R236, R247, R249, R250). -/
def Desc.inputs (d : Desc) : List (Nat × Nat) :=
  let r := List.range
  if d.form = 1 then
    ((r d.cin).map fun g => ((r 4).map fun y => (r (2 * d.seg + 2)).map fun x =>
      (d.inOff + g * d.inCh + y * d.inRow + x * d.inPos, 32)).flatten).flatten
  else if d.isFwd then ((r d.n).map fun y => (r d.n).map fun x => (d.inOff + y * d.inRow + x * d.inPos, 32)).flatten
  else if d.isMac then
    ((r d.seg).map fun t => (r (16 * d.cin)).map fun ch =>
      (d.inOff + t * d.inRow + ch * d.inCh + 4 * d.firstBin, 4 * d.bins)).flatten
  else if d.isInv then (r 12).map fun j => (d.inOff + j * d.inCh, 4 * d.spectrum)
  else
    ((r d.cin).map fun g => ((r d.kh).map fun y => (r d.kw).map fun kx =>
      (r d.seg).map fun x => (d.inOff + g * d.inCh + y * d.inRow + (x * d.stride + kx) * d.inPos, 32)).flatten.flatten).flatten

/-- Output ranges a pass writes, as (offset, bytes) (R243, R249). -/
def Desc.outputs (d : Desc) : List (Nat × Nat) :=
  let r := List.range
  if d.isFwd then (r 32).map fun c => (d.outOff + c * d.outRow, 4 * d.spectrum)
  else if d.drain = 0 then []
  else if d.isMac then ((r d.seg).map fun t => (r 12).map fun j => (d.outOff + t * d.outRow + j * d.outPos, 4 * d.bins)).flatten
  else if d.isInv then
    ((r (d.n - d.kh + 1)).map fun y => (r (d.n - d.kh + 1)).map fun x =>
      (d.outOff + y * d.outRow + x * d.outPos, d.outBytes)).flatten
  else if d.form = 1 then
    ((r 2).map fun y => (r (2 * d.seg)).map fun x => (d.outOff + y * d.outRow + x * d.outPos, d.outBytes)).flatten
  else (r d.seg).map fun x => (d.outOff + x * d.outPos, d.outBytes)

/-- The sets of accesses that a pass's vectors make in one cycle each (R250, R266): a MAC vector gathers one word of each of
16 channels; the schedule of the transform unit's reads of INVERSE is not stated, and none is counted. -/
def Desc.gathers (d : Desc) : List (List (Nat × Nat)) :=
  let r := List.range
  if d.isMac then
    ((r d.cin).map fun g => ((r d.bins).map fun b => (r d.seg).map fun t => (r 16).map fun i =>
      (d.inOff + t * d.inRow + (16 * g + i) * d.inCh + 4 * (d.firstBin + b), 4)).flatten).flatten
  else if d.isInv then [] else d.inputs.map fun x => [x]

/-- Weight ranges a LOCAL pass reads (R242). -/
def Desc.weights (d : Desc) : List (Nat × Nat) := [(64 * d.block, d.steps * d.blockBytes)]

/-- The epilogue vector (R244). -/
def Desc.epiRange (d : Desc) : List (Nat × Nat) := [(d.epiOff, 192)]

/-- A region handle's bytes, if the handle is good for the access. -/
def regionSize (s : State) (t : Nat) (i : Inst) (h : Half) (write : Bool) : Option Nat :=
  (regionOf s t i h write).map fun pl => 4096 * pl.length

/-- Is this access bad by its handle? -/
def badHandle (s : State) (t : Nat) (i : Inst) (h : Half) (write : Bool) : Bool := (regionSize s t i h write).isNone

/-- Does it reach past its region? -/
def pastEnd (s : State) (t : Nat) (i : Inst) (h : Half) (write : Bool) (e : Nat) : Bool :=
  match regionSize s t i h write with
  | some n => decide (n < e)
  | none => false

/-- Code 0x02: KH, KW, STRIDE, GROUP. -/
def Desc.bad2 (d : Desc) : Bool :=
  let k7 := decide (1 ≤ d.kh ∧ d.kh ≤ 7 ∧ 1 ≤ d.kw ∧ d.kw ≤ 7 ∧ 1 ≤ d.stride ∧ d.stride ≤ 2)
  if d.form = 0 then !(k7 && d.group == 0)
  else if d.form = 3 then !(k7 && [1, 2, 3, 4, 6, 8, 12, 16, 24].contains d.group)
  else if d.form = 1 then !(d.kh == 3 && d.kw == 3 && d.stride == 1 && d.group == 0)
  else !(d.stride == 1 && d.group == 0 && d.kw == d.kh && (d.isInv || d.kh == 0))

/-- Code 0x03: SEG, BINS, CIN_GROUPS and the accumulator range. -/
def Desc.bad3 (d : Desc) : Bool :=
  let segMax := if d.form = 1 then 32 else if d.isTu then 1 else 512
  !(decide (1 ≤ d.seg ∧ d.seg ≤ segMax ∧ 1 ≤ d.cin ∧ d.cin ≤ 4096) && (d.form != 3 || d.cin == 1)
    && (if d.isMac then decide (1 ≤ d.bins ∧ d.bins ≤ 512 ∧ d.seg * d.bins ≤ 512 ∧ d.firstBin + d.bins ≤ d.spectrum)
        else d.bins == 1)
    && decide (d.base ≤ 511 ∧ d.base + d.entries ≤ 512))

/-- Code 0x06: pitches and offsets. -/
def Desc.bad6 (d : Desc) : Bool :=
  d.inPos % 32 != 0 || d.inCh % (if d.form = 2 then 4 else 32) != 0 || d.outPos % 8 != 0 || d.epiOff % 64 != 0
    || (d.isMac && (d.inOff % 4 != 0 || d.inRow % 4 != 0))

/-- Code 0x07: LOG2N, K, SHIFT, Q_SHIFT. -/
def Desc.bad7 (d : Desc) : Bool :=
  if d.form = 2 then
    !decide (4 ≤ d.log2n ∧ d.log2n ≤ 6) || (d.isInv && !decide (7 ≤ d.kh ∧ d.kh ≤ d.n / 2 + 1))
      || (if d.isMac then d.shift != 0 else !decide (-31 ≤ d.scale ∧ d.scale ≤ 31))
      || (if d.isInv && d.drain == 2 then decide (31 < d.qShift) else d.qShift != 0)
  else d.drain == 2 && decide (31 < d.shift)

/-- Code 0x08: DRAIN, and an absent epilogue vector. -/
def Desc.bad8 (d : Desc) : Bool :=
  (if d.isMac then d.drain == 1 || d.drain == 2 else if d.isFwd then d.drain != 0 else d.drain == 3)
    || (d.needsEpi && d.hEpi == 0#16)

/-- Code 0x0B: reserved fields, and fields the form does not use. -/
def Desc.badB (d : Desc) : Bool :=
  decide (128 ≤ d.flags) || d.rsv != 0 || (d.form != 2 && (d.log2n != 0 || d.qShift != 0 || (d.drain != 2 && d.shift != 0)))
    || (!d.isMac && d.firstBin != 0) || (!d.loc && d.hW != 0#16) || (!d.needsEpi && d.hEpi != 0#16)

/-- Code 0x09: KEEP is good only over entries last used in this domain and not drained since (R238), with the weight
registers valid (R241). -/
def Desc.bad9 (d : Desc) (a : Arr) : Bool :=
  d.keep && !d.isTu && (a.wDomain == 0 ||
    !((List.range d.entries).all fun e =>
      let x := tget {} a.acc (d.base + e)
      x.dom == d.domain && !x.drained))

/-- The error code of a descriptor, 0 for none: the lowest code that holds (log entry 21). -/
def checkDesc (s : State) (t : Nat) (i : Inst) (q : PassReq) : Nat :=
  let d := Desc.ofBytes q.bytes
  let a := (s.tile t).arr
  if decide (3 < d.form) || (if d.form = 2 then decide (2 < d.op) else d.op != 0)
      || (d.int4 && (d.form == 1 || d.form == 2)) || q.ecode == 1 then 1
  else if d.bad2 then 2
  else if d.bad3 then 3
  else if badHandle s t i d.hIn false || (d.writes && badHandle s t i d.hOut true)
      || (d.loc && badHandle s t i d.hW false) || (d.needsEpi && d.hEpi != 0#16 && badHandle s t i d.hEpi false) then 4
  else if pastEnd s t i d.hIn false d.inEnd || (d.writes && pastEnd s t i d.hOut true d.outEnd)
      || (d.loc && pastEnd s t i d.hW false (64 * d.block + d.steps * d.blockBytes))
      || (d.needsEpi && pastEnd s t i d.hEpi false (d.epiOff + 192)) then 5
  else if d.bad6 then 6
  else if d.bad7 then 7
  else if d.bad8 then 8
  else if d.bad9 a then 9
  else if q.ecode = 10 then 10
  else if d.badB then 11
  else 0

/-- What a descriptor binds to when it is queued (R303): the layer of the current subscription, and the code of a
disagreement. A layer of T blocks holds the block indices below T (log entry 22). -/
def bindPass (s : State) (t : Nat) (i : Inst) (bytes : List Byte) : Option Nat × Nat :=
  let d := Desc.ofBytes bytes
  if d.loc || d.steps == 0 then (none, 0) else
  match (s.tile t).bow.cur with
  | none => (none, 10)
  | some c =>
    let l := (s.net i.job.net).layer c.layer
    let fits := if d.form = 0 then (l.format == 0 && !d.int4) || (l.format == 1 && d.int4)
      else if d.form = 1 then l.format == 2
      else if d.form = 2 then l.format == 3
      else ((l.format == 4 && !d.int4) || (l.format == 5 && d.int4)) && l.group == d.group
    if !fits then (some c.layer, 1)
    else if l.total < d.block + d.steps then (some c.layer, 10)
    else (some c.layer, 0)

/-! ## Operands -/

/-- The places of a region of n frets that ranges of bytes reach. -/
def placesHit (n : Nat) (l : List (Nat × Nat)) : List Nat :=
  (List.range n).filter fun k => l.any fun x => decide (x.1 < 4096 * k + 4096) && decide (4096 * k < x.1 + x.2)

/-- Bytes of a region by byte offset; none while a place that the ranges reach is away (R276). -/
def regionRead (s : State) (t : Nat) (i : Inst) (h : Half) (write : Bool) (l : List (Nat × Nat)) : Option (Nat → Byte) :=
  match regionOf s t i h write with
  | none => none
  | some pl =>
    let p := (s.tile t).spm
    let fs := pl.map (placeReady p)
    if (placesHit pl.length l).all fun k => (fs.getD k none).isSome then
      some fun o => match fs.getD (o / 4096) none with
        | some f => tget 0#8 p.mem (4096 * f + o % 4096)
        | none => 0#8
    else none

/-- The scratchpad words of a set of accesses (R266). -/
def gatherWords (p : Spm) (pl : List Place) (l : List (Nat × Nat)) : List Nat :=
  ((l.map fun x => (List.range ((x.1 + x.2 - 1) / 32 + 1 - x.1 / 32)).filterMap fun k =>
    (regionAddr p pl (32 * (x.1 / 32 + k))).map (· / 32)).flatten).eraseDups

/-- A signed byte. -/
def sbyte (b : Byte) : Int := b.toInt

/-- Four bytes of a block or region as a number. -/
def get4 (f : Nat → Byte) (o : Nat) : Nat := leNat [f o, f (o + 1), f (o + 2), f (o + 3)]

/-- A block of the pass, by step: bytes of the page that holds it in the window, or of the region under LOCAL (R242).
`none` while it is not there; the Bool tells a poisoned copy (R320). -/
def passBlock (s : State) (t : Nat) (i : Inst) (q : PassReq) (d : Desc) (step : Nat) : Option ((Nat → Byte) × Bool) :=
  if d.loc then
    (regionRead s t i d.hW false d.weights).map fun f => (fun o => f (64 * d.block + step * d.blockBytes + o), false)
  else
    match q.layer with
    | none => none
    | some k =>
      let l := (s.net i.job.net).layer k
      let b := d.block + step
      let page := l.firstPage + b / l.bpp
      let at0 := 0x100 + b % l.bpp * d.blockBytes
      match q.loaded.find? fun x => x.1 == page with
      | some x => some (fun o => x.2.getD (at0 + o) 0#8, q.loadedBad.contains page)
      | none =>
        match (s.tile t).bow.slots.find? fun p => p.page == page && p.usable with
        | some p => some (fun o => p.data.getD (at0 + o) 0#8, p.poisoned)
        | none => none

/-- Weight number k of an INT8 or INT4 block (R230). -/
def intWeight (int4 : Bool) (f : Nat → Byte) (k : Nat) : Int :=
  if int4 then (((f (k / 2)).toNat / (if k % 2 = 0 then 1 else 16)) % 16 : Nat) |> fun v =>
    if 8 ≤ v then (v : Int) - 16 else v
  else sbyte (f k)

/-- Transformed weight number k: 12 bits, packed two per 3 bytes (R230). -/
def wideWeight (f : Nat → Byte) (k : Nat) : Int :=
  let o := 3 * (k / 2)
  let v := leNat [f o, f (o + 1), f (o + 2)] / 2 ^ (12 * (k % 2)) % 4096
  if 2048 ≤ v then (v : Int) - 4096 else v

/-- The weight of cell (row, column) in the SPATIAL forms: blocks run row after row (log entry 23); a depth-wise block
holds only its diagonal groups (R252). -/
def cellWeight (d : Desc) (f : Nat → Byte) (r c : Nat) : Int :=
  if d.form = 3 then
    if r / d.group = c / d.group ∧ r / d.group < d.groups then
      intWeight d.int4 f (r / d.group * d.group * d.group + r % d.group * d.group + c % d.group)
    else 0
  else intWeight d.int4 f (24 * r + c)

/-! ## Accumulation -/

/-- An accumulation with its wrap flag (R231). -/
structure IAcc where
  /-- the value, in INT32 range -/
  v : Int
  /-- a sum left the range -/
  wrap : Bool := false
deriving DecidableEq, Repr

/-- One step's sum added (R231). -/
def IAcc.add (a : IAcc) (x : Int) : IAcc :=
  let y := a.v + x
  let z := (BitVec.ofInt 32 y).toInt
  { v := z, wrap := a.wrap || z != y }

/-- The result of a pass: the accumulator entries it leaves, by 512 c + e, what it drains in order as (offset, byte), the
gated count and the flags. -/
structure PassOut where
  /-- accumulator entries -/
  acc : List (Nat × Word) := []
  /-- drained bytes, in drain order -/
  out : List (Nat × Byte) := []
  /-- gated multiplier-cycles (R253) -/
  gated : Nat := 0
  /-- ACC_WRAP -/
  wrap : Bool := false
  /-- FP_INVALID -/
  inv : Bool := false
  /-- FP_OVF -/
  ovf : Bool := false

/-- The 24 epilogue entries: BIAS and SCALE of channel c (R244). -/
def epiEntry (epi : Nat → Byte) (d : Desc) (c : Nat) : Int × Int :=
  let o := d.epiOff + 8 * c
  (if d.bias then (BitVec.ofNat 32 (get4 epi o)).toInt else 0,
   (BitVec.ofNat 16 (leNat [epi (o + 4), epi (o + 5)])).toInt)

/-- The drained bytes of one accumulator value (R244). -/
def epilogue (epi : Nat → Byte) (d : Desc) (c : Nat) (acc : Int) : List Byte :=
  let (bias, scale) := epiEntry epi d c
  if d.drain = 1 then leBytes 4 (BitVec.ofInt 32 (acc + bias)).toNat
  else
    let sh := if d.form = 2 then d.qShift else d.shift
    let r : Int := if 1 ≤ sh then 2 ^ (sh - 1) else 0
    let y := ((acc + bias) * scale + r) / 2 ^ sh
    leBytes 1 (BitVec.ofInt 8 (max (-128) (min 127 y))).toNat

/-- Bytes placed from an offset. -/
def placeAt (o : Nat) (l : List Byte) : List (Nat × Byte) := (List.range l.length).zip l |>.map fun x => (o + x.1, x.2)

/-- The old value of an accumulator entry. -/
def accOld (a : Arr) (keep : Bool) (c e : Nat) : Word := if keep then (tget {} a.acc (512 * c + e)).val else 0#32

/-- DIRECT and DEPTHWISE (R236, R252): all 24 columns accumulate, those beyond the last group of a depth-wise block the zero
products of its zero weights. -/
def spatialPass (a : Arr) (d : Desc) (blk : Nat → Nat → Byte) (inp epi : Nat → Byte) : PassOut :=
  let steps := List.range d.steps
  let cols := List.range 24
  let outs := if d.form = 3 then d.groups * d.group else 24
  let vec (st x : Nat) (r : Nat) : Int :=
    let kx := st % d.kw
    let ky := st / d.kw % d.kh
    let g := st / (d.kw * d.kh)
    sbyte (inp (d.inOff + g * d.inCh + ky * d.inRow + (x * d.stride + kx) * d.inPos + r))
  let cell (x c : Nat) : IAcc :=
    steps.foldl (fun acc st => acc.add (((List.range 32).map fun r =>
      cellWeight d (blk st) r c * vec st x r).foldl (· + ·) 0)) { v := (accOld a d.keep c (d.base + x)).toInt }
  let xs := List.range d.seg
  let res := xs.map fun x => cols.map fun c => (x, c, cell x c)
  let gated := (steps.map fun st => (xs.map fun x => ((List.range 32).map fun r =>
    ((List.range 24).filter fun c => cellWeight d (blk st) r c * vec st x r == 0).length).foldl (· + ·) 0).foldl
      (· + ·) 0).foldl (· + ·) 0
  { acc := res.flatten.map fun y => (512 * y.2.1 + d.base + y.1, BitVec.ofInt 32 y.2.2.v)
    wrap := res.flatten.any fun y => y.2.2.wrap
    gated := gated
    out := if d.drain = 0 then [] else
      (res.map fun l => placeAt (d.outOff + ((l.map (·.1)).headD 0) * d.outPos)
        (((l.take outs).map fun y => epilogue epi d y.2.1 y.2.2.v).flatten)).flatten }

/-- The input transform B^T d B at position (u, v) of a 4 x 4 patch (R246). -/
def winoIn (p : Nat → Nat → Int) (u v : Nat) : Int :=
  let row (k : Nat) (x : Nat → Int) : Int :=
    if k = 0 then x 0 - x 2 else if k = 1 then x 1 + x 2 else if k = 2 then x 2 - x 1 else x 1 - x 3
  row u fun i => row v fun j => p i j

/-- The output transform A^T M A at (r, c), before the shift (R246). -/
def winoOut (m : Nat → Nat → Int) (r c : Nat) : Int :=
  let row (k : Nat) (x : Nat → Int) : Int := if k = 0 then x 0 + x 1 + x 2 else x 1 - x 2 - x 3
  row r fun i => row c fun j => m i j

/-- TRANSFORMED (R246, R247): entry 16 x + p of a column holds tile x at transform position p (log entry 23). -/
def winoPass (a : Arr) (d : Desc) (blk : Nat → Nat → Byte) (inp epi : Nat → Byte) : PassOut :=
  let xs := List.range d.seg
  let ps := List.range 16
  let act (g x : Nat) (i : Nat) (p : Nat) : Int :=
    winoIn (fun r c => sbyte (inp (d.inOff + g * d.inCh + r * d.inRow + (2 * x + c) * d.inPos + i))) (p / 4) (p % 4)
  let cell (x p c : Nat) : IAcc :=
    (List.range d.cin).foldl (fun acc g => acc.add (((List.range 32).map fun i =>
      wideWeight (blk (16 * g + p)) (24 * i + c) * act g x i p).foldl (· + ·) 0))
      { v := (accOld a d.keep c (d.base + 16 * x + p)).toInt }
  let res := xs.map fun x => ps.map fun p => (List.range 24).map fun c => (x, p, c, cell x p c)
  let val (x p c : Nat) : Int := (((res.getD x []).getD p []).getD c (0, 0, 0, { v := 0 })).2.2.2.v
  let gated := ((List.range d.cin).map fun g => (ps.map fun p => (xs.map fun x => ((List.range 32).map fun i =>
    ((List.range 24).filter fun c => wideWeight (blk (16 * g + p)) (24 * i + c) * act g x i p == 0).length).foldl
      (· + ·) 0).foldl (· + ·) 0).foldl (· + ·) 0).foldl (· + ·) 0
  { acc := res.flatten.flatten.map fun y => (512 * y.2.2.1 + d.base + 16 * y.1 + y.2.1, BitVec.ofInt 32 y.2.2.2.v)
    wrap := res.flatten.flatten.any fun y => y.2.2.2.wrap
    gated := gated
    out := if d.drain = 0 then [] else
      (xs.map fun x => ([(0, 0), (0, 1), (1, 0), (1, 1)].map fun rc =>
        placeAt (d.outOff + rc.1 * d.outRow + (2 * x + rc.2) * d.outPos)
          ((List.range 24).map fun c =>
            epilogue epi d c (winoOut (fun i j => val x (4 * i + j) c) rc.1 rc.2 / 4)).flatten).flatten).flatten }

/-! ## Spectral arithmetic (R232, R249 to R251) -/

/-- A binary32 value with the flags its computation raised. -/
structure F32 where
  /-- bits -/
  x : Nat := 0
  /-- FP_INVALID -/
  inv : Bool := false
  /-- FP_OVF -/
  ovf : Bool := false
deriving DecidableEq, Repr

/-- A rounded result; an overflow saturates (R251). -/
def F32.of (r : FRes) (inv ovf : Bool) : F32 :=
  if r.ovf ∨ r.bits % fp32.signBit = fp32.infBits then
    { x := r.bits / fp32.signBit * fp32.signBit + (fp32.infBits - 1), inv := inv, ovf := true }
  else { x := r.bits, inv := inv, ovf := ovf }

/-- An operand: infinities and NaNs are taken as zero (R251). -/
def operand (f : FFmt) (x : Nat) : FVal × Bool :=
  match fdec f x with
  | .fin p m e => (.fin p m e, false)
  | _ => (.fin false 0 f.qmin, true)

/-- Sum of two binary32 values, rounded. -/
def F32.add (a b : F32) : F32 := F32.of (fadd fp32 a.x b.x) (a.inv || b.inv) (a.ovf || b.ovf)
/-- Difference, rounded. -/
def F32.sub (a b : F32) : F32 := F32.of (fsub fp32 a.x b.x) (a.inv || b.inv) (a.ovf || b.ovf)
/-- Product, rounded. -/
def F32.mul (a b : F32) : F32 := F32.of (fmul fp32 a.x b.x) (a.inv || b.inv) (a.ovf || b.ovf)
/-- The negative. -/
def F32.neg (a : F32) : F32 := { a with x := if fp32.signBit ≤ a.x then a.x - fp32.signBit else a.x + fp32.signBit }

/-- The exact product of two operands. -/
def exactMul (a b : FVal) : FVal := (fmulV a b).getD (.fin false 0 fp32.qmin)

/-- round32(a b +- c d) with exact products (R232). -/
def mulAdd2 (a b c d : FVal) (minus : Bool) (inv : Bool) : F32 :=
  let y := exactMul c d
  F32.of (faddV fp32 (exactMul a b) (if minus then y.neg else y)) inv false

/-- A complex value. -/
abbrev C32 := F32 × F32

/-- A complex FP16 word: real part in bytes 0 and 1 (R230). -/
def c16 (v : Nat) : Nat × Nat := (v % 65536, v / 65536 % 65536)

/-- The complex product of two complex FP16 words (R232). -/
def cmul16 (a b : Nat) : C32 :=
  let (ar, i1) := operand fp16 (c16 a).1
  let (ai, i2) := operand fp16 (c16 a).2
  let (br, i3) := operand fp16 (c16 b).1
  let (bi, i4) := operand fp16 (c16 b).2
  let inv := i1 || i2 || i3 || i4
  (mulAdd2 ar br ai bi true inv, mulAdd2 ar bi ai br false inv)

/-- The gated real multipliers of one quad (R253). -/
def quadGated (a b : Nat) : Nat :=
  let z (x : Nat) := x % 32768 == 0 || decide (0x7C00 ≤ x % 32768)
  ([((c16 a).1, (c16 b).1), ((c16 a).2, (c16 b).2), ((c16 a).1, (c16 b).2), ((c16 a).2, (c16 b).1)].filter fun p =>
    z p.1 || z p.2).length

/-- A binary32 scaled by 2^k and rounded to FP16; a magnitude beyond 65,504 saturates with FP_OVF (R243, R249). -/
def toF16 (a : F32) (k : Int) : Nat × Bool :=
  match fdec fp32 a.x with
  | .fin p m e =>
    let r := fround fp16 p m (e + k)
    if r.ovf ∨ r.bits % fp16.signBit = fp16.infBits then ((if p then fp16.signBit else 0) + 0x7BFF, true)
    else (r.bits, false)
  | _ => (0, false)

/-- FREQUENCY MAC (R250, R232). The real part of entry k lies in column 2j, the imaginary part in column 2j + 1 (log
entry 23). -/
def macPass (a : Arr) (d : Desc) (blk : Nat → Nat → Byte) (inp : Nat → Byte) : PassOut :=
  let ts := List.range d.seg
  let bs := List.range d.bins
  let act (t ch b : Nat) : Nat := get4 inp (d.inOff + t * d.inRow + ch * d.inCh + 4 * (d.firstBin + b))
  let wgt (g b i j : Nat) : Nat := get4 (blk (g * d.bins + b)) (4 * (12 * i + j))
  let cadd (x y : C32) : C32 := (x.1.add y.1, x.2.add y.2)
  let stepSum (t g b j : Nat) : C32 :=
    (List.range 15).foldl (fun acc i => cadd acc (cmul16 (act t (16 * g + i + 1) b) (wgt g b (i + 1) j)))
      (cmul16 (act t (16 * g) b) (wgt g b 0 j))
  let cell (t b j : Nat) : C32 :=
    let e := d.base + t * d.bins + b
    if d.keep then
      (List.range d.cin).foldl (fun acc g => cadd acc (stepSum t g b j))
        ({ x := (accOld a true (2 * j) e).toNat }, { x := (accOld a true (2 * j + 1) e).toNat })
    else
      (List.range (d.cin - 1)).foldl (fun acc g => cadd acc (stepSum t (g + 1) b j)) (stepSum t 0 b j)
  let res := (ts.map fun t => bs.map fun b => (List.range 12).map fun j => (t, b, j, cell t b j)).flatten.flatten
  let gated := ((List.range d.cin).map fun g => (bs.map fun b => (ts.map fun t => ((List.range 16).map fun i =>
    ((List.range 12).map fun j => quadGated (act t (16 * g + i) b) (wgt g b i j)).foldl (· + ·) 0).foldl
      (· + ·) 0).foldl (· + ·) 0).foldl (· + ·) 0).foldl (· + ·) 0
  let outs := if d.drain = 3 then res.map fun y =>
      let (re, o1) := toF16 y.2.2.2.1 0
      let (im, o2) := toF16 y.2.2.2.2 0
      (placeAt (d.outOff + y.1 * d.outRow + y.2.2.1 * d.outPos + 4 * y.2.1) (leBytes 4 (re + 65536 * im)), o1 || o2)
    else []
  { acc := (res.map fun y =>
      let e := d.base + y.1 * d.bins + y.2.1
      [(512 * (2 * y.2.2.1) + e, BitVec.ofNat 32 y.2.2.2.1.x),
       (512 * (2 * y.2.2.1 + 1) + e, BitVec.ofNat 32 y.2.2.2.2.x)]).flatten
    gated := gated
    inv := res.any fun y => y.2.2.2.1.inv || y.2.2.2.2.inv
    ovf := (res.any fun y => y.2.2.2.1.ovf || y.2.2.2.2.ovf) || outs.any (·.2)
    out := (outs.map (·.1)).flatten }

/-! ### The discrete Fourier transforms (R249) -/

/-- The binary32 values nearest cos(2 pi k / 64), k from 0 to 16. -/
def cosTable : List Nat :=
  [0x3F800000, 0x3F7EC46D, 0x3F7B14BE, 0x3F74FA0B, 0x3F6C835E, 0x3F61C598, 0x3F54DB31, 0x3F45E403, 0x3F3504F3,
   0x3F226799, 0x3F0E39DA, 0x3EF15AEA, 0x3EC3EF15, 0x3E94A031, 0x3E47C5C2, 0x3DC8BD36, 0]

/-- cos(2 pi k / 64) for any k. -/
def cos64 (k : Nat) : Nat :=
  let k := k % 64
  let neg (x : Nat) := if x = 0 then 0 else x + fp32.signBit
  if k ≤ 16 then cosTable.getD k 0
  else if k ≤ 32 then neg (cosTable.getD (32 - k) 0)
  else if k ≤ 48 then neg (cosTable.getD (k - 32) 0)
  else cosTable.getD (64 - k) 0

/-- The twiddle factor e^(-j 2 pi k / n), conjugated for the inverse. -/
def twiddle (inverse : Bool) (n k : Nat) : C32 :=
  let m := k * (64 / n)
  let sin : F32 := { x := cos64 (m + 48) }
  ({ x := cos64 m }, if inverse then sin else if sin.x = 0 then sin else sin.neg)

/-- Complex product with every product and sum rounded (R249). -/
def cmulR (a b : C32) : C32 :=
  ((a.1.mul b.1).sub (a.2.mul b.2), (a.1.mul b.2).add (a.2.mul b.1))

/-- Radix-2 decimation in frequency on a list of 2^k values, in natural output order (R249): sums feed the even
outputs, twiddled differences the odd ones. -/
def dif (inverse : Bool) : Nat → List C32 → List C32
  | 0, l => l
  | k + 1, l =>
    let h := 2 ^ k
    let u := l.take h
    let v := l.drop h
    let sums := (u.zip v).map fun x => (x.1.1.add x.2.1, x.1.2.add x.2.2)
    let difs := ((u.zip v).zip (List.range h)).map fun x =>
      cmulR (x.1.1.1.sub x.1.2.1, x.1.1.2.sub x.1.2.2) (twiddle inverse (2 * h) x.2)
    let e := dif inverse k sums
    let o := dif inverse k difs
    ((e.zip o).map fun x => [x.1, x.2]).flatten

/-- The transpose of a square list of lists. -/
def transpose (n : Nat) (m : List (List C32)) : List (List C32) :=
  (List.range n).map fun j => m.map fun r => r.getD j ({}, {})

/-- The two-dimensional transform: rows first, then columns (R249). -/
def dft2 (inverse : Bool) (k : Nat) (m : List (List C32)) : List (List C32) :=
  transpose (2 ^ k) ((transpose (2 ^ k) (m.map (dif inverse k))).map (dif inverse k))

/-- FREQUENCY FORWARD (R249): the half-spectra of 32 channels, ky-major. -/
def forwardPass (d : Desc) (inp : Nat → Byte) : PassOut :=
  let n := d.n
  let res := (List.range 32).map fun c =>
    let m := (List.range n).map fun y => (List.range n).map fun x =>
      (({ x := (fofInt fp32 (sbyte (inp (d.inOff + y * d.inRow + x * d.inPos + c)))).bits }, {}) : C32)
    let f := dft2 false d.log2n m
    (f.map fun row => (row.take (n / 2 + 1)).map fun z =>
      let (re, o1) := toF16 z.1 (-d.scale)
      let (im, o2) := toF16 z.2 (-d.scale)
      (leBytes 4 (re + 65536 * im), o1 || o2 || z.1.ovf || z.2.ovf)).flatten
  { out := ((res.zip (List.range 32)).map fun x => placeAt (d.outOff + x.2 * d.outRow) (x.1.map (·.1)).flatten).flatten
    ovf := res.flatten.any (·.2) }

/-- A binary32 scaled by 2^k, rounded to the nearest integer, ties to even, saturated to INT32 (R249). -/
def toI32 (a : F32) (k : Int) : Int :=
  match fdec fp32 a.x with
  | .fin p m e =>
    let q := e + k
    let v : Int := if 0 ≤ q then m * 2 ^ q.toNat else rneShift m (-q).toNat
    let v := if p then -v else v
    max (-(2 ^ 31)) (min (2 ^ 31 - 1) v)
  | _ => 0

/-- FREQUENCY INVERSE (R249): the missing half by Hermitian symmetry, the valid outputs drained with the epilogue. -/
def inversePass (d : Desc) (inp epi : Nat → Byte) : PassOut :=
  let n := d.n
  let w := n / 2 + 1
  let res := (List.range 12).map fun j =>
    let bin (ky kx : Nat) : C32 :=
      let v := get4 inp (d.inOff + j * d.inCh + 4 * (ky * w + kx))
      let part (x : Nat) : F32 :=
        let (q, i) := operand fp16 x
        { x := (fenc fp32 q).bits, inv := i }
      (part (c16 v).1, part (c16 v).2)
    let m := (List.range n).map fun ky => (List.range n).map fun kx =>
      if kx < w then bin ky kx
      else
        let z := bin ((n - ky) % n) (n - kx)
        (z.1, z.2.neg)
    dft2 true d.log2n m
  let at0 (j y x : Nat) : F32 := (((res.getD j []).getD y []).getD x ({}, {})).1
  let k := d.kh
  { out := if d.drain = 0 then [] else
      ((List.range (n - k + 1)).map fun y => ((List.range (n - k + 1)).map fun x =>
        placeAt (d.outOff + y * d.outRow + x * d.outPos)
          ((List.range 12).map fun j => epilogue epi d j (toI32 (at0 j (y + k - 1) (x + k - 1)) (-d.scale))).flatten
        ).flatten).flatten
    inv := res.any fun m => m.any fun r => r.any fun z => z.1.inv || z.2.inv
    ovf := res.any fun m => m.any fun r => r.any fun z => z.1.ovf || z.2.ovf }

/-- The pass of a descriptor. -/
def runPass (a : Arr) (d : Desc) (blk : Nat → Nat → Byte) (inp epi : Nat → Byte) : PassOut :=
  if d.isFwd then forwardPass d inp
  else if d.isInv then inversePass d inp epi
  else if d.isMac then macPass a d blk inp
  else if d.form = 1 then winoPass a d blk inp epi
  else spatialPass a d blk inp epi

end Sys2Proof.Machine
end

