-- ==== Sys2Proof/Machine/Units.lean ====
section
/-!
DEFINITION. The commands of the tile core to the other units (R348 to R364): tickets, the array and the memory engine, the
allocator and the pager, messages, check-value units, the digest unit, records, HALT and the watchdog.
-/

namespace Sys2Proof.Machine

/-! ## Tickets (R348, R349) -/

/-- A command accepted by a unit: the issued count goes up and is the ticket. -/
def UnitTk.issue (u : UnitTk) : UnitTk := { u with issued := u.issued + 1 }

/-- The unit's next command completes with a status word; the last 8 are kept. -/
def UnitTk.finish (u : UnitTk) (w : Word) : UnitTk :=
  { u with completed := u.completed + 1, words := ((u.completed + 1, w) :: u.words).take 8 }

/-- Has every issued ticket completed? -/
def UnitTk.idle (u : UnitTk) : Bool := u.issued == u.completed

/-- A ticket beyond the issued count, by 1 to 32,767 (R349). -/
def UnitTk.notIssued (u : UnitTk) (k : Half) : Bool :=
  let d := (k - u.issued).toNat
  decide (1 ≤ d ∧ d ≤ 32767)

/-- Is the ticket complete? -/
def UnitTk.isDone (u : UnitTk) (k : Half) : Bool := decide ((u.completed - k).toNat < 32768)

/-- The status word of a ticket, all ones for one older than the last 8. -/
def UnitTk.word (u : UnitTk) (k : Half) : Word :=
  match u.words.find? fun x => x.1 == k with
  | some x => x.2
  | none => 0xFFFFFFFF#32

/-- A status word: error code and the low 16 bits of the TAG (R349). -/
def statusWord (code tag : Nat) : Word := BitVec.ofNat 32 (code + tag % 65536 * 65536)

/-- The ticket unit numbered as in WAITC. -/
def Tc.tk (c : Tc) (u : Nat) : UnitTk := if u = 0 then c.tkA else if u = 1 then c.tkM else if u = 2 then c.tkP else c.tkR

/-- The unit replaced. -/
def Tc.setTk (c : Tc) (u : Nat) (x : UnitTk) : Tc :=
  if u = 0 then { c with tkA := x } else if u = 1 then { c with tkM := x }
  else if u = 2 then { c with tkP := x } else { c with tkR := x }

/-- A ticket taken from a unit and written to s[RD]. -/
def Tc.takeTicket (c : Tc) (u : Nat) (rd : BitVec 5) : Tc :=
  let x := (c.tk u).issue
  (c.setTk u x).setS rd (x.issued.setWidth 32)

/-- A unit's completion of an instance's oldest command, if the thread still runs. -/
def State.finishTicket (s : State) (t u id : Nat) (w : Word) : State :=
  s.modTc t fun c => if c.inst = some id then c.setTk u ((c.tk u).finish w) else c

/-! ## SYS (R327, R332, R364) -/

/-- HALT (R327): waits for every ticket, then ends the thread; with a layer open it raises DIGEST. -/
def execHalt (a : RFmt) (s : State) : Result :=
  .next (s.issue a.tile a.env (a.word 0x19#6 0x001#11) (a.rd == 0#5 && a.ra == 0#5 && a.rb == 0#5) fun s c i =>
    if c.digOpen.isSome then .exc s 0x0B
    else if c.tkA.idle && c.tkM.idle && c.tkP.idle && c.tkR.idle then
      let s := s.modTc a.tile fun c => { c with retired := c.retired + 1, stall := 0 }
      .done ((s.endThread a.tile i.id false).threadEnded i.id).pagerRun
    else .stall s 11)

/-- The dispatch window of a thread: lowest start to highest end of its code blocks on the tile (R364). -/
def dispatchWindow (s : State) (i : Inst) (t : Nat) : Nat × Nat :=
  (codeBlocks s i t).foldl (fun w b => (min w.1 b.off, max w.2 (b.off + b.len))) (65536, 0)

/-- WDARM (R364): the window s[RA] to s[RB] and the budget of the register named by RD, 0 meaning WDOG_MARGIN_US; ILLEGAL
for a window that is empty or not inside the dispatch window. The budget starts afresh (log entry 24). -/
def execWdarm (a : RFmt) (s : State) : Result :=
  .next (s.issue a.tile a.env (a.word 0x19#6 0x002#11) true fun s c i =>
    let lo := (c.sreg a.ra).toNat
    let hi := (c.sreg a.rb).toNat
    let w := dispatchWindow s i a.tile
    if hi ≤ lo ∨ lo < w.1 ∨ w.2 < hi then .exc s 1
    else
      let n := if (c.sreg a.rd).toNat = 0 then s.img.wdogMarginUs else (c.sreg a.rd).toNat
      .ok (s.modTc a.tile fun c => { c with wdLow := lo, wdHigh := hi, wdBudget := n, wdLeft := n }) none)

/-- WDKICK (R364): the budget starts again. -/
def execWdkick (a : RFmt) (s : State) : Result :=
  .next (s.issueReg a.tile a.env (a.word 0x19#6 0x003#11) (a.rd == 0#5 && a.ra == 0#5 && a.rb == 0#5) fun c =>
    { c with wdLeft := c.wdBudget })

/-- WDOFF (R364): the dispatch settings return. -/
def execWdoff (a : RFmt) (s : State) : Result :=
  .next (s.issue a.tile a.env (a.word 0x19#6 0x004#11) (a.rd == 0#5 && a.ra == 0#5 && a.rb == 0#5) fun s _ i =>
    let w := dispatchWindow s i a.tile
    let n := s.img.wdogMarginUs
    .ok (s.modTc a.tile fun c => { c with wdLow := w.1, wdHigh := w.2, wdBudget := n, wdLeft := n }) none)

/-! ## Allocator commands (R353) -/

/-- The request of an ALLOC word (R278, R353); a reserved bit makes its size 0, which is refused with SIZE. -/
def allocRequest (s : State) (i : Inst) (w : Nat) (rd : Nat) : AllocReq :=
  { inst := i.id, cls := i.job.cls, n := if bitOf w 7 || decide (4096 ≤ w) then 0 else bits w 6 0, ring := bits w 9 8,
    spread := bitOf w 10, waits := bitOf w 11, rd := rd, since := s.now }

/-- ALLOC (R353): the request goes to the allocator and the core stalls until ALLOC_REQUEST_DECISION answers it. -/
def execAlloc (a : RFmt) (s : State) : Result :=
  .next (s.issue a.tile a.env (a.word 0x1A#6 0x000#11) (a.rb == 0#5) fun s c i =>
    viaMesh s a.tile i a.env fun s =>
      let r := allocRequest s i (c.sreg a.ra).toNat a.rd.toNat
      let s := s.modSpm a.tile fun p => p.addReq r
      .stall (s.modTc a.tile fun c => { c with allocRd := some a.rd.toNat }) 5)

/-- FREE (R353, R285): the region of a live granted handle of the instance ends; any other handle raises HANDLE. -/
def execFree (a : RFmt) (s : State) : Result :=
  .next (s.issue a.tile a.env (a.word 0x1A#6 0x001#11) (a.rd == 0#5 && a.rb == 0#5) fun s c i =>
    let h := (c.sreg a.ra).setWidth 16
    let e := bits h.toNat 6 0
    let x := (s.tile a.tile).spm.ent e
    if decide (33 ≤ e) && x.live && x.gen == bits h.toNat 15 7 && x.inst == i.id then
      viaMesh s a.tile i a.env fun s => .ok (s.endEntries a.tile [e]) none
    else .exc (s.spmFail a.tile .handle) 4)

/-! ## Pager commands (R301 to R304, R311, R354) -/

/-- A refusal in s[RD]: bit 31 and the code. -/
def refusal (code : Nat) : Word := BitVec.ofNat 32 (0x80000000 + code)

/-- Is the tile closed to new grants and requests: excluded, or in diagnostic state (R301, R370)? -/
def State.closedTile (s : State) (t : Nat) : Bool := s.excluded t || (s.tile t).spm.diag

/-- A page prefetched for a job is freed when its program first subscribes to a layer that does not hold it (R307). -/
def State.dropPrefetch (s : State) (i : Inst) (layer : Nat) : State :=
  let n := s.net i.job.net
  let held := (s.subLayers i).map fun k => (n.layer k).firstPage
  { s with dram := { s.dram with staging := s.dram.staging.filter fun e =>
      !(e.pre == some i.job.job && e.subs.isEmpty && e.page != (n.layer layer).firstPage && !held.contains e.page) } }

/-- Does the layer hold a poisoned page (R319)? -/
def layerPoisoned (s : State) (net : Nat) (l : LayerCfg) : Bool :=
  s.dram.poisoned.any fun p => p.1 == net && decide (l.firstPage ≤ p.2) && decide (p.2 < l.firstPage + l.pageCount)

/-- PAGER_SUB (R301, R354): a subscription to a layer of the thread's network becomes current (1) or next (2), or is
refused. A layer with a poisoned page ends the job FAULT_TILE (R319). -/
def execPagerSub (a : RFmt) (s : State) : Result :=
  .next (s.issue a.tile a.env (a.word 0x1B#6 0x000#11) (a.rb == 0#5) fun s c i =>
    let k := (c.sreg a.ra).toNat
    let n := s.net i.job.net
    let l := n.layer k
    let b := (s.tile a.tile).bow
    let code :=
      if s.closedTile a.tile then 6
      else if decide (n.layers.length ≤ k) || l.pageCount == 0 then 1
      else if l.tiles ≤ (s.subsTo i k).length then 2
      else if b.cur.isSome && b.nxt.isSome then 3
      else 0
    if code ≠ 0 then
      let s := s.modBow a.tile fun b => { b with events := setBit b.events 0 }
      .ok (s.modTc a.tile fun c => c.setS a.rd (refusal code)) none
    else if layerPoisoned s i.job.net l then .done (s.faultInst i.id a.tile 0)
    else
      let sub : BowSub := { net := i.job.net, layer := k, inst := i.id }
      let first := b.cur.isNone
      let s := s.dropPrefetch i k
      let s := s.modBow a.tile fun b => if first then { b with cur := some sub } else { b with nxt := some sub }
      let s := s.modTc a.tile fun c => c.setS a.rd (if first then 1#32 else 2#32)
      .ok s.pagerRun none)

/-- RETIRE (R304): every page of the current subscription whose blocks all lie below index s[RA] is marked, one that has no
slot yet when it gets one. -/
def execRetire (a : RFmt) (s : State) : Result :=
  .next (s.issue a.tile a.env (a.word 0x1B#6 0x001#11) (a.rd == 0#5 && a.rb == 0#5) fun s c i =>
    let k := (c.sreg a.ra).toNat
    match (s.tile a.tile).bow.cur with
    | none => .ok s none
    | some sub =>
      let l := (s.net i.job.net).layer sub.layer
      let mark (p : BowPage) : BowPage :=
        if !p.next && !p.ended && decide (min ((p.page - l.firstPage + 1) * l.bpp) l.total ≤ k) then
          { p with marked := true }
        else p
      let sub := { sub with retired := max sub.retired k }
      .ok (s.modBow a.tile fun b => { b with cur := some sub, slots := b.slots.map mark }) none)

/-- ADV (R304): the current subscription ends, its pages are marked, and the next becomes current. -/
def execAdv (a : RFmt) (s : State) : Result :=
  .next (s.issue a.tile a.env (a.word 0x1B#6 0x002#11) (a.rd == 0#5 && a.ra == 0#5 && a.rb == 0#5) fun s _ _ =>
    match (s.tile a.tile).bow.cur with
    | none => .ok s none
    | some _ =>
      let move (p : BowPage) : BowPage :=
        if p.ended then p else if p.next then { p with next := false } else { p with ended := true, marked := true }
      .ok (s.modBow a.tile fun b => { b with cur := b.nxt, nxt := none, slots := b.slots.map move }).pagerRun none)

/-- The target check of a part or head read (R311): the handle and its bound, for a write. -/
def targetBad (s : State) (t : Nat) (i : Inst) (h : Half) (off len : Nat) : Bool :=
  badHandle s t i h true || pastEnd s t i h true (off + len)

/-- A part or head read queued at the pager, or refused (R354). `src` is its DRAM source, none for one that does not
exist. -/
def queueRead (s : State) (t : Nat) (i : Inst) (env : TEnv) (rd : BitVec 5) (src : Option Nat) (len : Nat) (h : Half)
    (off : Nat) : TcRes :=
  let code := if s.closedTile t then 6 else if src.isNone then 4 else if targetBad s t i h off len then 5 else 0
  if code ≠ 0 then .ok (s.modTc t fun c => c.setS rd (refusal code)) none
  else viaMesh s t i env fun s =>
    let s := s.modTc t fun c => { (c.takeTicket 2 rd) with readsOut := c.readsOut + 1 }
    let r : PartRead := { tile := t, inst := i.id, ticket := (s.tile t).tc.tkP.issued.toNat, src := src.getD 0, len := len,
                          handle := h, off := off }
    .ok ({ s with dram := { s.dram with reads := s.dram.reads ++ [r] } } : State).notePeak none

/-- The frame bound to an input of the instance (R311): 0 the first stream, then the extra inputs. -/
def boundFrame (i : Inst) (k : Nat) : Option Nat :=
  if k < 1 + i.job.extra.length then
    match i.bound[k]? with
    | some f => if f = 0 then none else some f
    | none => none
  else none

/-- PREAD (R311, R354): a 4 KiB part of a bound frame to a fret of a region. -/
def execPread (a : RFmt) (s : State) : Result :=
  .next (s.issue a.tile a.env (a.word 0x1B#6 0x003#11) true fun s c i =>
    let w := (c.sreg a.ra).toNat
    let d := (c.sreg a.rb).toNat
    let src : Option Nat := do
      let f ← boundFrame i (bits w 3 0)
      let base ← s.frameStore f
      let g := s.streamCfg (s.frame f).stream
      if bits w 31 24 = 0 ∧ g.hasPart (bits w 6 4) (bits w 15 7) (bits w 23 16) = true then
        some (base + 4096 * g.partUnit (bits w 6 4) (bits w 15 7) (bits w 23 16))
      else none
    queueRead s a.tile i a.env a.rd src 4096 (BitVec.ofNat 16 d) (4096 * bits d 21 16))

/-- HREAD (R311, R354): the 64-byte head of a bound frame's store. -/
def execHread (a : RFmt) (s : State) : Result :=
  .next (s.issue a.tile a.env (a.word 0x1B#6 0x004#11) true fun s c i =>
    let w := (c.sreg a.ra).toNat
    let d := (c.sreg a.rb).toNat
    let src : Option Nat := do
      let f ← boundFrame i (bits w 3 0)
      let base ← s.frameStore f
      if w < 16 then some base else none
    queueRead s a.tile i a.env a.rd src 64 (BitVec.ofNat 16 d) (64 * bits d 27 16))

/-! ## Array and memory-engine commands (R351, R352) -/

/-- APASS (R351): the 64-byte descriptor of v[k], v[k + 1] joins the 8-entry queue; k is even. -/
def execApass (a : RFmt) (s : State) : Result :=
  .next (s.issue a.tile a.env (a.word 0x1C#6 0x000#11) (vOk a.ra && a.rb == 0#5 && !a.ra.getLsbD 0) fun s c i =>
    if 8 ≤ (s.tile a.tile).arr.queue.length then .stall s 3 else viaQueue s a.tile i a.env fun s =>
    let d := leBytes 32 (c.vreg (vOf a.ra)).toNat ++ leBytes 32 (c.vreg (vOf a.ra + 1)).toNat
    let (layer, code) := bindPass s a.tile i d
    let s := s.modTc a.tile fun c => c.takeTicket 0 a.rd
    let q : PassReq := { bytes := d, inst := i.id, ticket := (s.tile a.tile).tc.tkA.issued.toNat, layer := layer,
                         digest := c.digOpen, ecode := code }
    .ok (s.modArr a.tile fun x => { x with queue := x.queue ++ [q] }) none)

/-- MOP (R352): the 32-byte memory operation of v[k] joins the 4-entry queue. -/
def execMop (a : RFmt) (s : State) : Result :=
  .next (s.issue a.tile a.env (a.word 0x1C#6 0x001#11) (vOk a.ra && a.rb == 0#5) fun s c i =>
    if 4 ≤ (s.tile a.tile).spm.memQ.length then .stall s 3 else viaQueue s a.tile i a.env fun s =>
    let d := leBytes 32 (c.vreg (vOf a.ra)).toNat
    let s := s.modTc a.tile fun c => c.takeTicket 1 a.rd
    let m : MemOp := { bytes := d, inst := i.id, ticket := (s.tile a.tile).tc.tkM.issued.toNat }
    .ok (s.modSpm a.tile fun p => { p with memQ := p.memQ ++ [m] }) none)

/-- WAITC (R349): waits for the ticket of the unit RB names, then writes its status word unless RD is s0. -/
def execWaitc (a : RFmt) (s : State) : Result :=
  .next (s.issue a.tile a.env (a.word 0x1C#6 0x002#11) (decide (a.rb.toNat ≤ 3)) fun s c _ =>
    let k := (c.sreg a.ra).setWidth 16
    let u := c.tk a.rb.toNat
    if u.notIssued k then .exc s 9
    else if !u.isDone k then .stall s 4
    else .ok (s.modTc a.tile fun c => c.setS a.rd (u.word k)) none)

/-! ## Check-value units (R359 to R361) -/

/-- Does unit u of tile t compute CRC-16 (R127)? -/
def State.isCrc16 (s : State) (t u : Nat) : Bool := tget 0 s.img.checks (2 * t + u) == 1

/-- The initial value of a unit (R359). -/
def State.cvInit (s : State) (t u : Nat) : Word := if s.isCrc16 t u then 0xFFFF#32 else 0xFFFFFFFF#32

/-- A unit's running value fed with bytes (R201). -/
def State.cvFeed (s : State) (t u : Nat) (v : Word) (bs : List Byte) : Word :=
  BitVec.ofNat 32 (if s.isCrc16 t u then crc16Feed v.toNat bs else crc32cFeed v.toNat bs)

/-- The value READ gives: the final XOR applied (R360). -/
def State.cvFinal (s : State) (t u : Nat) (v : Word) : Word := if s.isCrc16 t u then v else ~~~v

/-- The unit a check-value command names, RB bit 0; bits 4:1 are zero. -/
def cvOk (rb : BitVec 5) : Bool := decide (rb.toNat < 2)

/-- Does the thread hold unit u? -/
def Tc.holdsCv (c : Tc) (u : Nat) : Bool := (c.cv u).holder == .tile

/-- Which units the thread holds (R324), kept with the holders. -/
def Tc.noteClaim (c : Tc) : Tc := { c with claim0 := c.holdsCv 0, claim1 := c.holdsCv 1 }

/-- CLAIM (R359): waits until the thread holds the unit. -/
def execClaim (a : RFmt) (s : State) : Result :=
  .next (s.issue a.tile a.env (a.word 0x1E#6 0x000#11) (cvOk a.rb && a.rd == 0#5 && a.ra == 0#5) fun s c _ =>
    let (c, ok) := c.claimCv a.rb.toNat .tile
    let s := s.modTc a.tile fun _ => c.noteClaim
    if ok then .ok s none else .stall s 6)

/-- A command to a unit the thread must hold, else NOCLAIM (R361). -/
def cvCmd (a : RFmt) (fn : BitVec 11) (legal : Bool) (f : State → Tc → Nat → Tc) (s : State) : Result :=
  .next (s.issue a.tile a.env (a.word 0x1E#6 fn) (cvOk a.rb && legal) fun s c _ =>
    if c.holdsCv a.rb.toNat then .ok (s.modTc a.tile fun c => f s c a.rb.toNat) none else .exc s 8)

/-- The running value of a unit replaced. -/
def Tc.setRun (c : Tc) (u : Nat) (v : Word) : Tc := c.setCv u { (c.cv u) with run := v }

/-- INIT (R359). -/
def execInit (a : RFmt) (s : State) : Result :=
  cvCmd a 0x001#11 (a.rd == 0#5 && a.ra == 0#5) (fun s c u => c.setRun u (s.cvInit a.tile u)) s

/-- A feed of bytes (R360). -/
def cvFeedCmd (a : RFmt) (fn : BitVec 11) (legal : Bool) (data : Tc → List Byte) (s : State) : Result :=
  cvCmd a fn (a.rd == 0#5 && legal) (fun s c u => c.setRun u (s.cvFeed a.tile u (c.cv u).run (data c))) s

/-- FEEDB (R360). -/
def execFeedb (a : RFmt) (s : State) : Result := cvFeedCmd a 0x002#11 true (fun c => leBytes 1 (c.sreg a.ra).toNat) s

/-- FEEDH (R360). -/
def execFeedh (a : RFmt) (s : State) : Result := cvFeedCmd a 0x003#11 true (fun c => leBytes 2 (c.sreg a.ra).toNat) s

/-- FEEDW (R360). -/
def execFeedw (a : RFmt) (s : State) : Result := cvFeedCmd a 0x004#11 true (fun c => leBytes 4 (c.sreg a.ra).toNat) s

/-- FEEDV (R360). -/
def execFeedv (a : RFmt) (s : State) : Result :=
  cvFeedCmd a 0x005#11 (vOk a.ra) (fun c => leBytes 32 (c.vreg (vOf a.ra)).toNat) s

/-- CV_READ (R360): the running value stays as it was. -/
def execCvRead (a : RFmt) (s : State) : Result :=
  cvCmd a 0x006#11 (a.ra == 0#5) (fun s c u => c.setS a.rd (s.cvFinal a.tile u (c.cv u).run)) s

/-- CV_RELEASE (R359): of a unit the thread does not hold, nothing. -/
def execCvRelease (a : RFmt) (s : State) : Result :=
  .next (s.issueReg a.tile a.env (a.word 0x1E#6 0x007#11) (cvOk a.rb && a.rd == 0#5 && a.ra == 0#5) fun c =>
    (c.releaseCv a.rb.toNat .tile).noteClaim)

/-! ## The digest unit (R362, R64, R66) -/

/-- DOPEN (R362). -/
def execDopen (a : RFmt) (s : State) : Result :=
  .next (s.issue a.tile a.env (a.word 0x1F#6 0x000#11) (a.rd == 0#5 && a.rb == 0#5) fun s c i =>
    let k := (c.sreg a.ra).toNat
    if c.digOpen.isSome || decide ((s.net i.job.net).layers.length ≤ k) then .exc s 0x0B
    else
      let s := s.modTc a.tile fun c => { c with digOpen := some k, digArr := 0#64, digArrData := [], digArrAny := false,
                                                digCore := 0#64, digCoreN := 0, digCoreData := [] }
      .ok (s.modInst i.id fun i => { i with openLayers := i.openLayers ++ [(k, a.tile)] }) none)

/-- Is the instance's job the one whose digests are captured (R66)? -/
def State.captures (s : State) (i : Inst) : Bool :=
  let w := s.prd.digSelEff.toNat
  bitOf w 31 && bits w 11 0 == i.job.stream && bits w 23 16 == i.job.net

/-- A tile digest captured in TILE mode (R66). -/
def State.captureTile (s : State) (i : Inst) (layer t : Nat) (d : DWord) : State :=
  if s.captures i && bitOf s.prd.digSelEff.toNat 24 && bits s.prd.digLayerEff.toNat 15 0 == layer then
    { s with prd := { s.prd with capTiles := tput 0#64 s.prd.capTiles t d } }
  else s

/-- A layer digest captured in LAYER mode: kept by layer (R66). -/
def State.captureLayer (s : State) (i : Inst) (layer : Nat) (d : DWord) : State :=
  if s.captures i && !bitOf s.prd.digSelEff.toNat 24 then
    { s with prd := { s.prd with capLayers := (s.prd.capLayers.filter fun x => x.1 != layer) ++ [(layer, d)] } }
  else s

/-- The layer digest: the CRC over the tile digests of every tile that wrote, 8 bytes each, in ascending tile (R64). -/
def layerDigest (l : List TileDig) : DWord :=
  crc64 (((List.range 256).map fun t => (l.filter fun x => x.tile == t).map fun x => leBytes 8 x.digest.toNat).flatten.flatten)

/-- Injection 0x09 (R454): the next tile digest a chosen tile sends for a paired job has bit 0 inverted. -/
def State.injectDigest (s : State) (t : Nat) (i : Inst) (d : DWord) : DWord × State :=
  let on := s.saf.injCode == 9 && (s.saf.injState == .armed || s.saf.injState == .applied) && i.paired
  if on && s.injTiles.contains t && !s.saf.injSeen.contains t then
    let s := if s.saf.injState = .armed then s.applyInj else s
    (d ^^^ 1#64, { s with saf := { s.saf with injSeen := s.saf.injSeen ++ [t], injInsts := s.saf.injInsts ++ [i.id] } })
  else (d, s)

/-- A layer closed on a tile (R362): the tile digest, if any, goes to the sequencer, which forms the layer digest once
every opener has closed it. -/
def State.closeLayer (s : State) (t id layer : Nat) (dig : Option DWord) : State :=
  let (dig, s) : Option DWord × State := match dig, s.inst id with
    | some d, some i =>
      let (d, s) := s.injectDigest t i d
      (some d, s)
    | _, _ => (dig, s)
  let s := s.modInst id fun i => { i with
    openLayers := i.openLayers.erase (layer, t)
    tileDigs := match dig with
      | some d => i.tileDigs ++ [{ layer := layer, tile := t, digest := d }]
      | none => i.tileDigs }
  match s.inst id with
  | none => s
  | some i =>
    let s := match dig with
      | some d => s.captureTile i layer t d
      | none => s
    if i.openLayers.any fun x => x.1 == layer then s
    else
      let l := i.tileDigs.filter fun x => x.layer == layer
      if l.isEmpty then s
      else
        let d := layerDigest l
        let s := (s.captureLayer i layer d).sendDigest i layer d
        let s := s.modInst id fun i => { i with ownDigs := (i.ownDigs.filter fun x => x.1 != layer) ++ [(layer, d)],
                                                tileDigs := i.tileDigs.filter fun x => x.layer != layer }
        s.settle id

/-- DCLOSE (R362): waits for the thread's queued passes to drain, forms the tile digest and closes the layer. -/
def execDclose (a : RFmt) (s : State) : Result :=
  .next (s.issue a.tile a.env (a.word 0x1F#6 0x001#11) (a.rd == 0#5 && a.ra == 0#5 && a.rb == 0#5) fun s c i =>
    match c.digOpen with
    | none => .exc s 0x0B
    | some k =>
      let x := (s.tile a.tile).arr
      if (x.queue ++ x.running).any fun q => q.inst == i.id then .stall s 10
      else
        let dig := if !c.digArrAny && c.digCoreN == 0 then none else some (crc64 (c.digArrData ++ c.digCoreData))
        let s := s.modTc a.tile fun c => { c with
          digOpen := none, retired := c.retired + 1, stall := 0, pc := c.pc + 4, cyc := c.cyc + 1 }
        .done (s.closeLayer a.tile i.id k dig))

/-- DREADL (R362). -/
def execDreadl (a : RFmt) (s : State) : Result :=
  .next (s.issueReg a.tile a.env (a.word 0x1F#6 0x002#11) (a.ra == 0#5 && a.rb == 0#5) fun c =>
    c.setS a.rd (c.digCore.setWidth 32))

/-- DREADH (R362). -/
def execDreadh (a : RFmt) (s : State) : Result :=
  .next (s.issueReg a.tile a.env (a.word 0x1F#6 0x003#11) (a.ra == 0#5 && a.rb == 0#5) fun c =>
    c.setS a.rd ((c.digCore >>> 32).setWidth 32))

/-! ## Records (R363) -/

/-- The record of an RPUB (R363, R420): its status is the one the instance has on completion, its payload the bytes at
the publication. -/
def rpubRecord (s : State) (t : Nat) (i : Inst) (ticket unit : Nat) (final : Bool) (payload : List Byte) : RecReq :=
  { own := false, arrival := s.ring.arrivals, tile := t, inst := i.id, ticket := ticket, unit := unit, final := final, ring := i.job.ring,
    status := i.okStatus, detail := BitVec.ofNat 32 (min i.slip 0xFFFFFFFF), payload := payload, stream := i.job.stream,
    net := i.job.net, cls := i.job.cls, job := i.job.job, frame := (firstFrame s i).1, period := i.period,
    tInput := (firstFrame s i).2, missing := i.missing }

/-- The ring engine asks for the unit of an RPUB record, unless the thread's own claim serves it (R203, R363). -/
def State.askRing (s : State) (q : RecReq) : State :=
  s.modTc q.tile fun c =>
    if c.holdsCv q.unit || ((c.cv q.unit).holder == .none && (c.waiters q.unit).isEmpty) || (c.waiters q.unit).contains .ring then c
    else c.setWaiters q.unit (c.waiters q.unit ++ [.ring])

/-- RING_ENGINE_PEAK held (R433). -/
def State.notePeakRpub (s : State) : State :=
  { s with ring := { s.ring with enginePeak := maxW s.ring.enginePeak s.ring.rpub.length } }

/-- An RPUB record reaches the engine, which holds 64; a further one waits in its tile's mesh queue (R418). -/
def State.sendRpub (s : State) (q : RecReq) : State :=
  if s.ring.rpub.length < 64 ∧ s.ring.rpubWait = [] then
    (({ s with ring := { s.ring with rpub := s.ring.rpub ++ [q], arrivals := s.ring.arrivals + 1 } } : State).askRing q).notePeakRpub
  else { s with ring := { s.ring with rpubWait := s.ring.rpubWait ++ [q] } }

/-- RPUB (R363): at most 2 outstanding; UNIT for a CRC-16 unit or a reserved field. -/
def execRpub (a : RFmt) (s : State) : Result :=
  .next (s.issue a.tile a.env (a.word 0x1C#6 0x003#11) (vOk a.ra && a.rb == 0#5) fun s c i =>
    let d := leBytes 32 (c.vreg (vOf a.ra)).toNat
    let u := field d 2 1
    let o := field d 4 4
    let n := field d 8 4
    if decide (1 < u) || decide (1 < field d 3 1) || decide (0 < field d 0x0C 20) || s.isCrc16 a.tile u then .exc s 0x0C
    else if 2 ≤ c.rpubOut || (decide (64 ≤ s.ring.rpub.length + s.ring.rpubWait.length) && meshFull s a.tile a.env) then .stall s 3
    else if o % 4 ≠ 0 then .exc s 3
    else loadBytes s a.tile i (BitVec.ofNat 16 (field d 0 2)) o n a.env fun s bs =>
      let s := s.modTc a.tile fun c => { (c.takeTicket 3 a.rd) with rpubOut := c.rpubOut + 1 }
      let q := rpubRecord s a.tile i (s.tile a.tile).tc.tkR.issued.toNat u (bitOf (field d 3 1) 0) bs
      .ok (s.sendRpub q) none)

/-! ## Messages (R355 to R358) -/

/-- SEND (R355): the message leaves for its mailbox; MSG for a tile absent from the grade or another bit set; the core
waits while its router holds 2 returned messages. -/
def execSend (a : RFmt) (s : State) : Result :=
  .next (s.issue a.tile a.env (a.word 0x1D#6 0x000#11) (a.rd == 0#5 && vOk a.rb) fun s c i =>
    let w := (c.sreg a.ra).toNat
    if decide (2048 ≤ w) || !s.grade.hasTile (bits w 7 0) then .exc s 0x0A
    else if 2 ≤ c.returned.length then .stall s 8
    else viaMesh s a.tile i a.env fun s =>
      let m : Msg := { src := a.tile, dst := bits w 7 0, mbox := bits w 10 8, inst := i.id, data := c.vreg (vOf a.rb) }
      .ok { s with flight := s.flight ++ [m] } none)

/-- The entries of an instance in a mailbox. -/
def mailOf (c : Tc) (k id : Nat) : List Msg := (tget [] c.mbox k).filter fun m => m.inst == id

/-- RECV (R357, R485): the oldest entry of the running instance into v[RB], its sender into s[RD]. -/
def execRecv (a : RFmt) (s : State) : Result :=
  .next (s.issue a.tile a.env (a.word 0x1D#6 0x001#11) (vOk a.rb) fun s c i =>
    let k := (c.sreg a.ra).toNat % 8
    match mailOf c k i.id with
    | [] => .stall s 7
    | m :: _ => jobRead s a.tile i a.env.dataEcc fun s =>
      let from_ := m.src + (match m.pos with
        | some p => 256 + 512 * p
        | none => 0)
      .ok (s.modTc a.tile fun c =>
        (({ c with mbox := tput [] c.mbox k ((tget [] c.mbox k).erase m) }).setV (vOf a.rb) m.data).setS a.rd
          (BitVec.ofNat 32 from_)) none)

/-- MCOUNT (R357). -/
def execMcount (a : RFmt) (s : State) : Result :=
  .next (s.issue a.tile a.env (a.word 0x1D#6 0x002#11) (a.rb == 0#5) fun s _ i =>
    .ok (s.modTc a.tile fun c =>
      c.setS a.rd (BitVec.ofNat 32 (mailOf c ((c.sreg a.ra).toNat % 8) i.id).length)) none)

/-- A remote address (R358): the tile and the handle, or the exception it raises. -/
def remoteAddr (s : State) (w : Nat) : Except Nat (Nat × Half) :=
  if decide (2 ^ 24 ≤ w) || !s.grade.hasTile (bits w 23 16) then .error 0x0A
  else if bits w 6 0 = 0 ∨ 32 < bits w 6 0 ∨ bits w 15 7 ≠ 0 then .error 4
  else .ok (bits w 23 16, BitVec.ofNat 16 w)

/-- RLDV (R358): the 32-byte word at offset s[RB] of a STATE region on any tile. -/
def execRldv (a : RFmt) (s : State) : Result :=
  .next (s.issue a.tile a.env (a.word 0x1D#6 0x003#11) (vOk a.rd) fun s c i =>
    match remoteAddr s (c.sreg a.ra).toNat with
    | .error k => .exc s k
    | .ok (t, h) =>
      let o := (c.sreg a.rb).toNat
      if o % 32 ≠ 0 then .exc s 3
      else match access s t i h o 32 false with
        | .error .wait => .stall s 9
        | .error e => failRes s t e
        | .ok addrs => eccRead s t a.env fun s =>
          .ok ((s.modSpm t fun p => p.touch addrs).modTc a.tile fun c =>
            c.setV (vOf a.rd) (BitVec.ofNat 256 (leNat ((s.tile t).spm.readAt addrs)))) none)

/-- RSTV (R358): v[RD] into the NEXT copy of a STATE region on any tile, by its writer job. -/
def execRstv (a : RFmt) (s : State) : Result :=
  .next (s.issue a.tile a.env (a.word 0x1D#6 0x004#11) (vOk a.rd) fun s c i =>
    match remoteAddr s (c.sreg a.ra).toNat with
    | .error k => .exc s k
    | .ok (t, h) =>
      let o := (c.sreg a.rb).toNat
      if o % 32 ≠ 0 then .exc s 3
      else match access s t i h o 32 true with
        | .error .wait => .stall s 9
        | .error e => failRes s t e
        | .ok addrs =>
          .ok (s.modSpm t fun p => (p.touch addrs).writeAt addrs (leBytes 32 (c.vreg (vOf a.rd)).toNat)) none)

/-- GEN (R358): a STATE region's generation counter, by either handle, on an excluded tile too. -/
def execGen (a : RFmt) (s : State) : Result :=
  .next (s.issue a.tile a.env (a.word 0x1D#6 0x005#11) (a.rb == 0#5) fun s c _ =>
    match remoteAddr s (c.sreg a.ra).toNat with
    | .error k => .exc s k
    | .ok (t, h) =>
      match (s.tile t).spm.states[(bits h.toNat 6 0 - 1) / 2]? with
      | none => .exc (s.spmFail t .handle) 4
      | some r => .ok (s.modTc a.tile fun c => c.setS a.rd r.gen) none)

end Sys2Proof.Machine
end

