-- ==== Sys2Proof/Machine/PagerEv.lean ====
section
/-!
DEFINITION. Events of the pager and the memory (R299, R305, R306, R311, R312, R319, R320, R610).
-/

namespace Sys2Proof.Machine

/-- Bytes of a bow page (R295). -/
def pageBytes : Nat := 16384

/-- The CHECK of a page over bytes 0x000 to 0x0FB, then 0x100 to 0x3FFF (R295). -/
def pageCheckOk (d : List Byte) : Bool :=
  crc32c (d.take 0xFC ++ d.drop 0x100) == wordAt d 0xFC

/-- Instances with a live subscription to a layer that holds a page, each with its lowest such tile (R319). -/
def State.pageUsers (s : State) (net page : Nat) : List (Nat × Nat) :=
  s.sch.insts.filterMap fun i =>
    if i.job.net ≠ net then none
    else
      let n := s.net net
      let on (t : Nat) := ((s.tile t).bow.cur.toList ++ (s.tile t).bow.nxt.toList).any fun c =>
        c.inst == i.id && decide ((n.layer c.layer).firstPage ≤ page) &&
          decide (page < (n.layer c.layer).firstPage + (n.layer c.layer).pageCount)
      (i.tiles.find? on).map fun t => (i.id, t)

/-- A page poisoned for the rest of the start (R319): recorded, reported, and every user ends FAULT_TILE. -/
def State.poisonPage (s : State) (net page : Nat) : State :=
  let first := s.dram.poisonFirst
  let d := { s.dram with
    poisoned := if s.dram.poisoned.contains (net, page) then s.dram.poisoned else s.dram.poisoned ++ [(net, page)]
    events := setBit s.dram.events 1
    poisonFirst := if first.getLsbD 31 then first else BitVec.ofNat 32 (net + page * 256 + 2 ^ 31) }
  let users := s.pageUsers net page
  let s : State := { s with dram := d }
  users.foldl (fun s u => s.faultInst u.1 u.2 0) (s.report 5 0xFF 0)

/-- The flits of a shared page (R466, R487): PAGE_HEAD, then 631 PAGE_DATA flits of 26 bytes. -/
def State.sendPage (s : State) (k net page : Nat) (poisoned : Bool) (data : List Byte) : State :=
  let s := s.sendFlit k 8 (leBytes 1 net ++ leBytes 1 (b2n poisoned) ++ leBytes 4 page)
  if poisoned then s
  else
    let s : State := (List.range 631).foldl (fun s i => s.sendFlit k 9 ((data.drop (26 * i)).take 26)) s
    s.modLink k fun l => { l with pagesTx := l.pagesTx + 1 }

/-- Is this the staging entry of a page? -/
def Staged.isPage (e : Staged) (net page : Nat) : Bool := e.net == net && e.page == page

/-- The staging entries changed by a function. -/
def State.modStaging (s : State) (f : List Staged → List Staged) : State :=
  { s with dram := { s.dram with staging := f s.dram.staging } }

/-- A page whole in staging, checked (R305, R319): ready, behind the pages that became ready before; read once more; or
poisoned. `fromDram` tells a read of the own
DRAM from one over a link, whose failure falls back to the own DRAM (R487). -/
def State.stagePage (s : State) (e : Staged) (data : List Byte) (good fromDram : Bool) : State :=
  if good then
    let e' := { e with whole := true, ready := true, data := data }
    let keep := !(e.subs.isEmpty && e.pre.isNone)
    let s := s.modStaging fun l => l.filter (· != e) ++ (if keep then [e'] else [])
    let s := match e.fromPeer with
      | some k => s.sendPage k e.net e.page false data
      | none => s
    s.pagerRun
  else
    let s : State := { s with dram := { s.dram with events := setBit s.dram.events 0 } }
    if !fromDram then s.modStaging fun l => l.map fun x => if x = e then { x with remote := false, data := [] } else x
    else if !e.retried then
      s.modStaging fun l => l.map fun x => if x = e then { x with retried := true, bad := false } else x
    else
      let s := s.modStaging fun l => l.filter fun x => x != e
      let s := match e.fromPeer with
        | some k => s.sendPage k e.net e.page true []
        | none => s
      (s.poisonPage e.net e.page).pagerRun

/-- Data moved on a channel for so many mesh cycles (R317). -/
def State.dataBusy (s : State) (n : Nat) : State :=
  { s with dram := { s.dram with dataBusy := s.dram.dataBusy + BitVec.ofNat 64 n } }

/-- PAGE_STAGED (R305): a page read from DRAM is whole in staging and checked. `damaged` tells that what arrived there
differs from what DRAM holds; `busy` is the mesh cycles its data moved. -/
def execPageStaged (net page busy : Nat) (damaged : Bool) (s : State) : Result :=
  .next (match s.dram.staging.find? fun e => e.isPage net page && !e.whole && !e.remote with
  | none => s
  | some e =>
    if !s.dram.trained || s.dramLost ((s.net net).base + pageBytes * page) pageBytes then s else
    let data := memRead 0#8 s.dram.mem ((s.net net).base + pageBytes * page) pageBytes
    (s.dataBusy busy).stagePage e data (!damaged && !e.bad && pageCheckOk data) true)

/-- The band of a tile (R298). -/
def bandOf (t : Nat) : Nat := t / 16 / 4

/-- Does a tile pass a page of this route on: south along the trunk, or east along its branch (R298)? -/
def forwards (route : List Nat) (t : Nat) : Bool :=
  let band := route.filter fun r => bandOf r == bandOf t
  let south := t % 16 == 0 && band.any fun r => decide (t / 16 < r / 16)
  let east := band.any fun r => r / 16 == t / 16 && decide (t % 16 < r % 16)
  let reached := t % 16 == 0 || east
  !band.isEmpty && reached && (south || east)

/-- Do two routes need a common band? -/
def shareBand (a b : List SubRef) : Bool := a.any fun x => b.any fun y => bandOf x.tile == bandOf y.tile

/-- May a ready page go onto its trunks: no page that became ready before it waits for one of them (R305)? -/
def mayInject (l : List Staged) (e : Staged) : Bool :=
  (l.takeWhile (· != e)).all fun x => !(x.ready && shareBand x.subs e.subs)

/-- PAGE_INJECT (R305): a ready page with a route enters the bands it needs, in the order in which pages became ready; its
staging entry is freed. -/
def execPageInject (net page : Nat) (s : State) : Result :=
  .next (match s.dram.staging.find? fun e => e.isPage net page && e.ready && !e.subs.isEmpty with
  | none => s
  | some e =>
    if !mayInject s.dram.staging e then s else
    let route := e.subs.map (·.tile)
    let fl : List InFlight := e.subs.map fun r =>
      { tile := r.tile, inst := r.inst, net := net, page := page, layer := r.layer, data := e.data }
    let s := s.modStaging fun l => l.erase e
    let s : State := { s with dram := { s.dram with flight := s.dram.flight ++ fl } }
    let s : State := (s.grade.tiles.filter (forwards route)).foldl
      (fun s t => s.modBow t fun b => { b with forwarded := b.forwarded + 1 }) s
    s.pagerRun)

/-- Hops of a tile from the root of its band (R298). -/
def bandHops (t : Nat) : Nat := t / 16 % 4 + t % 16

/-- Does a page reach tile u through tile t (R298): down the trunk, or along t's branch? -/
def reachesThrough (t u : Nat) : Bool :=
  bandOf t == bandOf u && t != u &&
    (if t % 16 = 0 then decide (t / 16 ≤ u / 16) else t / 16 == u / 16 && decide (t % 16 < u % 16))

/-- May the page be usable here now (R299, R300): no page injected before it is still on the band, and no nearer tile waits for
this one? -/
def nextOnBand (l : List InFlight) (x : InFlight) : Bool :=
  (l.takeWhile (· != x)).all (fun y => bandOf y.tile != bandOf x.tile || (y.net == x.net && y.page == x.page)) &&
    l.all fun y => !(y.net == x.net && y.page == x.page && bandOf y.tile == bandOf x.tile && decide (bandHops y.tile < bandHops x.tile))

/-- Lane and window errors counted and shown on a tile (R318, R320, R443). -/
def State.laneErrors (s : State) (tile : Nat) (lane : LaneIn) : State :=
  let bad := lane.laneBad || lane.slotBad
  let s := s.modBow tile fun b => { b with
    laneCorr := satW b.laneCorr lane.corr
    events := (let e := if lane.corr ≠ 0 then setBit b.events 1 else b.events
               if bad then setBit e 2 else e) }
  let s := if lane.corr ≠ 0 then s.reportEccCorr else s
  let s : State := if bad then { s with dram := { s.dram with events := setBit s.dram.events 3 } } else s
  if bad then s.report 1 tile 0 else s

/-- An uncorrectable lane error marks the page from this hop onward: every copy that goes on through the tile (R320). -/
def State.markOnward (s : State) (tile net page : Nat) (lane : LaneIn) : State :=
  if lane.laneBad then
    { s with dram := { s.dram with flight := s.dram.flight.map fun y =>
        if y.net == net && y.page == page && reachesThrough tile y.tile then { y with bad := true } else y } }
  else s

/-- PAGE_USABLE (R299): a page arrives in the slot reserved for it; without one it is discarded (R322). An uncorrectable
error marks the copy, and one of a lane those further along too (R320). At a tile that only passes the page on, its lane's
errors are counted. -/
def execPageUsable (tile net page : Nat) (lane : LaneIn) (s : State) : Result :=
  .next (match s.dram.flight.find? fun x => x.tile == tile && x.net == net && x.page == page with
  | none =>
    if s.dram.flight.any fun y => y.net == net && y.page == page && reachesThrough tile y.tile then
      (s.laneErrors tile { lane with slotBad := false }).markOnward tile net page lane
    else s
  | some x =>
    if !nextOnBand s.dram.flight x then s else
    let s : State := { s with dram := { s.dram with flight := s.dram.flight.erase x } }
    let bad := lane.laneBad || lane.slotBad || x.bad
    let live := ((s.tile tile).bow.cur.toList ++ (s.tile tile).bow.nxt.toList).any fun c => c.inst == x.inst
    let slot := (s.tile tile).bow.slots.find? fun p => p.page == page && !p.usable
    let s := (s.laneErrors tile lane).markOnward tile net page lane
    let s := if lane.slotBad then s.exclude tile 3 else s
    match slot, live with
    | some p, true =>
      s.modBow tile fun b => { b with
        received := b.received + 1
        events := if bad then setBit b.events 3 else b.events
        slots := b.slots.map fun y =>
          if y = p then { y with usable := true, fwdDone := true, data := x.data, poisoned := bad } else y }
    | _, _ => s.modBow tile fun b => { b with events := setBit b.events 4 })

/-- The running passes of a tile keep a page they name when its slot is freed, with its mark: they have loaded its blocks
(R304, R320). -/
def Arr.keepPage (a : Arr) (names : PassReq → Bool) (page : Nat) (data : List Byte) (bad : Bool) : Arr :=
  { a with running := a.running.map fun q =>
      if names q then { q with loaded := (page, data) :: q.loaded
                               loadedBad := if bad then page :: q.loadedBad else q.loadedBad } else q }

/-- PAGE_FREE (R304): a marked page whose forwarding is done and which no descriptor pins leaves its slot. -/
def execPageFree (tile page : Nat) (next : Bool) (s : State) : Result :=
  .next (match (s.tile tile).bow.slots.find? fun p => p.page == page && p.next == next && p.marked && p.fwdDone with
  | none => s
  | some p =>
    if pagePinned s tile page then s else
    let names (q : PassReq) : Bool := match s.inst q.inst with
      | some i => passNames (s.net i.job.net) page q
      | none => false
    let s := s.modArr tile fun a => a.keepPage names page p.data p.poisoned
    (s.modBow tile fun b => { b with slots := b.slots.erase p }).pagerRun)

/-- The oldest read of a tile. -/
def State.firstRead (s : State) (tile : Nat) : Option PartRead := s.dram.reads.find? fun r => r.tile == tile

/-- PART_READ_DONE (R311): the tile's oldest part or head read is written to its target, or nothing is and the ticket
completes with TARGET. -/
def execPartReadDone (tile busy : Nat) (s : State) : Result :=
  .next (match s.firstRead tile with
  | none => s
  | some r =>
    match s.inst r.inst with
    | none => { s with dram := { s.dram with reads := s.dram.reads.erase r } }
    | some i =>
      let drop (s : State) : State :=
        let s : State := { s with dram := { s.dram with reads := s.dram.reads.erase r } }
        s.modTc tile fun c => { c with readsOut := c.readsOut - 1 }
      if s.dramLost r.src r.len then s
      else if targetBad s tile i r.handle r.off r.len then (drop s).finishTicket tile 2 r.inst (statusWord 5 0)
      else
        match access s tile i r.handle r.off r.len true with
        | .error _ => s.askRestore tile i r.handle r.off r.len
        | .ok addrs =>
          let bs := memRead 0#8 s.dram.mem r.src r.len
          let s := s.modSpm tile fun p => (p.touch addrs).writeAt addrs bs
          ((drop s).dataBusy busy).finishTicket tile 2 r.inst (statusWord 0 0))

/-- Banks of a channel: log entry 25. -/
def dramBanks : Nat := 16

/-- DRAM_REFRESH (R312): a channel refreshes its next bank; `hits` chunks waited for it. -/
def execDramRefresh (chan hits : Nat) (s : State) : Result :=
  .next (if !s.dram.trained || decide (s.grade.channels ≤ chan) then s else
    let b := tget 0 s.dram.bank chan
    { s with
      dram := { s.dram with bank := tput 0 s.dram.bank chan ((b + 1) % dramBanks)
                            refresh := tput 0 s.dram.refresh chan (b + 1)
                            refreshHits := s.dram.refreshHits + BitVec.ofNat 32 hits }
      pen := { s.pen with acc := { s.pen.acc with refreshHits := s.pen.acc.refreshHits + hits } } })

/-- REFRESH_2X_CHANGE (R61). -/
def execRefresh2xChange (on : Bool) (s : State) : Result :=
  .next { s with dram := { s.dram with refresh2x := on } }

/-- The job of a tile's oldest part read ends FAULT_TILE (R610). -/
def State.failRead (s : State) (tile : Nat) : State :=
  match s.firstRead tile with
  | none => s
  | some r => s.faultInst r.inst tile 0

/-- The owner of a tile's place under restore ends FAULT_TILE (R610). -/
def State.failRestore (s : State) (tile : Nat) : State :=
  match (s.tile tile).spm.restoring with
  | none => s
  | some (e, _, _, _) => s.faultInst ((s.tile tile).spm.ent e).inst tile 0

/-- DRAM_UNCORR_ERROR (R610): the DRAM_UNCORR report, and what the error does to the request that met it. -/
def execDramUncorrError (who : DramClient) (s : State) : Result :=
  .next (match who with
  | .own => s.report 11 0xFF 0
  | .partRead t => (s.report 11 t 0).failRead t
  | .restore t => (s.report 11 t 0).failRestore t
  | .bow net page => (s.report 11 0xFF 0).modStaging fun l => l.map fun e =>
      if e.isPage net page && !e.whole && !e.remote then { e with bad := true } else e
  | .intake k =>
    let s := s.report 11 0xFF 0
    match (s.stream k).engF with
    | some f => s.modFrame f fun x => { x with guard := setBit x.guard 6 }
    | none => s
  | .spill k =>
    let s := s.report 11 0xFF 0
    match tget none s.dram.slots k with
    | some x => { s with dram := { s.dram with slots := tput none s.dram.slots k (some { x with bad := true }) } }
    | none => s
  | .loader => { (s.report 11 0xFF 0) with img := { s.img with dramBad := true } }
  | .hdma =>
    (s.report 11 0xFF 0).hdmaStop 6)

/-- The pages fetched into staging from capo step 7 (R307): page 0 of the lowest-numbered layer with pages, job by job,
until 8 entries are in use. The pager knows the layers of a network whose WEIGHTS section is accepted (R297). -/
def State.prefetch (s : State) (jobs : List JobCfg) : State :=
  if !s.dram.trained then s else
  jobs.foldl (fun s j =>
    match (s.net j.net).layers.find? fun l => l.pageCount != 0 with
    | none => s
    | some l =>
      if !(s.net j.net).wOk || decide (8 ≤ s.dram.staging.length) then s
      else
        let e : Staged := { net := j.net, page := l.firstPage, pre := some j.job }
        let again := s.dram.fetched.contains (j.net, l.firstPage)
        { s with dram := { s.dram with
            staging := s.dram.staging ++ [e], fetches := s.dram.fetches + 1
            refetches := if again then s.dram.refetches + 1 else s.dram.refetches
            events := if again then setBit s.dram.events 5 else s.dram.events
            fetched := if again then s.dram.fetched else s.dram.fetched ++ [(j.net, l.firstPage)] } }) s

/-- Windows, staging and queues emptied (R307 at capo step 3, R323). -/
def State.emptyPager (s : State) : State :=
  let s : State := { s with tiles := s.tiles.map fun (x : Nat × Tile) => (x.1, { x.2 with bow := x.2.bow.endSubs }) }
  { s with dram := { s.dram with queue := [], staging := [], flight := [], reads := [] } }

end Sys2Proof.Machine
end

