-- ==== Sys2Proof/Machine/Rings.lean ====
section
/-!
DEFINITION. The ring engine and the host data path (R412 to R428): taking and committing records, publishing pages,
summaries, write stalls, ring and mirror registers, and host DMA.
-/

namespace Sys2Proof.Machine

/-! ## Records -/

/-- Pages of a ring (R125). -/
def State.ringPages (s : State) (k : Nat) : Nat := 2 ^ s.ringLog2 k

/-- RESULT_LOSS (R443): a record on a safety ring dropped or abandoned. -/
def State.reportLoss (s : State) (k : Nat) : State := if s.safetyRing k then s.report 10 0xFF 0 else s

/-- The ticket of an RPUB record completes, and its unit is given back (R349, R363). -/
def State.recTicket (s : State) (q : RecReq) (code : Nat) : State :=
  if q.own then s
  else
    let s := s.finishTicket q.tile 3 q.inst (statusWord code 0)
    s.modTc q.tile fun c =>
      let c := if q.unitTaken then c.releaseCv q.unit .ring else c
      if c.inst = some q.inst then { c with rpubOut := c.rpubOut - 1 } else c

/-- A record that is not placed (R416, R423, R427): its ticket, and the end of the instance of a FINAL one. `counted` tells
that the pennant's RING_DROPS has it already. -/
def State.loseRecord (s : State) (q : RecReq) (code : Nat) (counted : Bool) : State :=
  let s := s.recTicket q code
  if q.final && !q.own then
    let s : State := if counted then s
      else { s with pen := { s.pen with acc := { s.pen.acc with ringDrops := s.pen.acc.ringDrops + 1 } } }
    s.endInst q.inst 0x16 (BitVec.ofNat 32 (code + 256 * q.ring))
  else s

/-- A record dropped on a full ring (R416, R424). -/
def State.dropRecord (s : State) (q : RecReq) : State :=
  let k := q.ring
  let period := s.prd.count
  let s := s.modRing k fun r => { (r.lose period 1 0) with drops := r.drops + 1, events := setBit r.events 0 }
  let s : State := { s with pen := { s.pen with acc := { s.pen.acc with ringDrops := s.pen.acc.ringDrops + 1 } } }
  ((s.mirrorRing k).reportLoss k).loseRecord q 1 true

/-- A record abandoned in a write stall (R427). -/
def State.abandonRecord (s : State) (q : RecReq) : State :=
  let k := q.ring
  let period := s.prd.count
  let s := s.modRing k fun r => { (r.lose period 0 1) with abandons := r.abandons + 1, events := setBit r.events 1 }
  ((s.stallRing k).reportLoss k).loseRecord q 2 false

/-- Bytes of a page's body (R415). -/
def bodyBytes : Nat := 4032

/-- A page's worth of a record, from its i-th chunk. -/
def chunk (bs : List Byte) (i : Nat) : List Byte := (bs.drop (bodyBytes * i)).take bodyBytes

/-- The pages of a record laid across fresh pages (R415, R416): all but the last closed and published together. -/
def spanPages (s : State) (first k : Nat) (bs : List Byte) (pend : List (Nat × Nat)) : List RingPage :=
  (List.range k).map fun i =>
    { num := (first + i) % 2 ^ 32
      flags := BitVec.ofNat 8 (b2n (decide (i + 1 < k)) + 2 * b2n (decide (0 < i)))
      records := if i = 0 then 1 else 0, used := (chunk bs i).length, first := if i = 0 then 0 else 0xFFFF
      body := chunk bs i, pend := if i = 0 then pend else []
      period := s.prd.count, tClose := BitVec.ofNat 64 s.now, spanNext := decide (i + 1 < k) }

/-- The open page of a ring closes as the CLOSE mode that held when a record was taken calls for after it (R417, R432). -/
def State.closeAfter (s : State) (k mode : Nat) (q : RecReq) : State :=
  if mode = 1 ∨ (mode = 2 ∧ (q.final = true ∨ q.own = true)) then s.closePage k false else s

/-- The record in transfer on a ring is committed (R416): its bytes go to the host, the page holds it, its ticket completes
with 0x00, and a FINAL one may complete its instance (R384). -/
def State.commitRecord (s : State) (k : Nat) : State :=
  match (s.ringOf k).xfer with
  | none => s
  | some x =>
    let q := x.item
    let bs := recBytes s q x.index x.tTake
    let pend := if q.own then [] else [(q.inst, x.off)]
    let s :=
      if x.fresh = 0 then
        let s := s.post (pageAddr s k x.firstPage + 64 + x.off) bs
        s.modRing k fun r => { r with openP := r.openP.map fun p =>
          { p with records := p.records + 1, used := p.used + bs.length, body := p.body ++ bs, pend := p.pend ++ pend
                   first := if p.first = 0xFFFF then x.off else p.first } }
      else
        let ps := spanPages s x.firstPage x.fresh bs pend
        let s : State := ps.foldl (fun s p => s.post (pageAddr s k p.num + 64) p.body) s
        s.modRing k fun r => { r with closed := r.closed ++ ps.dropLast, openP := ps.getLast? }
    let s := s.modRing k fun r => { r with xfer := none, records := r.records + 1 }
    let s := (s.closeAfter k x.close q).recTicket q 0
    if q.final && !q.own then (s.modInst q.inst fun i => { i with finalDone := true }).settle q.inst else s

/-- The summary of a STALLED ring (R425): a fresh page, closed, and published once every earlier page is. -/
def State.placeSummary (s : State) (k : Nat) : State :=
  let r := s.ringOf k
  if !r.run || !r.stalled || !r.summary || s.ring.writeStall || r.closed.any RingPage.isSummary
      || decide (s.ringPages k ≤ r.held) then s
  else
    let lost := satAdd 32 r.sumDropped r.sumAbandoned
    let q : RecReq := { ring := k, status := 0x16, detail := BitVec.ofNat 32 lost, job := 0xFFFF, period := s.prd.count
                        payload := leBytes 4 r.sumDropped ++ leBytes 4 r.sumAbandoned ++ leBytes 4 r.sumFirst.toNat
                          ++ leBytes 4 r.sumLast.toNat }
    let bs := recBytes s q 0 s.now
    let p : RingPage := { num := r.next.toNat, flags := 8#8, records := 1, used := bs.length, first := 0, body := bs
                          period := s.prd.count, tClose := BitVec.ofNat 64 s.now }
    let s := s.closePage k false
    let s := s.post (pageAddr s k p.num + 64) bs
    let s := s.modRing k fun r => { r with
      next := r.next + 1, closed := r.closed ++ [p], records := r.records + 1
      sumDropped := 0, sumAbandoned := 0, sumFirst := 0#32, sumLast := 0#32 }
    s.publishAll k

/-- Posted writes flow again before a stall has begun: the queue goes out. -/
def State.resumePosted (s : State) : State := if s.hostOpen && !s.ring.writeStall then s.drainPosted else s

/-- The host grants or withholds flow-control credit for posted writes (R426). -/
def State.setCredit (s : State) (b : Bool) : State := ({ s with pcie := { s.pcie with credit := b } } : State).resumePosted

/-- The ring engine places, drops or refuses a record (R416). -/
def State.placeRecord (s : State) (q : RecReq) : State :=
  let k := q.ring
  let r := s.ringOf k
  let index := match s.inst q.inst with
    | some i => if q.own then q.place else i.records
    | none => q.place
  let size := recSize q.payload.length
  let s := if q.own then s else s.modInst q.inst fun i => { i with records := i.records + 1 }
  if !r.run then
    (s.modRing k fun r => { r with offDrops := r.offDrops + 1, events := setBit r.events 3 }).loseRecord q 1 false
  else if s.ring.writeStall then s.abandonRecord q
  else if r.stalled then s.dropRecord q
  else
    let fits := match r.openP with
      | some p => decide (p.used + size ≤ bodyBytes)
      | none => false
    if fits then
      s.modRing k fun r => { r with xfer := r.openP.map fun p =>
        { item := q, firstPage := p.num, off := p.used, size := size, index := index, tTake := s.now, close := r.close } }
    else
      let s := s.closePage k false
      let n := (size + bodyBytes - 1) / bodyBytes
      if s.ringPages k < n ∨ 64416 < q.payload.length then
        (s.modRing k fun r => { r with tooLong := r.tooLong + 1, events := setBit r.events 4 }).loseRecord q 3 false
      else if s.ringPages k < r.held + n then (s.stallRing k).dropRecord q
      else
        s.modRing k fun r => { r with
          next := r.next + BitVec.ofNat 32 n
          xfer := some { item := q, firstPage := r.next.toNat, off := 0, size := size, index := index, fresh := n,
                         tTake := s.now, close := r.close } }

/-- Can the engine have the unit of an RPUB record: the thread's own claim, or the unit free and the engine first in its
queue (R363)? -/
def State.unitFree (s : State) (q : RecReq) : Bool :=
  let c := (s.tile q.tile).tc
  c.holdsCv q.unit || ((c.cv q.unit).holder == .none &&
    ((c.waiters q.unit).isEmpty || (c.waiters q.unit).head? == some CvHolder.ring))

/-- The next RPUB record: the oldest of its tile whose unit the engine can have (R348, R418). -/
def State.nextRpub (s : State) : Option RecReq :=
  s.ring.rpub.find? fun q => ((s.ring.rpub.find? fun x => x.tile == q.tile) == some q) && s.unitFree q

/-- The unit claimed for an RPUB record, or the thread's own used; it is left holding the record's running value (R363). -/
def State.claimFor (s : State) (q : RecReq) : State × RecReq :=
  let own := (s.tile q.tile).tc.holdsCv q.unit
  let run := BitVec.ofNat 32 (crc32cFeed 0xFFFFFFFF (q.payload ++ recTrailer28 q))
  let s := s.modTc q.tile fun c =>
    let c := if own then c else (c.claimCv q.unit .ring).1
    c.setRun q.unit run
  (s, { q with unitTaken := !own })

/-- A record the DZ produced itself, taken. -/
def State.takeOwn (s : State) (q : RecReq) : State :=
  let s : State := { s with ring := { s.ring with own := s.ring.own.erase q } }
  (s.placeSummary q.ring).placeRecord q

/-- An RPUB record taken with its unit. -/
def State.takeRpub (s : State) (q : RecReq) : State :=
  let s : State := { s with ring := { s.ring with rpub := s.ring.rpub.erase q } }
  let (s, q) := s.claimFor q
  (s.placeSummary q.ring).placeRecord q

/-- RPUB records enter the engine from their tiles' mesh queues as it has room (R418), and RING_ENGINE_PEAK follows (R433). -/
def State.admitRpub (s : State) : State :=
  let n := min (64 - s.ring.rpub.length) s.ring.rpubWait.length
  let come := (List.range n).zip (s.ring.rpubWait.take n) |>.map fun x => { x.2 with arrival := s.ring.arrivals + x.1 }
  (come.foldl (fun s q => s.askRing q) ({ s with ring := { s.ring with
    rpub := s.ring.rpub ++ come, rpubWait := s.ring.rpubWait.drop n, arrivals := s.ring.arrivals + n } } : State)).notePeakRpub

/-- The ring engine takes its next record while none is in transfer, in the order of arrival (R418): an RPUB record whose
unit it cannot have waits and holds up no other tile. -/
def State.takeRecord (s : State) : State :=
  let s := s.admitRpub
  if s.ring.rings.any fun x => x.2.xfer.isSome then s
  else match s.ring.own.head?, s.nextRpub with
  | some q, some p => if q.arrival < p.arrival then s.takeOwn q else s.takeRpub p
  | some q, none => s.takeOwn q
  | none, some p => s.takeRpub p
  | none, none => s

/-- RECORD_TAKE (R416, R418). -/
def execRecordTake (t : Nat) (s : State) : Result := .next ((s.advanceTo t).takeRecord)

/-- RECORD_COMMIT (R416): while the posted-write queue has room. `credit` tells whether the host grants flow-control credit for
posted writes (R426); with none they wait. -/
def execRecordCommit (ring t : Nat) (s : State) (credit : Bool := true) : Result :=
  .next (
    let s := (s.advanceTo t).setCredit credit
    if 64 ≤ s.ring.posted.length then s else s.commitRecord ring)

/-- PAGE_PUBLISH (R417): the head group of closed pages of a ring, once none is pending. -/
def execPagePublish (ring : Nat) (s : State) : Result := .next (s.publish ring)

/-- SUMMARY_PLACE (R425). -/
def execSummaryPlace (ring t : Nat) (s : State) : Result := .next ((s.advanceTo t).placeSummary ring)

/-- Everything the ring engine holds of records that reached it is taken and committed (R418), where posted writes flow:
what a capo's kills leave for its step 10. -/
def State.drainRings (s : State) : State :=
  let ks := s.ring.rings.map (·.1)
  let commitAll (s : State) : State := ks.foldl State.commitRecord s
  (List.range (s.ring.own.length + s.ring.rpub.length + s.ring.rpubWait.length)).foldl (fun s _ => commitAll s.takeRecord) (commitAll s)

/-- Capo step 10 (R417): every open page that holds a record, or the tail of one, closes with CAPO_CLOSE, and closed pages are published. -/
def State.capoClose (s : State) : State :=
  (s.ring.rings.map (·.1)).foldl (fun s k =>
    (if (s.ringOf k).openHolds then s.closePage k true else s).publishAll k) s

/-! ## Write stalls (R426, R427) -/

/-- A ring's part in the beginning of a write stall (R427): every record of its unpublished pages and the one in transfer
are abandoned, each with its report (R443). -/
def State.stallOne (s : State) (k : Nat) : State :=
  let r := s.ringOf k
  let n := r.pages.foldl (fun n p => n + p.records) 0
  let q := r.xfer.map (·.item)
  let hit := !r.pages.isEmpty || q.isSome
  let lost := n + q.toList.length
  let period := s.prd.count
  let s := s.modRing k fun r =>
    let r := if lost = 0 then r else { (r.lose period 0 lost) with events := setBit r.events 1 }
    { r with next := r.prod, openP := none, closed := [], xfer := none, abandons := r.abandons + BitVec.ofNat 32 lost }
  let s := if hit then s.stallRing k else s
  let s : State := (List.range lost).foldl (fun s _ => s.reportLoss k) s
  match q with
  | some q => s.loseRecord q 2 false
  | none => s

/-- WRITE_STALL_BEGIN (R426, R427): posted writes wait and none is accepted. -/
def execWriteStallBegin (t : Nat) (s : State) : Result :=
  .next (if s.ring.posted.isEmpty || s.hostOpen || s.ring.writeStall then s else
    let s := s.advanceTo t
    let s : State := { s with ring := { s.ring with
      writeStall := true, stalls := s.ring.stalls + 1, gevents := setBit s.ring.gevents 0 } }
    let s : State := (s.ring.rings.map (·.1)).foldl State.stallOne s
    (s.logEv 0x0701 0xFFFF 0).hdmaStop 3)

/-- WRITE_STALL_END (R426, R412): posted writes are accepted again and the queue empties; where a stall had begun, a full
rewrite follows. -/
def execWriteStallEnd (t : Nat) (s : State) : Result :=
  .next (
    let s : State := { s with pcie := { s.pcie with credit := true } }
    if !s.hostOpen then s
    else
      let s := (s.advanceTo t).drainPosted
      if !s.ring.writeStall then s
      else
        let s : State := { s with ring := { s.ring with writeStall := false } }
        (s.logEv 0x0701 0xFFFF 1).fullRewrite)

/-! ## Ring registers (R413, R431, R432) -/

/-- May a register of ring k be written over a path (R413, R561)? -/
def State.ringWritable (s : State) (path : Port) (k : Nat) : Bool :=
  s.reach path && s.ready 10 && decide (k < 256) && s.ringEnabled k

/-- CLOSE as a write leaves it: 3 is reserved and changes nothing (R20, R431). -/
def closeMode (old : Nat) (v : Word) : Nat := if bits v.toNat 2 1 = 3 then old else bits v.toNat 2 1

/-- A write of RING_CTRL (R413, R431). Pages of an earlier run that have not been published when RUN sets again are given up,
since PROD and NEXT restart at 0 (DESIGN CHOICE, log entry 53). -/
def State.writeRingCtrl (s : State) (k : Nat) (v : Word) : State :=
  let was := (s.ringOf k).run
  let now := v.getLsbD 0
  let s := s.modRing k fun r => { r with close := closeMode r.close v }
  if !was && now then
    let s := s.modRing k fun r => { r with
      run := true, prod := 0#32, next := 0#32, cons := 0#32, stalled := false, summary := false, openP := none, closed := [] }
    s.mirrorRing k
  else if was && !now then
    let s := (s.commitRecord k)
    let s := if (s.ringOf k).openHolds then s.closePage k false else s.modRing k fun r => { r with openP := none }
    (s.modRing k fun r => { r with run := false }).mirrorRing k
  else s

/-- RING_RUN_START (R413). -/
def execRingRunStart (path : Port) (ring : Nat) (value : Word) (s : State) : Result :=
  .next (if s.ringWritable path ring then s.writeRingCtrl ring value else s)

/-- RING_RUN_STOP (R413): a record taken for the ring is placed first (R434). -/
def execRingRunStop (path : Port) (ring : Nat) (value : Word) (s : State) : Result :=
  .next (if s.ringWritable path ring then s.writeRingCtrl ring value else s)

/-- RING_BASE_WRITE (R413). -/
def execRingBaseWrite (path : Port) (ring : Nat) (hi : Bool) (value : Word) (s : State) : Result :=
  .next (if !s.ringWritable path ring then s
    else s.modRing ring fun r =>
      if r.run then { r with events := setBit r.events 5 }
      else if hi then { r with base := value ++ r.base.setWidth 32 }
      else { r with base := (r.base >>> 32).setWidth 32 ++ (value &&& 0xFFFFF000#32) })

/-- RING_CONS_WRITE (R432). -/
def execRingConsWrite (path : Port) (ring : Nat) (value : Word) (s : State) : Result :=
  .next (if !s.ringWritable path ring then s
    else s.modRing ring fun r =>
      if !r.run then r
      else if (value - r.cons).toNat ≤ (r.prod - r.cons).toNat then { r with cons := value }
      else { r with events := setBit r.events 2 })

/-- RING_MIRROR_WRITE (R411, R412): a full rewrite when ENABLE sets or the address is written while it is set. -/
def execRingMirrorWrite (path : Port) (hi : Bool) (value : Word) (s : State) : Result :=
  .next (if !s.reach path then s
    else
      let s : State := if hi then { s with ring := { s.ring with mirrorHi := value } }
        else { s with ring := { s.ring with mirrorLo := value &&& 0xFFFFF001#32 } }
      if s.mirrorOn then s.fullRewrite else s)

/-! ## Host DMA (R428) -/

/-- Why a START is refused (R428), 0 where it may run. -/
def State.hdmaRefuse (s : State) : Nat :=
  let src := s.hdma.src.toNat
  let len := s.hdma.len.toNat
  if s.hdma.state = 1 then 5
  else if !s.dram.trained then 2
  else if s.dram.capacityMiB * 2 ^ 20 < src + len ∨ src % 64 ≠ 0 ∨ s.hdma.dst.toNat % 64 ≠ 0 ∨ len % 64 ≠ 0 ∨ len < 64
      ∨ 2 ^ 24 < len then 1
  else 0

/-- HDMA_START (R428): a refused START while a transfer runs leaves it BUSY. -/
def execHdmaStart (path : Port) (value : Word) (s : State) : Result :=
  .next (if !s.pview path || !value.getLsbD 0 then s else
    let c := s.hdmaRefuse
    let h := s.hdma
    if c = 0 then { s with hdma := { h with
        state := 1, code := 0, bytes := 0#32, curSrc := h.src.toNat, curDst := h.dst.toNat, curLen := h.len.toNat } }
    else if c = 5 then { s with hdma := { s.hdma with code := 5 } }
    else { s with hdma := { s.hdma with state := 3, code := c } })

/-- HDMA_ABORT (R428). -/
def execHdmaAbort (path : Port) (value : Word) (s : State) : Result :=
  .next (if s.pview path && value.getLsbD 1 then s.hdmaStop 4 else s)

/-- HDMA_DONE (R428): the whole range has been read and written to the host; a channel out of service gives it no data
(R82). -/
def execHdmaDone (s : State) : Result :=
  .next (if s.hdma.state ≠ 1 ∨ s.hostOpen = false ∨ s.ring.writeStall = true ∨ s.dramLost s.hdma.curSrc s.hdma.curLen then s
    else
      let s := s.hdmaMove s.hdma.curLen
      { s with hdma := { s.hdma with state := 2, code := 0, bytes := BitVec.ofNat 32 s.hdma.curLen } })

end Sys2Proof.Machine
end

