-- ==== Sys2Proof/Machine/Sched.lean ====
section
/-!
DEFINITION. Scheduling (R371 to R399): gangs, binding and release of instances, the admission test, dispatch, overruns and
kills.
-/

namespace Sys2Proof.Machine

/-! ## Gangs (R373) -/

/-- One round of joining: every tile of a set takes the lowest label found in the set. -/
def joinRound (sets : List (List Nat)) (l : FMap Nat) : FMap Nat :=
  sets.foldl (fun l ts =>
    let m := ts.foldl (fun m t => min m (tget 256 l t)) 256
    ts.foldl (fun l t => tput 256 l t m) l) l

/-- The gangs of a plan's tile sets: the lowest tile number of each tile's gang. -/
def gangLabels (sets : List (List Nat)) : FMap Nat :=
  let start : FMap Nat := sets.foldl (fun l ts => ts.foldl (fun l t => tput 256 l t t) l) []
  (List.range (sets.length + 1)).foldl (fun l _ => joinRound sets l) start

/-- Gangs formed for the running plan (R373, R394): SCH_GANG_MAP and SCH_GANGS. -/
def State.formGangs (s : State) : State :=
  let sets := s.plan.jobs.map fun j => (s.net j.net).tileSet
  let l := gangLabels sets
  let map : FMap Nat := l.foldl (fun m x => tput 0 m x.1 (x.2 + 1)) []
  let n := ((List.range 256).filter fun t => l.any fun x => x.2 == t).length
  { s with sch := { s.sch with gangOf := map, gangs := n } }

/-- The gang of a tile set: that of its lowest tile. -/
def State.gangOfTiles (s : State) (ts : List Nat) : Nat := tget 0 s.sch.gangOf (ts.headD 0) - 1

/-! ## Instances and their inputs (R375, R176) -/

/-- The live instance of a job. -/
def State.jobInst (s : State) (job : Nat) : Option Inst := s.sch.insts.find? fun i => i.job.job == job

/-- An identifier that no live instance has, and never 0 (R329; log entry 14). -/
def State.freshInst (s : State) : Nat :=
  ((List.range 65536).find? fun k => !((s.sch.insts.any fun i => i.id == (s.sch.nextInst + k) % 65536)
    || (s.sch.nextInst + k) % 65536 == 0)).elim 1 fun k => (s.sch.nextInst + k) % 65536

/-- An instance created at the release of its period (R375). -/
def State.createInst (s : State) (j : JobCfg) : State :=
  let ts := (s.net j.net).tileSet
  let id := s.freshInst
  let i : Inst := { id := id, job := j, period := s.prd.count, slot := s.prd.slot, b := s.boundaryNs, tiles := ts,
                    gang := s.gangOfTiles ts, classOff := !s.sch.classEff.getLsbD j.cls,
                    paired := s.pairedLink.isSome }
  let s : State := { s with sch := { s.sch with insts := s.sch.insts ++ [i], nextInst := (id + 1) % 65536 } }
  if s.captures i then { s with prd := { s.prd with capReleased := true } } else s

/-- The newest frame of a stream, since it became ready, whose start time is before `t` (R176); 0 for none. -/
def State.newestBefore (s : State) (stream t : Nat) : Nat :=
  (s.strm.frm.filter fun x => x.2.stream == stream && !x.2.pre && decide ((s.stream stream).readyF ≤ x.1) &&
    decide (x.2.start < t)).foldl (fun m x => max m x.1) 0

/-- The input streams of a job: the first, then the extra ones. -/
def JobCfg.inputs (j : JobCfg) : List Nat := j.stream :: j.extra



/-- The input, if any, that by now gives INPUT_LOST (R176): a stream with no frame, a frame dropped, or the first stream's
frame bound again; the frame must have completed. `again` is the frame the previous released instance bound. -/
def State.lostInput (s : State) (i : Inst) (again : Nat) : Option Nat :=
  (List.range i.bound.length).find? fun k =>
    let f := i.bound.getD k 0
    f == 0 || (s.frameDone f && ((s.frame f).state == .dropped || (k == 0 && f == again)))

/-- The first frame bound by an instance that has been released: it has a release time (R39, R176). -/
def State.noteBound (s : State) (i : Inst) : State :=
  { s with sch := { s.sch with
      lastBound := if i.bound.headD 0 = 0 then s.sch.lastBound else tput 0 s.sch.lastBound i.job.job (i.bound.headD 0) } }

/-- An instance in WAIT_INPUT examined (R375): it ends INPUT_LOST or LATE, enters DECIDING, or goes on waiting. -/
def State.examineInputs (s : State) (id : Nat) : State :=
  match s.inst id with
  | none => s
  | some i =>
    if i.st ≠ .waitInput then s else
    match s.lostInput i i.again with
    | some k =>
      let f := i.bound.getD k 0
      let fresh := f != 0 && (s.frame f).state == .dropped && !(k == 0 && f == i.again)
      let s := if fresh then s
        else s.modStream (i.job.inputs.getD k 0) fun x => { x with stale := satAdd 16 x.stale 1 }
      s.endInst id 0x12 (BitVec.ofNat 32 (i.job.inputs.getD k 0 + k * 4096))
    | none =>
      if !i.bound.all s.frameDone then s
      else if i.deadline ≤ s.now then s.endInst id 0x10 3#32
      else
        let deg := i.bound.any fun f => (s.frame f).state == .degraded
        let s := s.modInst id fun i => { i with
          st := .deciding, r := some s.now, degraded := deg, missing := s.missingOf i.bound, bindCheck := s.bindCheckOf i.bound }
        let s := s.noteBound i
        s.queueDecisions (s.inst id).toList

/-- JOB_BIND (R375): at B + release offset a job's instance binds its inputs. -/
def execJobBind (job : Nat) (s : State) : Result :=
  .next (match s.jobInst job with
  | none => s
  | some i =>
    if i.st ≠ .created then s else
    let t := i.b + i.job.releaseUs * 1000
    let s := s.advanceTo t
    if s.now < t then s else
    let bound := i.job.inputs.map fun k => s.newestBefore k t
    let again := tget 0 s.sch.lastBound job
    let s := s.modInst i.id fun i => { i with st := .waitInput, bound := bound, again := again }
    s.examineInputs i.id)

/-! ## The admission test (R377, R378) -/

/-- Remaining time of a running instance at `now`: what is left of W, else what is left to its deadline (R378). -/
def Inst.remaining (i : Inst) (now : Nat) : Nat :=
  if now - i.tStart < i.job.wNs then i.job.wNs - (now - i.tStart) else i.deadline - now

/-- Has the instance not yet reached DECIDING? -/
def Inst.early (i : Inst) : Bool := i.st == .created || i.st == .waitInput

/-- Is it ADMITTED or RUNNING? -/
def Inst.active (i : Inst) : Bool := i.st == .admitted || i.st == .running

/-- The test of R377 for candidate j among the instances of its gang. -/
def admissionTest (l : List Inst) (j : Inst) (now : Nat) : Bool :=
  let l := l.filter fun i => i.gang == j.gang && i.id != j.id
  let a := l.filter Inst.active
  let r0 := l.filter fun i => i.job.cls == 0 && i.early
  let erun := ((a.filter fun i => i.st == .running).map fun i => i.remaining now).foldl (· + ·) 0
  let work := (a.filter fun i => i.st == .admitted) ++ r0 ++ [j]
  let demand (tau : Nat) (fromR0 : Bool) : Nat :=
    now + erun + ((work.filter fun k => decide (k.deadline ≤ tau)).map fun k => k.job.wNs).foldl (· + ·) 0
      + (if fromR0 && decide (tau < j.deadline) then j.job.wNs else 0)
  (a.all fun i => decide (demand i.deadline (r0.any fun k => k.deadline == i.deadline) ≤ i.deadline)) &&
    (r0.all fun i => decide (demand i.deadline true ≤ i.deadline)) &&
    decide (demand j.deadline (r0.any fun k => k.deadline == j.deadline) ≤ j.deadline)

/-- Instances a gang holds in ADMITTED, RUNNING and DEFERRED (R389). -/
def State.gangHeld (s : State) (g : Nat) : Nat :=
  (s.sch.insts.filter fun i => i.gang == g && (i.active || i.st == .deferred)).length

/-- Bits of SCH_EVENTS set. -/
def State.schEvent (s : State) (b : Nat) : State := { s with sch := { s.sch with events := setBit s.sch.events b } }

/-- An instance admitted at its decision instant. -/
def State.admitInst (s : State) (i : Inst) (failed : Bool) : State :=
  let now := s.now
  let c := i.job.cls
  let s := s.modInst i.id fun i => { i with st := .admitted, admitAt := some now, testFailed := failed }
  { s with sch := { s.sch with
      admitC := tput 0#32 s.sch.admitC c (tget 0#32 s.sch.admitC c + 1)
      queuePeak := maxW s.sch.queuePeak (s.gangHeld i.gang) } }

/-- The outcome of the test for an instance, at its first decision or at a re-test (R379, R380). -/
def State.takeDecision (s : State) (i : Inst) : State :=
  let now := s.now
  let ok := admissionTest s.sch.insts i now
  if i.job.cls = 0 then
    let s := if ok then s else (s.schEvent 0).report 16 0xFF 0
    s.admitInst i (!ok)
  else if ok then s.admitInst i false
  else if now < i.latestStart then
    if i.st = .deferred then s
    else
      let c := i.job.cls
      let s := s.modInst i.id fun i => { i with st := .deferred, deferred := true }
      { s with sch := { s.sch with
          deferC := tput 0#32 s.sch.deferC c (tget 0#32 s.sch.deferC c + 1)
          queuePeak := maxW s.sch.queuePeak (s.gangHeld i.gang) } }
  else s.endInst i.id 0x11 1#32

/-- The reasons tested before the test at the first decision (R388, R389). -/
def State.firstDecide (s : State) (i : Inst) : State :=
  let now := s.now
  let s := s.modInst i.id fun i => { i with firstDecision := some now }
  let i := { i with firstDecision := some now }
  let bad := i.tiles.find? fun t => s.excluded t || (s.tile t).spm.diag
  if i.classOff && i.job.cls != 0 then s.endInst i.id 0x11 4#32
  else
    match bad with
    | some t => if i.job.cls = 0 then s.faultInst i.id t 0 else s.endInst i.id 0x11 3#32
    | none =>
      let n := s.gangHeld i.gang
      if i.job.cls = 0 ∧ 64 ≤ n then
        ((((s.schEvent 0).schEvent 2)).report 16 0xFF 0).endInst i.id 0x11 2#32
      else if i.job.cls ≠ 0 ∧ 48 ≤ n then (s.schEvent 2).endInst i.id 0x11 2#32
      else s.takeDecision i

/-- ADMISSION_DECISION (R376): the engine takes the decision at the head of its queue; at the deadline the kill goes ahead
(R395). -/
def execAdmissionDecision (t : Nat) (s : State) : Result :=
  .next (match s.sch.decideQ with
  | [] => s
  | q :: rest =>
    let s : State := (s.advanceTo t)
    let s : State := { s with sch := { s.sch with decideQ := rest } }
    match s.inst q.1 with
    | none => s
    | some i =>
      if i.deadline ≤ s.now then s.killLate i
      else if i.st = .deciding then s.firstDecide i
      else if i.st = .deferred then s.takeDecision i
      else s)

/-- LATEST_START_RETEST (R381): a deferred instance reaches its latest start and is tested again. -/
def execLatestStartRetest (job : Nat) (s : State) : Result :=
  .next (match s.jobInst job with
  | none => s
  | some i =>
    if i.st ≠ .deferred then s
    else (s.advanceTo i.latestStart).queueDecisions [i])

/-! ## Dispatch (R326, R328, R382, R383) -/

/-- The dispatch order: deadline, class, job index (R382). -/
def dispatchBefore (a b : Inst) : Bool :=
  decide (a.deadline < b.deadline) || (a.deadline == b.deadline &&
    (decide (a.job.cls < b.job.cls) || (a.job.cls == b.job.cls && decide (a.job.job < b.job.job))))

/-- The first admitted instance of a gang in dispatch order. -/
def nextDispatch (l : List Inst) : Option Inst :=
  l.foldl (fun m i => match m with
    | none => some i
    | some x => if dispatchBefore i x then some i else some x) none

/-- A core reset for a new thread (R326, R328, R364). -/
def startThread (s : State) (i : Inst) (t : Nat) (c : Tc) : Tc :=
  let w := dispatchWindow s i t
  { (c.toEntry i.id true) with
    inst := some i.id
    pc := BitVec.ofNat 16 (((codeBlocks s i t).map (·.entry)).headD 0)
    wdLow := w.1, wdHigh := w.2, wdBudget := s.img.wdogMarginUs, wdLeft := s.img.wdogMarginUs, wdArmed := true, cyc := 8
    mbox := c.mbox }

/-- Is the gang free: no thread of an instance of it runs (R383)? -/
def State.gangFree (s : State) (g : Nat) : Bool := s.sch.insts.all fun i => i.gang != g || i.running.isEmpty

/-- DISPATCH (R383): a free gang's first admitted instance starts on every tile of its tile set; one at its deadline is
killed instead, and the next is chosen (R395). -/
def execDispatch (gang t : Nat) (s : State) : Result :=
  .next (if s.prd.gen ≠ .run ∨ s.gangFree gang = false then s else
    let s := s.advanceTo t
    let now := s.now
    match nextDispatch (s.sch.insts.filter fun i => i.gang == gang && i.st == .admitted && decide (now < i.deadline)) with
    | none => s
    | some i =>
      let s := s.modInst i.id fun i => { i with st := .running, tStart := now, running := i.tiles, status := i.okStatus }
      i.tiles.foldl (fun s t => s.modTc t (startThread s i t)) s)

/-- OVERRUN_START (R378): a running instance has run its W. -/
def execOverrunStart (job : Nat) (s : State) : Result :=
  .next (match s.jobInst job with
  | none => s
  | some i =>
    if i.st ≠ .running ∨ i.overrun = true then s
    else
      let s := (s.advanceTo (i.tStart + i.job.wNs)).modInst i.id fun i => { i with overrun := true }
      ({ s with sch := { s.sch with overruns := s.sch.overruns + 1 } } : State).schEvent 5)

/-! ## Kills at the deadline (R41, R385) -/

/-- DEADLINE_KILL (R385): an instance reaches its deadline; one whose deadline is the boundary is left to the capo. -/
def execDeadlineKill (job : Nat) (s : State) : Result :=
  .next (match s.jobInst job with
  | none => s
  | some i =>
    if i.job.deadlineUs = s.prd.pUs then s
    else
      let s := s.advanceTo i.deadline
      if s.now < i.deadline then s else s.killLate i)

end Sys2Proof.Machine
end

