-- ==== Sys2Proof/Machine/TileEv.lean ====
section
/-!
DEFINITION. Events of the tiles: passes and memory operations (R234, R235, R243, R275), the scrubber and the allocator
(R276 to R286), spills and restores (R314, R315), messages (R355, R356, R484, R485) and the watchdog (R364).
-/

namespace Sys2Proof.Machine

/-! ## Passes -/

/-- A pass's status word given back and the unit's ticket completed (R349). -/
def State.passDone (s : State) (t : Nat) (q : PassReq) (code : Nat) : State :=
  s.finishTicket t 0 q.inst (statusWord code (Desc.ofBytes q.bytes).tag)

/-- Rejected passes at the head of the started ones complete in their order (R234, R348). -/
def State.flushRejected (s : State) (t : Nat) : Nat → State
  | 0 => s
  | n + 1 =>
    match (s.tile t).arr.running with
    | q :: rest =>
      if 256 ≤ q.ecode then
        ((s.modArr t fun a => { a with running := rest }).passDone t q (q.ecode - 256)).flushRejected t n
      else s
    | [] => s

/-- Load cost of a pass's first step: 32 cycles for a halt load, else what the ripple leaves uncovered (R240, R241). -/
def firstLoad (a : Arr) (d : Desc) : Nat :=
  if d.halt || a.wDomain != d.domain then 32 else 32 - a.lastV

/-- The accumulator entries of a pass marked with its domain, and drained if it drains (R238). -/
def markAcc (a : Arr) (d : Desc) : FMap CellAcc :=
  ((List.range d.entries).map fun e => (List.range 24).map fun c => 512 * c + d.base + e).flatten.foldl
    (fun m k => tput {} m k { (tget {} m k) with dom := d.domain, drained := d.drain != 0 }) a.acc

/-- Do two passes use a common accumulator entry (R245)? -/
def accOverlap (a b : Desc) : Bool := decide (a.base < b.base + b.entries) && decide (b.base < a.base + a.entries)

/-- Has a started pass issued its last vector: are its blocks and its inputs all there (R235)? -/
def passIssued (s : State) (t : Nat) (q : PassReq) : Bool :=
  match s.inst q.inst with
  | none => true
  | some i =>
    let d := Desc.ofBytes q.bytes
    (List.range d.steps).all (fun k => (passBlock s t i q d k).isSome) && (regionRead s t i d.hIn false d.inputs).isSome

/-- Must a pass wait to start behind the passes under way (R235, R245): for its predecessor's last vector, for the drain of
an entry it uses, and a MAC or another pass of the transform unit for that unit? -/
def startWaits (s : State) (t : Nat) (d : Desc) : Bool :=
  let r := (s.tile t).arr.running.filter fun q => decide (q.ecode < 256)
  (match r.getLast? with
   | some q => !passIssued s t q
   | none => false) ||
  r.any fun q =>
    let e := Desc.ofBytes q.bytes
    (e.drain != 0 && accOverlap d e) || (e.isTu && (d.isMac || d.isTu))

/-- The ARR_STATUS.STATE codes a pass under way leaves possible (R256): a pass of the transform unit alone is TU (3); a MAC pass
with no block yet waits (5); with some still to come, of blocks or inputs, it issues (1) or waits; with all it issues, or drains
(2) if it does. -/
def passStates (s : State) (t : Nat) (q : PassReq) : List Nat :=
  let d := Desc.ofBytes q.bytes
  match s.inst q.inst with
  | none => [2]
  | some i =>
    let fed := (regionRead s t i d.hIn false d.inputs).isSome
    if d.isTu then (if fed then [3] else [3, 5])
    else if d.steps != 0 && (passBlock s t i q d 0).isNone then [5]
    else if passIssued s t q then (if d.drain = 0 then [1] else if q.drained ≠ 0 then [2] else [1, 2])
    else [1, 5]

/-- The STATE codes possible for an array outside the sentinel: IDLE with no pass under way. -/
def arrStates (s : State) (t : Nat) : List Nat :=
  match (s.tile t).arr.running.filter fun q => decide (q.ecode < 256) with
  | [] => [0]
  | l => [1, 2, 3, 5].filter fun c => l.any fun q => (passStates s t q).contains c

/-- A block as the cells hold it: its bytes (R228). -/
def blockHeld (d : Desc) (b : Option ((Nat → Byte) × Bool)) : Option (List Byte) :=
  b.map fun f => (List.range d.blockBytes).map f.1

/-- A rejected descriptor (R234, R257): a rejected KEEP invalidates the weight registers (R241). -/
def State.rejectPass (s : State) (t : Nat) (q : PassReq) (rest : List PassReq) (code : Nat) : State :=
  let s := if code = 4 then s.spmFail t .handle else if code = 5 then s.spmFail t .bound else s
  let s := s.modArr t fun a => { a with
    queue := rest, running := a.running ++ [{ q with ecode := 256 + code }], events := setBit a.events 0
    lastErr := statusWord code (Desc.ofBytes q.bytes).tag, keepBad := a.keepBad || code == 9
    wDomain := if code = 9 then 0 else a.wDomain
    active := if code = 9 then none else a.active, shadow := if code = 9 then none else a.shadow }
  s.flushRejected t (s.tile t).arr.running.length

/-- A pass starts (R238, R240, R241): its first block goes to the shadow registers once it is there. -/
def State.startPass (s : State) (t : Nat) (i : Inst) (q : PassReq) (rest : List PassReq) : State :=
  let d := Desc.ofBytes q.bytes
  let first := if d.steps = 0 then (s.tile t).arr.shadow else blockHeld d (passBlock s t i q d 0)
  s.modArr t fun a => { a with
    queue := rest, running := a.running ++ [q], acc := markAcc a d, keepBad := false, shadow := first
    wDomain := if d.isTu then a.wDomain else d.domain
    lastV := if d.isTu then a.lastV else d.seg
    loadStall := if d.isTu then a.loadStall else a.loadStall + BitVec.ofNat 64 (firstLoad a d)
    events := if !d.isTu && !d.halt && a.wDomain != 0 && a.wDomain != d.domain then setBit a.events 1
              else a.events }

/-- PASS_START (R235): the array takes the head of its queue, rejects it with its code, or starts it once R235 lets it. -/
def execPassStart (tile : Nat) (s : State) : Result :=
  .next (match (s.tile tile).arr.queue with
  | [] => s
  | q :: rest =>
    match s.inst q.inst with
    | none => s
    | some i =>
      if s.excluded tile then s else
      let code := checkDesc s tile i q
      if code ≠ 0 then s.rejectPass tile q rest code
      else if startWaits s tile (Desc.ofBytes q.bytes) then s
      else s.startPass tile i q rest)

/-- The frets of a region that ranges of bytes touch. -/
def touchRanges (p : Spm) (pl : List Place) (l : List (Nat × Nat)) : Spm :=
  (placesHit pl.length l).foldl (fun p k =>
    match (pl.getD k (.fret 0)).fretOf with
    | some f => p.modFret f fun x => { x with age := 0 }
    | none => p) p

/-- The places of a handle's region, none where it is bad. -/
def placesOf (s : State) (t : Nat) (i : Inst) (h : Half) (write : Bool) : List Place := (regionOf s t i h write).getD []

/-- The spilled places that ranges of a region reach ask for a fret each (R276). -/
def State.askRanges (s : State) (t : Nat) (i : Inst) (h : Half) (l : List (Nat × Nat)) : State :=
  (placesHit (placesOf s t i h false).length l).foldl (fun s k => s.askRestore t i h (4096 * k) 1) s

/-- Every place a pass is going to reach asks for a fret where it is away. -/
def State.askPass (s : State) (t : Nat) (i : Inst) (d : Desc) : State :=
  let s := (s.askRanges t i d.hIn d.inputs).askRanges t i d.hOut d.outputs
  let s := if d.loc then s.askRanges t i d.hW d.weights else s
  if d.needsEpi then s.askRanges t i d.hEpi d.epiRange else s

/-- Drained bytes put into the output region and the digest (R243, R245, R362). -/
def State.drainPass (s : State) (t : Nat) (i : Inst) (q : PassReq) (d : Desc) (out : List (Nat × Byte)) : State :=
  let pl := placesOf s t i d.hOut true
  let fret (o : Nat) := ((pl.getD (o / 4096) (.fret 0)).fretOf).getD 0
  let addrs := out.map fun x => 4096 * fret x.1 + x.1 % 4096
  let bs := out.map (·.2)
  let s := s.modSpm t fun p => (p.touch addrs).writeAt addrs bs
  s.modTc t fun c =>
    if q.digest.isSome && q.digest == c.digOpen && c.inst == some q.inst && !out.isEmpty then
      { c with digArr := BitVec.ofNat 64 (crc64Feed c.digArr.toNat bs), digArrAny := true,
               digArrData := c.digArrData ++ bs }
    else c

/-- The words of each gather of a pass (R266). -/
def passGathers (s : State) (t : Nat) (i : Inst) (d : Desc) : List (List Nat) :=
  let pl := placesOf s t i d.hIn false
  d.gathers.map (gatherWords (s.tile t).spm pl)

/-- The reads of a pass: frets touched, and the conflicts of its gathers counted by bank (R266, R281). -/
def State.readPass (s : State) (t : Nat) (i : Inst) (d : Desc) (gs : List (List Nat)) : State :=
  s.modSpm t fun p =>
    let p := touchRanges p (placesOf s t i d.hIn false) d.inputs
    let p := if d.loc then touchRanges p (placesOf s t i d.hW false) d.weights else p
    let p := if d.needsEpi then touchRanges p (placesOf s t i d.hEpi false) d.epiRange else p
    gs.foldl Spm.conflictA p

/-- The results of a pass put into the accumulators, the rest of its drain into the output region, its counts and flags
into the ARR registers (R239, R243, R253); its last block stands in both weight registers of the cells (R240). -/
def State.landPass (s : State) (t : Nat) (i : Inst) (q : PassReq) (d : Desc) (r : PassOut) (last : Option (List Byte)) :
    State :=
  let gs := passGathers s t i d
  let s := (s.readPass t i d gs).drainPass t i q d (r.out.drop q.drained)
  let rest := d.steps - 1
  s.modArr t fun a => { a with
    acc := r.acc.foldl (fun m x => tput {} m x.1 { (tget {} m x.1) with val := x.2 }) a.acc
    active := if d.steps = 0 then a.active else last, shadow := if d.steps = 0 then a.shadow else last
    gated := a.gated + BitVec.ofNat 64 r.gated
    issue := a.issue + BitVec.ofNat 64 (d.steps * d.seg)
    loadStall := a.loadStall + BitVec.ofNat 64 (rest * (32 - d.seg))
    waitAct := a.waitAct + BitVec.ofNat 64 (gs.foldl (fun n g => n + extraCycles g) 0)
    events := (let e := if r.wrap then setBit a.events 2 else a.events
               let e := if r.inv then setBit e 3 else e
               if r.ovf then setBit e 4 else e) }

/-- A drain that has come to its byte n (R259, R263): what it has written stays, and the pass goes on. -/
def State.drainTo (s : State) (t : Nat) (i : Inst) (q : PassReq) (rest : List PassReq) (d : Desc) (r : PassOut) (n : Nat) :
    State :=
  let s := s.drainPass t i q d ((r.out.take n).drop q.drained)
  s.modArr t fun a => { a with running := { q with drained := max q.drained n } :: rest }

/-- The cycles a pass has waited, whether or not it goes on now (R239, R261, R316). -/
def State.addWaits (s : State) (a : PassIn) : State :=
  s.modArr a.tile fun x => { x with
    waitWeight := x.waitWeight + BitVec.ofNat 64 a.waitWeight, waitAct := x.waitAct + BitVec.ofNat 64 a.waitAct }

/-- The ECC errors that the drain of a pass meets, counted and shown (R258, R269). -/
def State.passEcc (s : State) (a : PassIn) : State :=
  let s := s.modArr a.tile fun x => { x with
    eccCorr := if a.accCorr then satW x.eccCorr else x.eccCorr
    events := (let e := if a.accCorr then setBit x.events 5 else x.events
               if a.accUncorr then setBit e 6 else e) }
  let s := s.modSpm a.tile fun p => { p with
    eccCorr := if a.spmCorr then satW p.eccCorr else p.eccCorr
    events := (let e := if a.spmCorr then setBit p.events 0 else p.events
               if a.spmUncorr then setBit e 1 else e) }
  if a.accCorr || a.spmCorr then s.reportEccCorr else s

/-- PASS_COMPLETE (R243): the oldest started pass, its blocks in the window and its regions in place, computes and drains,
and at the end of its drain completes its ticket; uncorrectable errors end the job (R258, R269, R320). Where a block or a
place is away the pass waits (R242, R276). -/
def execPassComplete (a : PassIn) (s : State) : Result :=
  .next (match (s.tile a.tile).arr.running with
  | [] => s
  | q :: rest =>
    match s.inst q.inst with
    | none => s
    | some i =>
      let t := a.tile
      let d := Desc.ofBytes q.bytes
      let blocks := (List.range d.steps).mapM fun k => passBlock s t i q d k
      let inp := regionRead s t i d.hIn false d.inputs
      let out := if d.writes then (regionRead s t i d.hOut true d.outputs).isSome else true
      let epi := if d.needsEpi then regionRead s t i d.hEpi false d.epiRange else some fun _ => 0#8
      let s := s.addWaits a
      match blocks, inp, epi, out with
      | some bl, some inp, some epi, true =>
        let s := s.passEcc a
        if bl.any (·.2) then
          let s := s.modBow t fun b => { b with events := setBit b.events 2 }
          let s : State := { s with dram := { s.dram with events := setBit s.dram.events 3 } }
          s.faultInst q.inst t 0
        else if a.accUncorr then ((s.report 1 t 0).exclude t 3).faultInst q.inst t 0
        else if a.spmUncorr then (s.report 1 t 0).faultInst q.inst t 0
        else
          let blk (k o : Nat) : Byte := match bl[k]? with
            | some b => b.1 o
            | none => 0#8
          let r := runPass (s.tile t).arr d blk inp epi
          match a.upTo with
          | some n => s.drainTo t i q rest d r n
          | none =>
            let s := s.landPass t i q d r (blockHeld d bl.getLast?)
            let s := s.modArr t fun x => { x with running := rest, passes := x.passes + 1 }
            (s.passDone t q 0).flushRejected t rest.length
      | _, _, _, _ => s.askPass t i d)

/-! ## Memory operations (R274, R275, R352) -/

/-- The code of a memory operation's descriptor, 0 for none (R352). -/
def memOpCode (s : State) (t : Nat) (i : Inst) (d : List Byte) : Nat :=
  let copy := field d 0 1 == 1
  let dst := BitVec.ofNat 16 (field d 4 2)
  let src := BitVec.ofNat 16 (field d 6 2)
  let n := field d 0x10 4
  if 1 < field d 0 1 then 1
  else if badHandle s t i dst true || (copy && badHandle s t i src false) then 4
  else if pastEnd s t i dst true (field d 8 4 + n) || (copy && pastEnd s t i src false (field d 0x0C 4 + n))
      || !decide (4 ≤ n ∧ n ≤ 262144) then 5
  else if field d 8 4 % 4 ≠ 0 ∨ n % 4 ≠ 0 ∨ (copy = true ∧ field d 0x0C 4 % 4 ≠ 0) then 6
  else if field d 1 3 ≠ 0 ∨ field d 0x1C 4 ≠ 0 ∨ (copy = true ∧ field d 0x14 4 ≠ 0)
      ∨ (copy = false ∧ (src ≠ 0#16 ∨ field d 0x0C 4 ≠ 0)) then 0x0B
  else 0

/-- The 64-bit words that a write covers only in part, first the lower one (R269): a range of a region has them only at its
ends. -/
def partWords (addrs : List Nat) : List Nat :=
  ((addrs.head?.toList ++ addrs.getLast?.toList).map (· / 8)).eraseDups.filter fun w =>
    (addrs.filter fun a => a / 8 == w).length != 8

/-- The words of a COPY whose source and destination lie in one bank: the engine needs two cycles for each (R266, R274). -/
def copyConflicts (sa da : List Nat) : List (List Nat) :=
  (List.range ((da.length + 31) / 32)).map fun k => wordsAt [sa.getD (32 * k) 0, da.getD (32 * k) 0]

/-- An uncorrectable error that a memory operation reads ends its job (R269). -/
def State.memopFault (s : State) (t id : Nat) : State :=
  ((s.modSpm t fun p => { p with events := setBit p.events 1 }).report 1 t 0).faultInst id t 0

/-- MEMOP_COMPLETE (R275): the oldest memory operation of the tile is done, or is refused with its code. `ecc` is what its
reads meet (R269): 0 nothing, 1 a corrected and 2 an uncorrectable error of the source, 3 a corrected and 4 an uncorrectable
error of the first destination word that is written only in part: that word is left unwritten. -/
def execMemopComplete (tile ecc : Nat) (s : State) : Result :=
  .next (match (s.tile tile).spm.memQ with
  | [] => s
  | m :: rest =>
    match s.inst m.inst with
    | none => s
    | some i =>
      let d := m.bytes
      let copy := field d 0 1 == 1
      let dst := BitVec.ofNat 16 (field d 4 2)
      let src := BitVec.ofNat 16 (field d 6 2)
      let n := field d 0x10 4
      let tag := field d 0x18 4
      let finish (s : State) (code : Nat) : State :=
        (s.modSpm tile fun p => { p with memQ := rest }).finishTicket tile 1 m.inst (statusWord code tag)
      let code := memOpCode s tile i d
      if code ≠ 0 then
        finish (if code = 4 then s.spmFail tile .handle else if code = 5 then s.spmFail tile .bound else s) code
      else
        match access s tile i dst (field d 8 4) n true,
              (if copy then access s tile i src (field d 0x0C 4) n false else .ok []) with
        | .ok da, .ok sa =>
          if copy && ecc == 2 then s.memopFault tile m.inst
          else
            let part := partWords da
            let s := if (copy && ecc == 1) || (!part.isEmpty && ecc == 3) then
                (s.modSpm tile fun p => { p with events := setBit p.events 0, eccCorr := satW p.eccCorr }).reportEccCorr
              else s
            let pat := leBytes 4 (field d 0x14 4)
            let bs := if copy then (s.tile tile).spm.readAt sa else (List.range n).map fun k => pat.getD (k % 4) 0#8
            let s := if copy then s.modSpm tile fun p => (copyConflicts sa da).foldl Spm.conflictA p else s
            if !part.isEmpty && ecc == 4 then
              let kept := (da.zip bs).filter fun x => x.1 / 8 != part.headD 0
              (s.modSpm tile fun p => ((p.touch sa).touch da).writeAt (kept.map (·.1)) (kept.map (·.2))).memopFault tile m.inst
            else finish (s.modSpm tile fun p => ((p.touch sa).touch da).writeAt da bs) 0
        | _, _ => (s.askRestore tile i dst (field d 8 4) n).askRestore tile i src (field d 0x0C 4) n)

/-! ## The scrubber, the allocator, spills and restores -/

/-- SCRUB_FRET_DONE (R286). -/
def execScrubFretDone (tile : Nat) (s : State) : Result := .next (s.scrubOne tile)

/-- ALLOC_REQUEST_DECISION (R280 to R284): while the capo sequencer holds the allocators nothing is decided (R291). -/
def execAllocRequestDecision (tile t : Nat) (s : State) : Result :=
  .next (if s.prd.gen = .capo then s else ((s.advanceTo t).allocOne tile).notePeak)

/-- A fret's bytes into a spill slot, with their CRC-32C; a poisoned slot takes none (R314, R315). -/
def State.fillSlot (s : State) (tile k : Nat) (bs : List Byte) : State :=
  let slot : SpillSlot := { ((tget none s.dram.slots k).getD {}) with crc := crc32c bs, tile := tile }
  let mem := if slot.bad then s.dram.mem else memWrite 0#8 s.dram.mem (s.dram.slotBase + 4096 * k) bs
  { s with dram := { s.dram with mem := mem, slots := tput none s.dram.slots k (some slot) } }

/-- SPILL_COMPLETE (R314): the victim's content and its CRC-32C go to the slot, and the fret becomes DIRTY. `ecc` is what
the read of the fret meets (R269): 0 nothing, 1 a corrected error, 2 an uncorrectable one, which ends the owner. -/
def execSpillComplete (tile ecc : Nat) (s : State) : Result :=
  .next (match (s.tile tile).spm.spilling with
  | [] => s
  | x :: rest =>
    let p := (s.tile tile).spm
    if s.dramLost (s.dram.slotBase + 4096 * x.slot) 4096 then s
    else if ecc = 2 then
      ((s.modSpm tile fun p => { p with events := setBit p.events 1 }).report 1 tile 0).faultInst (p.ent x.entry).inst tile 0
    else
      let s := if ecc = 1 then
          (s.modSpm tile fun p => { p with events := setBit p.events 0, eccCorr := satW p.eccCorr }).reportEccCorr
        else s
      let bs := memRead 0#8 p.mem (4096 * x.fret) 4096
      let s := s.fillSlot tile x.slot bs
      let move (y : Place) : Place := if y = .fret x.fret then .spilled x.slot else y
      (s.moveBusy 4096).modSpm tile fun p =>
        let p : Spm := { p with spilling := rest, spills := p.spills + 1 }
        let ent : RegEnt := { (p.ent x.entry) with places := (p.ent x.entry).places.map move }
        let p : Spm := { p with ents := tput {} p.ents x.entry ent }
        p.dirty [x.fret])

/-- A restore that fails its check (R315): SPILL_BAD, the SPILL report, the owner ends FAULT_TILE. -/
def State.restoreFails (s : State) (tile e : Nat) : State :=
  let s : State := { s with dram := { s.dram with events := setBit s.dram.events 2 } }
  (s.report 6 tile 0).faultInst ((s.tile tile).spm.ent e).inst tile 0

/-- RESTORE_COMPLETE (R315): the slot's CRC-32C is checked, the place remapped and the slot freed. -/
def execRestoreComplete (tile : Nat) (s : State) : Result :=
  .next (match (s.tile tile).spm.restoring with
  | none => s
  | some (e, k, slot, f) =>
    if s.dramLost (s.dram.slotBase + 4096 * slot) 4096 then s else
    let bs := memRead 0#8 s.dram.mem (s.dram.slotBase + 4096 * slot) 4096
    match tget none s.dram.slots slot with
    | none => s
    | some x =>
      let s := s.moveBusy 4096
      if x.bad || x.crc != crc32c bs then s.restoreFails tile e
      else
        (s.modSpm tile fun p => { p with
          mem := memWrite 0#8 p.mem (4096 * f) bs, restores := p.restores + 1
          ents := tput {} p.ents e { (p.ent e) with places := (p.ent e).places.set k (.fret f) } }).freeSlot slot)

/-- FRET_AGE_TICK (R281): every fret of every tile ages, saturating at 255. -/
def execFretAgeTick (s : State) : Result :=
  .next (s.grade.tiles.foldl (fun s t => s.modSpm t fun p =>
    (List.range 96).foldl (fun p f => p.modFret f fun x => { x with age := min 255 (x.age + 1) }) p) s)

/-! ## Messages -/

/-- x and y of a tray position (R463): bit 0. -/
def posX (p : Nat) : Nat := p % 2
/-- y of a tray position. -/
def posY (p : Nat) : Nat := p / 2 % 2

/-- Is the tile a portal of the link: on its facing edge (R484)? -/
def isPortal (s : State) (k t : Nat) : Bool :=
  let g := s.grade.side
  let p := (s.linkCfg k).peerPos
  if k = 0 then t % 16 == (if posX (modPos s) < posX p then g - 1 else 0)
  else t / 16 == (if posY (modPos s) < posY p then g - 1 else 0)

/-- The mirror of a portal tile: same row over link 0, same column over link 1 (R484). -/
def mirrorTile (s : State) (k t : Nat) : Nat :=
  let g := s.grade.side
  if k = 0 then t / 16 * 16 + (if t % 16 = 0 then g - 1 else 0) else (if t / 16 = 0 then g - 1 else 0) * 16 + t % 16

/-- The link a mailbox of a tile leads over, if it is remote (R484). -/
def remoteLink (s : State) (t mbox : Nat) : Option Nat :=
  if mbox < 6 then none
  else (List.range s.grade.links).find? fun k => (s.linkCfg k).mode == 2 && (s.link k).linked && isPortal s k t

/-- A message discarded on a link. -/
def State.linkDiscard (s : State) (k : Nat) : State :=
  s.modLink k fun l => { l with msgDiscards := l.msgDiscards + 1, events := setBit l.events 6 }

/-- The fenced link whose remote mailbox this would be (R484, R488): it discards. -/
def fencedLink (s : State) (t mbox : Nat) : Option Nat :=
  if mbox < 6 then none
  else (List.range s.grade.links).find? fun k => (s.linkCfg k).mode == 2 && s.crs.fence.getLsbD k && isPortal s k t

/-- A message discarded, counted at a tile (R356). -/
def State.discardMsg (s : State) (t : Nat) : State :=
  s.modTc t fun c => { c with msgDiscards := c.msgDiscards + 1, events := setBit c.events 5 }

/-- A message back at its sender's router (R356). -/
def State.returnMsg (s : State) (m : Msg) : State :=
  if (s.inst m.inst).isNone then s.discardMsg m.src
  else s.modTc m.src fun c => { c with returned := c.returned ++ [m], msgRetries := c.msgRetries + 1,
                                       events := setBit c.events 4 }

/-- The two flits of a message (R466): destination, mailbox and source, JOB, PERIOD, payload. -/
def msgPayloads (r : RemMsg) : List Byte × List Byte :=
  let d := leBytes 32 r.msg.data.toNat
  (leBytes 1 r.msg.dst ++ leBytes 1 r.msg.mbox ++ leBytes 1 r.msg.src ++ [0#8] ++ leBytes 2 r.job ++ leBytes 4 r.period.toNat
    ++ d.take 16, d.drop 16)

/-- Outgoing messages of a link sent as MSG pairs while the peer holds none back and two flits have room (R467, R485). -/
def State.pumpMsgs (s : State) (k : Nat) : Nat → State
  | 0 => s
  | n + 1 =>
    let l := s.link k
    match l.outQ with
    | [] => s
    | r :: rest =>
      if !l.peerHold && decide (l.held.length ≤ 62) && l.txQ.isEmpty && s.linkSends k then
        let s := s.modLink k fun l => { l with outQ := rest }
        ((s.sendFlit k 5 (msgPayloads r).1).sendFlit k 6 (msgPayloads r).2).pumpMsgs k n
      else s

/-- A message that reached its destination tile's mailbox, or its return (R355, R356). -/
def State.deliver (s : State) (m : Msg) : State :=
  match s.inst m.inst with
  | none => s.discardMsg m.dst
  | some i =>
    match fencedLink s m.dst m.mbox with
    | some k => s.linkDiscard k
    | none =>
    match remoteLink s m.dst m.mbox with
    | some k =>
      if 16 ≤ (s.link k).outQ.length then s.returnMsg m
      else
        let r : RemMsg := { msg := { m with dst := mirrorTile s k m.dst }, job := i.job.job, period := i.period }
        let s := s.modLink k fun l => { l with outQ := l.outQ ++ [r] }
        s.pumpMsgs k 16
    | none =>
      if i.tiles.contains m.dst && !i.running.contains m.dst then s.discardMsg m.dst
      else if 4 ≤ (tget [] (s.tile m.dst).tc.mbox m.mbox).length then s.returnMsg m
      else s.modTc m.dst fun c => { c with mbox := tput [] c.mbox m.mbox (tget [] c.mbox m.mbox ++ [m]) }

/-- Would the message be returned on arrival (R356, R485)? -/
def bounces (s : State) (m : Msg) : Bool :=
  match s.inst m.inst with
  | none => false
  | some i =>
    if (fencedLink s m.dst m.mbox).isSome then false
    else match remoteLink s m.dst m.mbox with
    | some k => decide (16 ≤ (s.link k).outQ.length)
    | none => !(i.tiles.contains m.dst && !i.running.contains m.dst) &&
        decide (4 ≤ (tget [] (s.tile m.dst).tc.mbox m.mbox).length)

/-- Must the message stay where it is: behind an earlier one of its sender to its mailbox that has been returned (R357), or
because its return would be the third that its router holds (R356)? -/
def heldBack (s : State) (m : Msg) : Bool :=
  let r := (s.tile m.src).tc.returned
  (r.any fun x => x.dst == m.dst && x.mbox == m.mbox) || (bounces s m && decide (2 ≤ r.length))

/-- An error of a message lane (R443, R445): a single one is corrected and counted; a double one is reported, loses the
message and ends the job that was to read it. -/
def State.laneError (s : State) (m : Msg) (ecc : Nat) : State :=
  if ecc = 1 then s.reportEccCorr.deliver m
  else
    let s := s.report 1 m.dst 0
    if (s.inst m.inst).isNone then s.discardMsg m.dst else s.faultInst m.inst m.dst 0

/-- MSG_ARRIVE (R355): the oldest message on its way from the source to the mailbox arrives; `ecc` is what its lanes meet:
0 nothing, 1 a corrected error, 2 an uncorrectable one. -/
def execMsgArrive (src dst mbox : Nat) (s : State) (ecc : Nat := 0) : Result :=
  .next (match s.flight.find? fun m => m.src == src && m.dst == dst && m.mbox == mbox with
  | none => s
  | some m =>
    if heldBack s m then s
    else
      let s : State := { s with flight := s.flight.erase m }
      if ecc = 0 then s.deliver m else s.laneError m ecc)

/-- MSG_RETRY (R356): the oldest message a router holds is sent again, before every later one (R357). -/
def execMsgRetry (tile : Nat) (s : State) : Result :=
  .next (match (s.tile tile).tc.returned with
  | [] => s
  | m :: rest =>
    let s := s.modTc tile fun c => { c with returned := rest }
    { s with flight := m :: s.flight })

/-- WDOG_EXPIRE (R364): the budget of a running thread runs out, and WDOG is raised at the instruction next to issue. -/
def execWdogExpire (tile : Nat) (s : State) : Result :=
  .next (match (s.tile tile).tc.inst with
  | none => s
  | some id =>
    if !(s.tile tile).tc.wdArmed then s else
    (s.modTc tile fun c => { c with wdLeft := 0 }).tcException tile id 7 (s.wordAtPc tile) 0)

end Sys2Proof.Machine
end

