-- ==== Sys2Proof/Machine/Capo.lean ====
section
/-!
DEFINITION. The capo (R43 to R73): the boundary with its steps 1 to 10, the release, and the period abort; the absent set
and the plan switch (R391 to R393), linked and matched periods (R476, R477), the sentinel, the pennant and the digest log.
-/

namespace Sys2Proof.Machine

/-! ## The absent set (R391 to R393, R478) -/

/-- Step 1: S sampled into E (R392), and the plan instance chosen when E changes (R393). S is what it was before the instant
of the boundary (R395). The first boundary always starts instance 0 (R132): a variant chosen there runs from the next one
(log entry 39). -/
def State.sampleAbsent (s : State) (first : Bool) : State :=
  let m := s.seen.absent
  let e := m ||| (s.sch.eff &&& (s.sch.sampled ||| s.sch.prevSample1))
  let old := s.sch.eff
  let s : State := { s with sch := { s.sch with sampled := m, prevSample1 := s.sch.sampled, eff := e } }
  if e = old ∧ s.prd.chooseDue = false then s
  else
    match s.choosePlan with
    | some p =>
      let other := p != s.sch.plan
      { s with sch := { s.sch with noVariant := false }
               prd := { s.prd with switched := other && !first, chooseDue := other && first } }
    | none =>
      let s : State := { s with sch := { s.sch with noVariant := true }
                                prd := { s.prd with switched := false, chooseDue := false } }
      (s.schEvent 4).logEv 0x0305 0xFFFF e.toNat

/-- The slot of the period beginning. -/
def State.nextSlot (s : State) : Nat := if s.prd.switched then 0 else s.prd.slot

/-! ## Linked and matched periods (R476, R477) -/

/-- A BOUNDARY flit for the period beginning, on every UP link (R476, step 2). -/
def State.sendBoundaries (s : State) : State :=
  let plan := tget {} s.img.plans s.nextPlan
  s.upLinks.foldl (fun s k => s.sendFlit k 2 (leBytes 4 s.prd.count.toNat ++ leBytes 8 s.prd.boundary.toNat
    ++ leBytes 2 plan.planId.toNat ++ leBytes 1 s.nextPlan ++ leBytes 1 s.nextSlot)) s

/-- The distance of two device times of 64 bits, across the wrap of R13 too. -/
def tDist (a b : DWord) : Nat := min (a - b).toNat (b - a).toNat

/-- PLAN_SKEW (R477, R482): the MISMATCH report with its log entry, whose job, layer and digests the spec does not state:
free values. -/
def State.planSkew (s : State) (k : Nat) : State :=
  let (f, s) := s.takeFree
  let (a, s) := s.takeFree
  let (b, s) := s.takeFree
  let job := f.toNat % 65536
  let layer := f.toNat / 65536 % 65536
  let s := s.logMismatch { period := s.prd.count, job := job, layer := layer, cause := 5, link := k, own := a, peer := b }
  let s := s.modLink k fun l => { l with events := setBit l.events 5 }
  let s := (s.logEv 0x0603 k (job + layer * 2 ^ 16 + 5 * 2 ^ 32)).report 9 0xFF 5
  { s with pen := { s.pen with acc := { s.pen.acc with mismatch := true } } }

/-- The period on a link becomes linked, and matched where PLAN_ID, instance and slot agree (R477); with the instances equal
and the slots apart, the side with the higher MOD_POS takes the peer's slot at the release. -/
def State.linkPeriod (s : State) (k : Nat) (b : BndInfo) : State :=
  let plan := tget {} s.img.plans s.nextPlan
  let idOk := b.planId == plan.planId
  let instOk := b.inst == s.nextPlan
  let slotOk := b.slot == s.nextSlot
  let skew := (s.link k).skew
  let matched := idOk && instOk
  let s := s.modLink k fun l => { l with linked := true, matched := matched, skew := if idOk then 0 else skew + 1 }
  let s : State := if matched && !slotOk && decide ((s.linkCfg k).peerPos < modPos s) then
      { s with crs := { s.crs with adoptSlot := some b.slot } }
    else s
  let s : State := if matched && (s.linkCfg k).mode == 1 then
      { s with crs := { s.crs with pairHist := setBit s.crs.pairHist 0 } }
    else s
  if !idOk && decide (4 ≤ skew) then s.planSkew k else s

/-- The peer's BOUNDARY flit checked against the boundary under way (R476): the same grid point within 1 µs, and the same
PERIOD difference as before. -/
def State.evalLink (s : State) (k : Nat) (b : BndInfo) : State :=
  let l := s.link k
  let d := b.period - s.prd.count
  if l.st ≠ .up ∨ 1000 < tDist b.boundary s.prd.boundary then s.unlink k
  else if l.deltaSet && l.delta != d then (s.unlink k).modLink k fun l => { l with deltaSet := false }
  else (s.modLink k fun l => { l with delta := d, deltaSet := true }).linkPeriod k b

/-- Flits stored before the boundary are checked at it; one for another grid point is dropped (R476). -/
def State.evalStored (s : State) : State :=
  (List.range s.grade.links).foldl (fun s k =>
    match (s.link k).peerBnd with
    | none => s
    | some b =>
      if tDist b.boundary s.prd.boundary < s.prd.pUs * 500 then s.evalLink k b
      else s.modLink k fun l => { l with peerBnd := none }) s

/-- At the release a link with no BOUNDARY flit for this boundary is not linked (R476). -/
def State.closeLinkEval (s : State) : State :=
  (List.range s.grade.links).foldl (fun s k =>
    let s := if (s.link k).peerBnd.isNone && (s.linkCfg k).mode != 0 then s.unlink k else s
    s.modLink k fun l => { l with peerBnd := none }) s

/-! ## Steps 3 to 7 -/

/-- Does one who waits for a unit go on waiting over a capo (R205): intake and the injector? -/
def CvHolder.stays (h : CvHolder) : Bool := h.isIntake || h == .inject

/-- Step 5: a core back at its entry point with its mailboxes empty; a unit stays with intake, and with the ring engine for
a record in transfer (R43, R45). -/
def capoCore (s : State) (t : Nat) (c : Tc) : Tc :=
  let c := c.toEntry 0 true
  let keep (u : Nat) : Bool := (c.cv u).holder.isIntake || ((c.cv u).holder == .ring && s.ringHolds t u)
  { c with mbox := [], cv0 := if keep 0 then c.cv0 else {}, cv1 := if keep 1 then c.cv1 else {}
           cvWait := c.cvWait.filter CvHolder.stays, cvWait1 := c.cvWait1.filter CvHolder.stays }

/-- Steps 4 and 5 on every tile of the grade: arrays cleared (R43), cores at their entry points, returned messages gone. -/
def State.clearTiles (s : State) : State :=
  let s : State := { s with flight := [] }
  s.grade.tiles.foldl (fun s t =>
    s.modTile t fun x => { x with arr := x.arr.clear, tc := { (capoCore s t x.tc) with returned := [] } }) s

/-- The entry of a placement that holds a fret. -/
def placeOf (pl : List (RegionCfg × List Nat × List Nat)) (f : Nat) : Option (RegionCfg × List Nat × List Nat) :=
  pl.find? fun x => x.2.1.contains f || x.2.2.contains f

/-- Does the persistent fret keep its region over a plan switch: index, kind, size and placement unchanged (R292)? -/
def keepsFret (old new : List (RegionCfg × List Nat × List Nat)) (f : Nat) : Bool :=
  match placeOf old f, placeOf new f with
  | some a, some b => a.1.region == b.1.region && a.1.kind == b.1.kind && a.1.frets == b.1.frets && a.2 == b.2
  | _, _ => false

/-- Step 6 on a tile (R291, R292): every GRANTED and SPILLING fret becomes DIRTY, and on a plan switch every persistent fret
that keeps no region, but a LANDING one that still holds lines; granted entries end and spill slots are released. -/
def State.dirtyAll (s : State) (t : Nat) : State :=
  let p := (s.tile t).spm
  let s := s.endEntries t ((p.ents.filter fun e => e.2.live).map fun e => e.1)
  let s := s.modSpm t fun p => { p with reqs := [], memQ := [], spilling := [] }
  let p := (s.tile t).spm
  let old := s.plan.placement t
  let new := (tget {} s.img.plans s.nextPlan).placement t
  let gone := (List.range 96).filter fun f =>
    let x := p.fret f
    x.st == .granted || x.st == .spilling ||
      (s.prd.switched && !keepsFret old new f &&
        (x.st == .state || (x.st == .landing && !s.holdsLine x.stream t f)))
  s.modSpm t fun p => p.dirty gone

/-- The bytes of frets set to zero. -/
def Spm.zero (p : Spm) (fs : List Nat) : Spm := { p with mem := p.mem.filter fun c => !fs.contains (c.1 / 4096) }

/-- Step 7 on one STATE region (R49, R73): it commits if its writer ended below 0x10 on a tile not excluded; a failed writer
leaves CUR and has NEXT zeroed; a writer that was not released changes nothing. -/
def State.commitRegion (s : State) (t : Nat) (r : StateReg) : StateReg × List Nat :=
  let e := tget 0 s.sch.ended r.writer
  if e = 0 then (r, [])
  else if e - 1 < 0x10 ∧ s.excluded t = false then ({ r with cur := r.nxt, nxt := r.cur, gen := r.gen + 1 }, [])
  else (r, r.nxt)

/-- Step 7 on a tile: STATE regions commit. -/
def State.commitTile (s : State) (t : Nat) : State :=
  let l := (s.tile t).spm.states.map (s.commitRegion t)
  s.modSpm t fun p => { (p.zero (l.map (·.2)).flatten) with states := l.map (·.1) }

/-- The STATE regions of the plan that the release runs (R273, R277, R292): one that keeps its frets keeps its content; a new
one starts with both copies zero and generation counter 0. -/
def State.placeStates (s : State) (t : Nat) : State :=
  let pl := ((tget {} s.img.plans s.nextPlan).placement t).filter fun x => x.1.kind == 0
  let old := (s.tile t).spm.states
  let one (x : RegionCfg × List Nat × List Nat) : StateReg :=
    let fs := x.2.1 ++ x.2.2
    match old.find? fun r => r.region == x.1.region && (r.cur ++ r.nxt).all fs.contains && r.cur.length == x.1.frets with
    | some r => { r with writer := x.1.writer }
    | none => { region := x.1.region, writer := x.1.writer, cur := x.2.1, nxt := x.2.2, gen := 0#32 }
  s.modSpm t fun p => { p with states := pl.map one }

/-- The persistent frets that are FREE claimed for the plan that the release runs (R292), and its STATE regions set up. -/
def State.placeTile (s : State) (t : Nat) : State :=
  let s := s.placeStates t
  (List.range 96).foldl (fun s f => s.claimFret t f) s

/-- The jobs of the slot beginning, in ascending deadline offset and then index (R307). -/
def insJob (x : JobCfg) : List JobCfg → List JobCfg
  | [] => [x]
  | y :: l =>
    if x.deadlineUs < y.deadlineUs ∨ (x.deadlineUs = y.deadlineUs ∧ x.job < y.job) then x :: y :: l else y :: insJob x l

/-- The jobs of a plan whose slot mask selects a slot. -/
def PlanCfg.jobsOf (p : PlanCfg) (slot : Nat) : List JobCfg := p.jobs.filter fun j => j.mask.getLsbD slot

/-- Steps 3 to 7 after the kills: pager, arrays, cores, rings, frets, commit, scrub. Tiles in `late` do not finish. -/
def State.capoClear (s : State) (late : List Nat) : State :=
  let s : State := { s.emptyPager with sch := { s.sch with decideQ := [] } }
  let s := s.clearTiles.drainRings
  let ts := s.grade.tiles
  let s : State := ts.foldl State.dirtyAll s
  let s : State := ts.foldl State.commitTile s
  let s : State := { s with sch := { s.sch with ended := [] } }
  let s : State := ts.foldl State.placeTile s
  (ts.filter fun t => !late.contains t).foldl State.scrubAll s

/-! ## Steps 6 and 8: late steps and the sentinel (R69, R254, R446, R454) -/

/-- Tiles that missed a step, and a step missed by no tile of its own (R69); injection 0x0B (R454). -/
def State.checkSteps (s : State) (a : CapoIn) : State :=
  let s : State := (a.lateTiles.filter s.grade.hasTile).foldl (fun s t => (s.report 4 t 0).exclude t 2) s
  let s := if a.lateStep then s.report 4 0xFF 0 else s
  if s.saf.injCode == 0x0B && s.saf.injState == .armed then
    let s := s.applyInj
    if a.silentStep then s.endInj .missed
    else (s.injTiles.foldl (fun s t => s.report 4 t 0 true) s).endInj .detected
  else s

/-- The sub-passes that ended with a value other than the ROM's on a tile, in order, with the value (R254). -/
def sentinelFails (a : CapoIn) (t : Nat) : List (Nat × DWord) :=
  (List.range 3).filterMap fun u =>
    (a.sentinel.find? fun x => x.1 == t && x.2.1 == u && x.2.2 != Config.sentinelCrc u).map fun x => (u, x.2.2)

/-- A failed sentinel on a tile (R46, R254, R256): the map, the bit of every sub-pass that failed, the CRC of the first. -/
def State.failSentinel (s : State) (t : Nat) (fails : List (Nat × DWord)) : State :=
  let s : State := { s with pen := { s.pen with acc := { s.pen.acc with sentinel := setBit s.pen.acc.sentinel t } } }
  s.modArr t fun x => { x with
    events := fails.foldl (fun e y => setBit e (7 + y.1)) x.events, sentHist := x.sentHist <<< 1
    sentCrc := (fails.map (·.2)).headD x.sentCrc }

/-- A passed sentinel; a tile that met every step in time loses cause CAPO_LATE (R446). -/
def State.passSentinel (s : State) (t : Nat) (late : Bool) : State :=
  let s := s.modArr t fun x => { x with sentHist := (x.sentHist <<< 1) ||| 1#32, sentCrc := Config.sentinelCrc 2 }
  s.modTile t fun x => if x.excl == 2 && x.exclEff && !late then { x with excl := if x.spm.diag then 5 else 0 } else x

/-- The failing sub-passes of a tile with the one an injection inverts; where that one fails only by injection its CRC is a
free value. -/
def State.withInjected (s : State) (real : List (Nat × DWord)) : List (Nat × DWord) × State :=
  if real.any fun x => x.1 == s.saf.injArg then (real, s)
  else
    let (c, s) := s.takeFree
    let all := (s.saf.injArg, c) :: real
    ((List.range 3).filterMap fun u => all.find? fun x => x.1 == u, s)

/-- The sentinel of one tile (R254, R448, R457): a real failure is reported and excludes it, an injected one is reported
beside it and excludes nothing. -/
def State.sentinelTile (s : State) (a : CapoIn) (t : Nat) : State :=
  let real := sentinelFails a t
  let inj := s.injApplied 3 && s.injTiles.contains t && !a.silent.contains t
  let s := if real.isEmpty then s else (s.report 0 t 0).exclude t 1
  if inj then
    let s := s.report 0 t 0 true
    let s : State := { s with saf := { s.saf with injSeen := s.saf.injSeen ++ [t] } }
    let r := s.withInjected real
    r.2.failSentinel t r.1
  else if real.isEmpty then s.passSentinel t (a.lateTiles.contains t)
  else s.failSentinel t real

/-- Step 8 on every tile of the grade, excluded ones too (R262); the arrays end cleared. An injection is DETECTED when every
tile it acts on has shown its failure in this pass (R453). -/
def State.sentinelPass (s : State) (a : CapoIn) : State :=
  let s := if s.saf.injCode == 3 && s.saf.injState == .armed then s.applyInj else s
  let on := s.injApplied 3
  let s : State := s.grade.tiles.foldl (fun s t => s.sentinelTile a t) s
  if on then s.endInj (if s.injTiles.all s.saf.injSeen.contains then .detected else .missed)
  else s

/-! ## Step 10: the pennant and the digest log (R52, R53, R66) -/

/-- Bits set in a map. -/
def popcount (v : BitVec 256) : Nat := ((List.range 256).filter fun i => v.getLsbD i).length

/-- HEALTHY (R53). -/
def PenAcc.healthy (p : PenAcc) (reason : Nat) : Bool := reason == 0 && p.sentinel == 0#256 && p.faults == 0#13

/-- FLAGS of a pennant (R52). -/
def PenAcc.flags (p : PenAcc) (reason : Nat) : Nat :=
  b2n (p.healthy reason) + 2 * b2n (reason != 0) + 4 * b2n (p.sentinel != 0#256) + 8 * b2n (p.stalled != 0#256)
    + 16 * b2n p.holdover + 32 * b2n p.degraded + 64 * b2n p.mismatch + 128 * b2n p.fenced + 256 * b2n (p.faults != 0#13)

/-- The 128 bytes of a pennant of period n that began at b (R52). -/
def PenAcc.bytes (p : PenAcc) (n : Word) (b : DWord) (reason : Nat) : List Byte :=
  let h := [0xD3#8, 0x01#8] ++ leBytes 2 (p.flags reason) ++ leBytes 4 n.toNat ++ leBytes 8 b.toNat ++ leBytes 1 p.slot
    ++ leBytes 1 reason ++ leBytes 2 p.planId.toNat ++ (p.counts.map (leBytes 2)).flatten
    ++ leBytes 2 (min p.ringDrops 65535) ++ leBytes 2 (popcount p.sentinel) ++ leBytes 2 (min p.refreshHits 65535)
    ++ leBytes 2 (min p.linkRetries 65535) ++ leBytes 2 0 ++ leBytes 32 p.sentinel.toNat ++ leBytes 32 p.stalled.toNat
    ++ List.replicate 12 0#8
  h ++ leBytes 4 (crc32c h).toNat

/-- The words of 128 bytes. -/
def words32 (l : List Byte) : List Word := (List.range 32).map fun i => wordAt l (4 * i)

/-- Rings STALLED now, as a map (R424). -/
def State.stalledMap (s : State) : BitVec 256 :=
  s.ring.rings.foldl (fun m x => if x.2.stalled then setBit m x.1 else m) 0#256

/-- What holds of the period from its start: rings STALLED, holdover, fences. -/
def State.penStart (s : State) (p : PenAcc) : PenAcc :=
  { p with stalled := s.stalledMap, holdover := s.tb.state == .holdover || !s.aon.refPresent, fenced := s.crs.fence != 0#2 }

/-- Injection 0x0A (R454): the FORCED report in the next pennant. -/
def State.forceFault (s : State) (a : CapoIn) : State :=
  if s.saf.injCode == 0x0A && s.saf.injState == .armed then
    let s := s.applyInj
    if a.silentStep then s.endInj .missed else (s.report 12 0xFF 0 true).endInj .detected
  else s

/-- The pennant of period n published (R52, R53): the PEN block, SAF_PERIOD_FAULTS, SAFE_TOGGLE and the mirror. -/
def State.publishPennant (s : State) (n : Word) (b : DWord) (reason : Nat) (a : CapoIn) : State :=
  let s := s.forceFault a
  let p := s.pen.acc
  let pf := BitVec.ofNat 32 (p.faults.toNat + (if p.faults ≠ 0#13 ∧ p.allInjected = true then 2 ^ 15 else 0))
  let ok := p.healthy reason
  let s : State := { s with
    pen := { s.pen with cur := words32 (p.bytes n b reason), prev := s.pen.cur, acc := s.penStart {}
                        safeToggle := if ok then !s.pen.safeToggle else s.pen.safeToggle }
    saf := { s.saf with periodFaults := pf } }
  let s := if ok then s else s.logEv 0x0303 0xFFFF (p.flags reason + pf.toNat * 2 ^ 32) (pf.getLsbD 15 && reason != 3)
  s.mirrorPennant

/-- The digest log replaced by the capture of period n (R66), if the selected job was released in it. -/
def State.closeCapture (s : State) (n : Word) : State :=
  let tileMode := s.prd.digSelEff.getLsbD 24
  let first := bits s.prd.digLayerEff.toNat 15 0
  let shown := s.prd.capLayers.filter fun x => first ≤ x.1 ∧ x.1 < first + 256
  let top := shown.foldl (fun m x => max m (x.1 + 1 - first)) 0
  let log : FMap DWord :=
    if tileMode then s.prd.capTiles
    else (List.range 256).foldl (fun m e => match shown.find? fun x => x.1 == first + e with
      | some x => tput 0#64 m e x.2
      | none => m) []
  let layers := (s.net (bits s.prd.digSelEff.toNat 23 16)).layers.length
  let clear (p : Prd) : Prd := { p with capReleased := false, capKilled := false, capLayers := [], capTiles := [] }
  if s.prd.digSelEff.getLsbD 31 && s.prd.capReleased then
    { s with prd := clear { s.prd with
        digLog := log, digPeriod := n, digValid := true, digKilled := s.prd.capKilled
        digCount := if tileMode then 256 else top
        digTrunc := !tileMode && decide (first + 256 < layers) } }
  else { s with prd := clear s.prd }

/-- Step 10: pages of the period close and are published (R417), then the pennant if one is due, the SUPPRESSED entry and
the digest log. With no pennant due, after ABORT_HOLD, what has been counted of LINK_RETRIES, REFRESH_HITS and RING_DROPS since
the aborted period's pennant goes into the next one (R52; DESIGN CHOICE, log entry 35). -/
def State.capoStep10 (s : State) (pennant : Option (Word × DWord × Nat)) (a : CapoIn) : State :=
  let s := s.capoClose
  let s := match pennant with
    | some (n, b, reason) => (s.publishPennant n b reason a).closeCapture n
    | none => { s with pen := { s.pen with acc := s.penStart s.pen.acc } }
  s.closeSuppression

/-! ## The boundary -/

/-- Step 1 (R34, R35, R43): the counters. -/
def State.stepOne (s : State) : State :=
  let first := !s.prd.anyBoundary
  let s : State := { s with
    prd := { s.prd with
      gen := .capo, anyBoundary := true, boundary := BitVec.ofNat 64 s.prd.next
      next := s.prd.next + s.prd.pUs * 1000
      count := if first then 0#32 else s.prd.count + 1
      slot := if first then 0 else (s.prd.slot + 1) % s.prd.n
      epoch := if first then 0#32 else s.prd.epoch, netSeen := s.rdy.net }
    dram := { s.dram with fetched := [] }
    crs := { s.crs with pairHist := s.crs.pairHist <<< 1, adoptSlot := none, early := [] } }
  s.sampleAbsent first

/-- The injection window closes at the boundary that begins period INJECT_PERIODS; what is armed is CANCELLED (R452). -/
def State.closeWindow (s : State) : State :=
  if s.img.injectPeriods ≠ 0 ∧ s.prd.count.toNat = s.img.injectPeriods ∧ s.saf.windowClosed = false then
    let s : State := { s with saf := { s.saf with windowClosed := true } }
    if s.saf.injState = .armed then s.endInj .cancelled else s
  else s

/-- Every instance not ended is killed at its boundary (R41, R399). -/
def State.killAll (s : State) : State :=
  s.sch.insts.foldl (fun s i => match s.inst i.id with
    | some i => s.killLate i
    | none => s) s

/-- BOUNDARY (R43, R47, R55): device time reaches the next grid point, and the capo runs steps 1 to 10. -/
def execBoundary (a : CapoIn) (s : State) : Result :=
  .next (if !s.prd.started || s.crs.startWait || s.prd.gen == .capo || s.aon.mainReset then s else
    let s := s.advanceTo s.prd.next
    let run := s.prd.gen == .run
    let first := !s.prd.anyBoundary
    let n := s.prd.count
    let b := s.prd.boundary
    let s := s.stepOne.closeWindow.sendBoundaries
    let s := s.killAll.evalStored
    let s := s.capoClear a.lateTiles
    let jobs := ((tget {} s.img.plans s.nextPlan).jobsOf s.nextSlot).foldr insJob []
    let s := s.prefetch jobs
    let s := (s.checkSteps a).sentinelPass a
    let s := s.capoStep10 (if run then some (n, b, 0) else none) a
    let s := if first then ((s.setRdy 13).refreshStreams).logEv 0x0301 0xFFFF s.prd.boundary.toNat else s
    if s.aon.standby = .requested then
      ({ s with prd := { s.prd with gen := .hold, started := false } } : State).enterStandby
    else s)

/-! ## The period abort (R54 to R58) -/

/-- Capo steps 2 to 10 for an abort, with its reason; then ABORT_HOLD (R55). -/
def State.abort (s : State) (reason : Nat) (a : CapoIn) : State :=
  let s := s.logEv 0x0302 0xFFFF reason
  let s : State := s.sch.insts.foldl (fun s i => s.endInst i.id 0x13 (BitVec.ofNat 32 reason)) s
  let s := s.capoClear a.lateTiles
  let s := (s.checkSteps a).sentinelPass a
  let s : State := { s with prd := { s.prd with
    gen := .hold, aborts := satW s.prd.aborts
    lastAbort := BitVec.ofNat 32 (reason + s.prd.count.toNat % 2 ^ 24 * 256) } }
  s.capoStep10 (some (s.prd.count, s.prd.boundary, reason)) a

/-- A supply, clock or thermal condition arises (R54, R56, R58): outside a capo it is reported and aborts the period; in
ABORT_HOLD it is only reported; in a capo it waits for the release, which tells a real one from an injected one (R457). -/
def State.condition (s : State) (reason : Nat) (a : CapoIn) (inj : Bool := false) : State :=
  match s.prd.gen with
  | .run => (s.report 3 0xFF 0 inj).abort reason a
  | .hold => s.report 3 0xFF 0 inj
  | .capo => if inj then s else { s with saf := { s.saf with injReal := true } }
  | .idle => s

/-- The reason of a condition still present at a release (R56), 0 for none; of several that stand together the one with the
lowest code is recorded, a choice of the model (log entry 35). -/
def State.standing (s : State) : Nat :=
  if s.sys.supplyCond then 1 else if s.sys.clockCond || s.sys.ddrPllLost then 2 else if s.sys.thermCond then 4 else 0

/-- PRD_ABORT (R57): outside RUN the request is discarded. -/
def execPrdAbort (path : Port) (value : Word) (t : Nat) (a : CapoIn) (s : State) : Result :=
  .next (if !s.pview path || !value.getLsbD 0 then s else
    let s := s.advanceTo t
    let s := s.logEv 0x0703 (pathSource path) (2 * 2 ^ 16 + value.toNat * 2 ^ 32)
    if s.prd.gen = .run then s.abort 3 a else { s with prd := { s.prd with abortDiscard := true } })

/-! ## The release -/

/-- A plan switch takes effect (R393): slot 0, PRD_EPOCH, the gangs. -/
def State.switchPlan (s : State) : State :=
  if !s.prd.switched then s
  else
    let old := s.sch.plan
    let p := s.nextPlan
    let plan := tget {} s.img.plans p
    let s : State := { s with
      sch := { s.sch with plan := p, switches := s.sch.switches + 1 }
      prd := { s.prd with n := plan.n, slot := 0, epoch := s.prd.count, switched := false } }
    ((s.schEvent 3).logEv 0x0304 0xFFFF (old + 16 * p + 256 * s.sch.eff.toNat)).formGangs

/-- A slot taken from the peer (R477): PRD_EPOCH counts on from it. -/
def State.takeSlot (s : State) : State :=
  match s.crs.adoptSlot with
  | none => s
  | some k => { s with prd := { s.prd with slot := k, epoch := s.prd.count - BitVec.ofNat 32 k }
                       crs := { s.crs with adoptSlot := none } }

/-- Exclusions take effect or end at the release (R446, R447). -/
def State.applyExclusion (s : State) (t : Nat) : State :=
  let x := s.tile t
  let now := x.excl != 0
  if now = x.exclEff then s
  else
    let s := s.modTile t fun x => { x with exclEff := now }
    if now then (s.report 19 t 0).logEv 0x0402 t x.excl else s.logEv 0x0403 t 0

/-- The jobs of the slot: those whose network was ready at the dispatch freeze and whose first stream has become ready are created
(R100, R140, R375), as are those of a stream that lost its readiness (R178); the others are told to a matched peer with END 0xFF (R479). -/
def State.createJobs (s : State) : State :=
  (s.plan.jobsOf s.prd.slot).foldl (fun s j =>
    if s.prd.netSeen.getLsbD j.net && (s.stream j.stream).wasReady then s.createInst j
    else match s.pairedLink with
      | some k => s.sendFlit k 4 (leBytes 4 s.prd.count.toNat ++ leBytes 2 j.job ++ [0xFF#8, 0#8])
      | none => s) s

/-- The peer's flits that came before the release of their period (R479, R480). -/
def State.takeEarly (s : State) : State :=
  match s.pairedLink with
  | none => s
  | some k => s.crs.early.foldl (fun s f => s.takePeer k f) { s with crs := { s.crs with early := [] } }

/-- The period aborted at its release (R56): no job of its slot runs, each ends PERIOD_ABORT, and the pennant is published at
once; the capo is over, so none of its steps runs again but the emptying of the pager, which now works for no job (R323,
log entry 35). -/
def State.abortAtRelease (s : State) (reason : Nat) : State :=
  let s := s.logEv 0x0302 0xFFFF reason
  let s : State := s.sch.insts.foldl (fun s i => s.endInst i.id 0x13 (BitVec.ofNat 32 reason)) s
  let s : State := { s.emptyPager with prd := { s.prd with
    gen := .hold, aborts := satW s.prd.aborts
    lastAbort := BitVec.ofNat 32 (reason + s.prd.count.toNat % 2 ^ 24 * 256) } }
  (s.publishPennant s.prd.count s.prd.boundary reason {}).closeCapture s.prd.count

/-- CAPO_RELEASE (R43 step 11, R56): jobs of the slot become eligible, or the period is aborted at its release. -/
def execCapoRelease (s : State) : Result :=
  .next (if s.prd.gen ≠ .capo then s else
    let s := s.advanceTo (s.boundaryNs + 12000)
    let s := s.closeLinkEval.switchPlan.takeSlot
    let s : State := s.grade.tiles.foldl State.applyExclusion s
    let s : State := { s with
      sch := { s.sch with classEff := s.seen.classEn }
      prd := { s.prd with gen := .run, digSelEff := s.prd.digSel, digLayerEff := s.prd.digLayer }
      pen := { s.pen with acc := { s.pen.acc with
        planId := s.plan.planId, slot := s.prd.slot, degraded := s.sch.plan != 0 } } }
    let s := s.createJobs.takeEarly
    if s.standing ≠ 0 then
      let hit := s.injApplied 5 || s.injApplied 6 || s.injApplied 7
      let s := (s.report 3 0xFF 0 (hit && !s.saf.injReal)).abortAtRelease s.standing
      if hit then s.endInj .detected else s
    else s.pagerRun)

end Sys2Proof.Machine
end

