-- ==== Sys2Proof/Machine/Ports.lean ====
section
/-!
DEFINITION. The sensor ports (R151 to R170, R173 to R175, R187 to R190, R193 to R195): CSI-2 receivers, Ethernet MACs and
10BASE-T1S ports, matching, segments, the opening and completing of frames at the port, and the landing rings.
-/

namespace Sys2Proof.Machine

/-! ## Ports -/

/-- CSI-2 receiver p. -/
def State.csiPort (s : State) (p : Nat) : CsiPort := tget {} s.strm.csi p

/-- A receiver changed. -/
def State.modCsi (s : State) (p : Nat) (f : CsiPort → CsiPort) : State :=
  { s with strm := { s.strm with csi := tput {} s.strm.csi p (f (s.csiPort p)) } }

/-- Ethernet MAC e. -/
def State.ethPort (s : State) (e : Nat) : EthPort := tget {} s.strm.eth e

/-- A MAC changed. -/
def State.modEth (s : State) (e : Nat) (f : EthPort → EthPort) : State :=
  { s with strm := { s.strm with eth := tput {} s.strm.eth e (f (s.ethPort e)) } }

/-- 10BASE-T1S port t. -/
def State.t1sPort (s : State) (t : Nat) : T1sPort := tget {} s.strm.t1s t

/-- A 10BASE-T1S port changed. -/
def State.modT1s (s : State) (t : Nat) (f : T1sPort → T1sPort) : State :=
  { s with strm := { s.strm with t1s := tput {} s.strm.t1s t (f (s.t1sPort t)) } }

/-- The kinds of a stream record that a port of a kind serves: a MAC serves 1722 and UDP streams (R124). -/
def sameKind (kind : Nat) (c : StreamCfg) : Bool := if kind = 1 then c.kind == 1 || c.kind == 2 else c.kind == kind

/-- The streams of a port (kind 0 CSI-2, 1 Ethernet, 3 10BASE-T1S), in ascending index. -/
def State.portStreams (s : State) (kind port : Nat) : List Nat :=
  (s.img.streams.filter fun x => sameKind kind x.2 && x.2.port == port).map (·.1)

/-- Does an accepted stream name the port (R153)? -/
def State.named (s : State) (kind port : Nat) : Bool := !(s.portStreams kind port).isEmpty

/-- Is the port ready (R98)? -/
def State.portReady (s : State) (kind port : Nat) : Bool := s.rdy.port.getLsbD (portBit kind port)

/-- Does the port take frames: ready, and intake not stopped (R86, R99)? -/
def State.portTakes (s : State) (kind port : Nat) : Bool := s.portReady kind port && !s.strm.stopped

/-- The 10BASE-T1S node count: the highest node ID plus 1 (R166). -/
def State.nodes (s : State) (port : Nat) : Nat :=
  (s.portStreams 3 port).foldl (fun m k => max m (((s.streamCfg k).key.headD 0#8).toNat + 1)) 2

/-- Readiness of the sensor ports once CLOCKS and STREAMS hold (R98, R153, R608). DESIGN CHOICE (log entry 54): a
receiver whose calibration failed before STREAMS names it sets RDY_PORT_FAIL when STREAMS does. -/
def State.refreshPorts (s : State) : State :=
  if !s.ready 0 || !s.ready 9 then s
  else
    let s := (List.range s.grade.csi).foldl (fun s p =>
      if !s.named 0 p then s
      else if (s.csiPort p).calFail then s.failPort (portBit 0 p)
      else if (s.csiPort p).calibrated then s.setPort (portBit 0 p)
      else s) s
    let s := (List.range s.grade.eth).foldl (fun s p =>
      if (s.ethPort p).link && (p == 0 || s.named 1 p) then s.setPort (portBit 1 p) else s) s
    let s := (List.range s.grade.t1s).foldl (fun s p =>
      if s.named 3 p then (s.modT1s p fun x => { x with plca := true }).setPort (portBit 3 p) else s) s
    s.refreshStreams

/-- DPHY_CALIBRATION_DONE (R608): its outcome stands, and takes effect on RDY_PORT once CLOCKS and STREAMS hold. -/
def execDphyCalibrationDone (port : Nat) (ok : Bool) (s : State) : Result :=
  .next (
    let x := s.csiPort port
    if !s.aon.pllLocked || decide (s.grade.csi ≤ port) || x.calibrated || x.calFail then s
    else (s.modCsi port fun x => { x with calibrated := ok, calFail := !ok }).refreshPorts)

/-! ## Check values of a stream (R157, R171, R201, R226) -/

/-- The tile of a stream's lowest-numbered LANDING region (R171). -/
def State.cvTile (s : State) (k : Nat) : Option Nat :=
  let l := s.landPlan.regions.filter fun r => r.kind == 1 && r.stream == k
  (l.foldl (fun m r => match m with
    | none => some r
    | some x => if r.region < (x : RegionCfg).region then some r else some x) none).map (·.tile)

/-- Is the stream's check value a CRC-16? A stream with no LANDING region, or no CHECKS, has CRC-32C (R226). -/
def State.cv16 (s : State) (k : Nat) : Bool :=
  match s.cvTile k with
  | some t => s.isCrc16 t (s.streamCfg k).cvUnit
  | none => false

/-- C, the width of the in-band check value (R157). -/
def State.cvBytes (s : State) (k : Nat) : Nat := if (s.streamCfg k).cvScope = 0 then 0 else if s.cv16 k then 2 else 4

/-! ## Landing rings (R193 to R195, R224) -/

/-- S, the bytes of a landing slot (R193). -/
def State.slotSize (s : State) (k : Nat) : Nat := (16 + (s.streamCfg k).lineBytes + s.cvBytes k + 63) / 64 * 64

/-- The slots of a region, where its frets are held by the stream and hold no line of an old ring (R193, R225, R292). -/
def State.regionSlots (s : State) (k : Nat) (r : RegionCfg) : List LandSlot :=
  let fs := ((s.landPlan.placement r.tile).find? fun x => x.1.region == r.region).elim [] fun x => x.2.1
  let first := fs.headD 0
  let held := fs.all fun f => ((s.tile r.tile).spm.fret f).st == .landing && ((s.tile r.tile).spm.fret f).stream == k
  let old := (s.stream k).used.any fun y => y.tile == r.tile && (y.first != first || y.frets != r.frets) &&
    decide (y.first < first + r.frets) && decide (first < y.first + y.frets)
  if held && !old then (List.range (4096 * r.frets / s.slotSize k)).map fun j =>
    { tile := r.tile, first := first, frets := r.frets, idx := j }
  else []

/-- The slots of a stream's landing ring: its regions in ascending index, those on excluded tiles left out (R193, R224,
R225). -/
def State.landSlots (s : State) (k : Nat) : List LandSlot :=
  let l := s.landPlan.regions.filter fun r => r.kind == 1 && r.stream == k && !s.excluded r.tile
  (sortRegions l).flatMap (s.regionSlots k)

/-- The slot the next line of a stream takes, none where its ring is full or has fewer than two slots (R195, R224). -/
def State.freeSlotOf (s : State) (k : Nat) : Option LandSlot :=
  let l := s.landSlots k
  if l.length < 2 then none else l.find? fun x => !(s.stream k).used.contains x

/-- An item put into a stream's ring. -/
def State.pushItem (s : State) (k : Nat) (i : LandItem) : State := s.modStream k fun x => { x with ring := x.ring ++ [i] }

/-- A ring without the first of its items that a rule picks. -/
def dropFirst (p : LandItem → Bool) : List LandItem → List LandItem
  | [] => []
  | i :: l => if p i then l else i :: dropFirst p l

/-- An event put into a stream's ring (R195): it always enters. Before the stream is ready nothing leaves the 16-entry event
queue but by being overwritten, so the oldest event gives way to the seventeenth. -/
def State.pushEvent (s : State) (k : Nat) (i : LandItem) : State :=
  let full := !s.streamReady k && decide (16 ≤ ((s.stream k).ring.filter LandItem.isEvent).length)
  (if full then s.modStream k fun x => { x with ring := dropFirst LandItem.isEvent x.ring } else s).pushItem k i

/-! ## Frames at the port (R156, R165, R173, R174) -/

/-- An ingress timestamp (R173): that of its event, which cannot lie past device time. -/
def State.stamp (s : State) (t : Nat) : Nat := min t s.now

/-- The window end of a frame of stream k that starts at `t` (R173, R174): WINDOW + 1 periods after the boundary that begins
the period of `t`, whether or not that boundary has been run yet; none before the first period. -/
def State.windowEndOf (s : State) (k t : Nat) : Option Nat :=
  let p := s.prd.pUs * 1000
  let b := s.boundaryNs
  if s.prd.anyBoundary || (s.prd.started && decide (s.prd.next ≤ t)) then
    some ((if b ≤ t then b + (t - b) / p * p else b - (b - t + p - 1) / p * p) + ((s.streamCfg k).window + 1) * p)
  else none

/-- The open frame of a stream completes at the port: by EOF, or without one at a next frame or its window's end. -/
def State.endFrame (s : State) (k : Nat) (eof : Bool) (t : Nat) : State :=
  match (s.stream k).openF with
  | none => s
  | some f =>
    let s := s.modStream k fun x => { x with openF := none }
    let s := s.modFrame f fun x => { x with portOpen := false, hasEof := eof }
    s.pushEvent k (if eof then .eofEv f t else .endEv f t)

/-- A frame whose window has ended completes before what comes at `t`; an EOF on the very tick of the window's end still
counts (R174, R187). -/
def State.expire (s : State) (k t : Nat) (eof : Bool) : State :=
  match (s.stream k).openF with
  | none => s
  | some f =>
    match (s.frame f).windowEnd with
    | none => s
    | some e => if e < t ∨ (e = t ∧ eof = false) then s.endFrame k false e else s

/-- A new frame opened at the port (R156, R165, R173), its event put into the ring (R195). -/
def State.openFrame (s : State) (k raw t : Nat) : State :=
  let s := (s.expire k t false).endFrame k false t
  let f := s.strm.nextF
  let on := s.streamReady k
  let e := s.windowEndOf k t
  let s : State := { s with strm := { s.strm with nextF := f + 1 } }
  let s := s.modFrame f fun _ => { stream := k, start := t, raw := raw, windowEnd := e, pre := !on }
  let s := s.modStream k fun x =>
    { x with openF := some f, startT := if on then BitVec.ofNat 64 t else x.startT }
  s.pushEvent k (.opened f)

/-- The frame open at the port. -/
def State.openFid (s : State) (k : Nat) : Option Nat := (s.stream k).openF

/-- LAND_FULL (R195, R222). -/
def State.landFull (s : State) (k : Nat) : State :=
  let s := s.modStream k fun x => { x with landFull := satAdd 16 x.landFull 1 }
  { s with strm := { s.strm with landFullC := s.strm.landFullC + 1, events := setBit s.strm.events 0 } }

/-- The line whose slot a line takes while the stream is not ready and every slot is in use: the oldest (R99, R195). -/
def State.oldestLine (s : State) (k : Nat) : Option LandSlot :=
  let l := s.landSlots k
  if s.streamReady k || decide (l.length < 2) then none
  else ((s.stream k).ring.filterMap LandItem.slot?).find? l.contains

/-- The slot of a line that arrives (R195): a free one; before the stream is ready else the oldest line's, which is gone. -/
def State.slotFor (s : State) (k : Nat) : Option (LandSlot × State) :=
  match s.freeSlotOf k with
  | some x => some (x, s)
  | none => (s.oldestLine k).map fun x =>
      (x, s.modStream k fun y => { y with ring := dropFirst (fun i => i.slot? == some x) y.ring })

/-- A line placed in a row of the open frame (R158, R195, R204): excess lines and lines that find no slot are discarded, the
latter counted once the stream is ready. `data` is its L bytes and, per line, its check value. A line accepted out of
ascending row order marks a per-frame stream's frame. The answer tells whether the line entered the ring. -/
def State.placeLine (s : State) (k row : Nat) (data : List Byte) : State × Bool :=
  match s.openFid k with
  | none => (s, false)
  | some f =>
    let x := s.frame f
    let c := s.streamCfg k
    if decide (c.height ≤ row) || x.placed.contains row then
      (s.modFrame f fun x => { x with excess := x.excess + 1 }, false)
    else match s.slotFor k with
    | none => (if s.streamReady k || !x.pre then s.landFull k else s, false)
    | some (slot, s) =>
      let order := c.cvScope == 2 && decide (row < x.cvNext)
      let s := s.modFrame f fun x => { x with
        placed := row :: x.placed, cvBad := x.cvBad || order, cvNext := max x.cvNext (row + 1) }
      (s.pushItem k (.line f row data slot), true)

/-! ## CSI-2 (R154 to R158) -/

/-- Counters of a packet header: the packet, a corrected bit, a full port queue (R154, R170, R184). -/
def State.csiHeader (s : State) (port : Nat) (h : CsiHdr) : State :=
  s.modCsi port fun x => { x with
    pkts := x.pkts + 1
    eccCorr := if h.corr then x.eccCorr + 1 else x.eccCorr
    dropFull := if h.full then x.dropFull + 1 else x.dropFull
    events := if h.full then setBit x.events 3 else x.events }

/-- The streams of a virtual channel (R156). -/
def State.vcStreams (s : State) (port vc : Nat) : List Nat :=
  (s.portStreams 0 port).filter fun k => ((s.streamCfg k).key.headD 0#8).toNat == vc

/-- CSI_FS (R156): a new frame on every stream of the virtual channel. -/
def execCsiFs (port vc frame t : Nat) (h : CsiHdr) (s : State) : Result :=
  .next (if !s.portTakes 0 port then s
    else
      let s := (s.advanceTo t).csiHeader port h
      if h.full then s else (s.vcStreams port vc).foldl (fun s k => s.openFrame k frame (s.stamp t)) s)

/-- An orphan of a receiver (R156, R158, R174). -/
def State.csiOrphan (s : State) (port : Nat) : State :=
  s.modCsi port fun x => { x with orphan := x.orphan + 1, events := setBit x.events 5 }

/-- CSI_FE (R156): the EOF of every open frame of the virtual channel. One that finds no frame open on any of its streams is
an orphan (R174, log entry 49). -/
def execCsiFe (port vc _frame t : Nat) (h : CsiHdr) (s : State) : Result :=
  .next (if !s.portTakes 0 port then s
    else
      let s := (s.advanceTo t).csiHeader port h
      let l := s.vcStreams port vc
      if h.full then s
      else
        let t := s.stamp t
        let s : State := l.foldl (fun s k => s.expire k t true) s
        if !l.isEmpty && (l.all fun k => (s.openFid k).isNone) then s.csiOrphan port
        else l.foldl (fun s k => s.endFrame k true t) s)

/-- CSI_LS (R158): the line number of the next long packet of each stream of the virtual channel. -/
def execCsiLs (port vc line : Nat) (h : CsiHdr) (s : State) : Result :=
  .next (if !s.portTakes 0 port then s
    else
      let s := s.csiHeader port h
      if h.full then s
      else (s.vcStreams port vc).foldl (fun s k => s.modStream k fun x => { x with lsNum := some line }) s)

/-- CSI_LE (R154): received, with no effect on a frame. -/
def execCsiLe (port _vc _line : Nat) (h : CsiHdr) (s : State) : Result :=
  .next (if s.portTakes 0 port then s.csiHeader port h else s)

/-- CSI_DISCARD_PACKET (R154, R155): generic short, null and blanking packets without count but that of their header, bad
headers counted. -/
def execCsiDiscardPacket (port : Nat) (kind : CsiDiscard) (s : State) (h : CsiHdr := {}) : Result :=
  .next (if !s.portTakes 0 port then s
    else match kind with
      | .headerError => s.modCsi port fun x =>
          { x with pkts := x.pkts + 1, hdrErr := x.hdrErr + 1, events := setBit x.events 0 }
      | .generic | .null | .blanking => s.csiHeader port h)

/-- The word count a stream's line must have in a row (R157). -/
def State.lineLength (s : State) (k row : Nat) : Nat :=
  let c := s.streamCfg k
  if c.cvScope = 1 ∨ (c.cvScope = 2 ∧ row + 1 = c.height) then c.lineBytes + s.cvBytes k else c.lineBytes

/-- A matched long packet in its row: length check, then placing; the last row of a per-frame stream carries the check
value (R157, R158, R204). -/
def State.csiRow (s : State) (port k row : Nat) (data : List Byte) : State :=
  if data.length ≠ s.lineLength k row then
    s.modCsi port fun x => { x with lenErr := x.lenErr + 1, events := setBit x.events 2 }
  else
    let c := s.streamCfg k
    let f := s.openFid k
    let s := match f with
      | some f => if c.lineNum then s else s.modFrame f fun x => { x with nextRow := x.nextRow + 1 }
      | none => s
    if c.cvScope = 2 ∧ row + 1 = c.height then
      let (s, ok) := s.placeLine k row (data.take c.lineBytes)
      match f with
      | some f => if ok then s.pushItem k (.carrier f (data.drop c.lineBytes)) else s
      | none => s
    else (s.placeLine k row data).1

/-- CSI_LONG_PACKET (R155 to R158): payload CRC, match, frame, line number, length; then its row. -/
def execCsiLongPacket (a : CsiPkt) (s : State) : Result :=
  .next (if !s.portTakes 0 a.port then s
    else
      let s := (s.advanceTo a.t).csiHeader a.port a.hdr
      if a.hdr.full || a.dt == 0x10 || a.dt == 0x11 then s
      else
        let k? := (s.vcStreams a.port a.vc).find? fun k => ((s.streamCfg k).key.getD 1 0#8).toNat == a.dt
        let ls := match k? with
          | some k => (s.stream k).lsNum
          | none => none
        let s := match k? with
          | some k => s.modStream k fun x => { x with lsNum := none }
          | none => s
        if !a.crcOk then s.modCsi a.port fun x => { x with crcErr := x.crcErr + 1, events := setBit x.events 1 }
        else match k? with
          | none => s.modCsi a.port fun x => { x with unmatched := x.unmatched + 1 }
          | some k =>
            let s := s.expire k (s.stamp a.t) false
            match s.openFid k with
            | none => s.csiOrphan a.port
            | some f =>
              if (s.streamCfg k).lineNum then
                match ls with
                | some (n + 1) => s.csiRow a.port k n a.data
                | _ => s.csiOrphan a.port
              else s.csiRow a.port k (s.frame f).nextRow a.data)

/-- CSI_CLOCK_LANE_CHANGE (R184). -/
def execCsiClockLaneChange (port : Nat) (on : Bool) (s : State) : Result :=
  .next (if !s.named 0 port || !s.ready 0 then s
    else
      let lost := (s.csiPort port).clkLane && !on
      let s := s.modCsi port fun x => { x with clkLane := on, events := if lost then setBit x.events 4 else x.events }
      if lost then s.logEv 0x0503 port 0 else s)

/-! ## Ethernet (R160 to R163) -/

/-- A big-endian number of n bytes at an offset. -/
def beField (l : List Byte) (off n : Nat) : Nat := leNat (slice l off n).reverse

/-- The 16-bit one's complement sum of bytes, an odd last byte padded. -/
def onesSum (l : List Byte) : Nat :=
  let n := ((List.range ((l.length + 1) / 2)).map fun i => beField l (2 * i) 2).foldl (· + ·) 0
  let n := n % 65536 + n / 65536
  n % 65536 + n / 65536

/-- What a MAC does with a frame that passed its FCS (R161 to R163). -/
inductive EthVerdict where
  | other | malformed | gptp
  | avtp (id : List Byte) (seq : Byte) (payload : List Byte)
  | udp (key : List Byte) (payload : List Byte)
deriving DecidableEq, Repr

/-- An AVTP frame (R162): the bytes after the EtherType. -/
def avtpVerdict (p : List Byte) : EthVerdict :=
  let n := beField p 20 2
  if p.length < 24 ∨ bits (p.getD 1 0#8).toNat 6 4 ≠ 0 ∨ (p.getD 1 0#8).getLsbD 7 = false ∨ p.length < 24 + n then .malformed
  else .avtp (slice p 4 8) (p.getD 2 0#8) (slice p 24 n)

/-- An IPv4 frame (R163). DESIGN CHOICE (log entry 58): of a frame that breaks an earlier rule and has a protocol other than
17, ETH_MALFORMED counts. -/
def ipv4Verdict (p : List Byte) : EthVerdict :=
  let v := (p.getD 0 0#8).toNat
  let h := v % 16 * 4
  let total := beField p 2 2
  let frag := beField p 6 2
  if p.length < 20 ∨ v / 16 ≠ 4 ∨ h < 20 ∨ p.length < h ∨ total < h ∨ p.length < total ∨ onesSum (slice p 0 h) ≠ 0xFFFF
      ∨ frag % 8192 ≠ 0 ∨ bitOf frag 13 = true then .malformed
  else if (p.getD 9 0#8).toNat ≠ 17 then .other
  else
    let u := slice p h (total - h)
    let n := beField u 4 2
    let pseudo := slice p 12 8 ++ [0#8, 17#8] ++ slice u 4 2
    if u.length < 8 ∨ n < 8 ∨ n ≠ total - h ∨ (beField u 6 2 ≠ 0 ∧ onesSum (pseudo ++ u) ≠ 0xFFFF) then .malformed
    else .udp (slice p 12 8 ++ slice u 0 4) (u.drop 8)

/-- A frame classified by its EtherType, after one 802.1Q tag at most (R160, R161). -/
def ethVerdict (port : Nat) (d : List Byte) : EthVerdict :=
  let o := if beField d 12 2 = 0x8100 then 16 else 12
  let e := beField d o 2
  let p := d.drop (o + 2)
  if e = 0x22F0 then avtpVerdict p
  else if e = 0x0800 then ipv4Verdict p
  else if e = 0x88F7 ∧ port = 0 ∧ slice d 0 6 = [0x01#8, 0x80#8, 0xC2#8, 0#8, 0#8, 0x0E#8] then .gptp
  else .other

/-- A stream of a MAC by its kind and key. -/
def State.ethStream (s : State) (port kind : Nat) (key : List Byte) : Option Nat :=
  (s.portStreams 1 port).find? fun k => (s.streamCfg k).kind == kind && (s.streamCfg k).key.take key.length == key

/-- A segment handed on to its stream (R164), with its ingress timestamp (R173). -/
def State.handSegment (s : State) (kind port k t : Nat) (data : List Byte) : State :=
  { s with strm := { s.strm with segQ := s.strm.segQ ++
      [{ kind := kind, port := port, stream := k, t := t, data := data }] } }

/-- The sequence number of an accepted 1722 frame (R162): the first after the stream becomes ready is exempt. -/
def State.noteSeq (s : State) (k : Nat) (q : Byte) : State :=
  s.modStream k fun x =>
    let gap := match x.seqPrev with
      | some p => q != p + 1
      | none => false
    { x with seqPrev := some q, seqGaps := if gap then x.seqGaps + 1 else x.seqGaps }

/-- A frame of a MAC that matches no stream. -/
def State.ethUnmatched (s : State) (port : Nat) : State := s.modEth port fun x => { x with unmatched := x.unmatched + 1 }

/-- A frame of a MAC that breaks R162, R163 or R164. -/
def State.ethMalformed (s : State) (port : Nat) : State :=
  s.modEth port fun x => { x with malformed := x.malformed + 1, events := setBit x.events 2 }

/-- What a classified frame does. -/
def State.ethTake (s : State) (port t : Nat) : EthVerdict → State
  | .gptp => s
  | .other => s.modEth port fun x => { x with other := x.other + 1 }
  | .malformed => s.ethMalformed port
  | .avtp id q p =>
    match s.ethStream port 1 id with
    | none => s.ethUnmatched port
    | some k => (if s.streamReady k then s.noteSeq k q else s).handSegment 1 port k t p
  | .udp key p =>
    match s.ethStream port 2 key with
    | none => s.ethUnmatched port
    | some k => s.handSegment 1 port k t p

/-- ETH_FRAME (R160, R161): frames of 64 to 9,216 bytes with their FCS; gPTP frames go to the timebase in commands of their
own. -/
def execEthFrame (a : EthIn) (s : State) : Result :=
  .next (if !s.portTakes 1 a.port then s
    else
      let s := s.advanceTo a.t
      let s := s.modEth a.port fun x => { x with frames := x.frames + 1 }
      if a.full then s.modEth a.port fun x => { x with dropFull := x.dropFull + 1, events := setBit x.events 3 }
      else if !a.fcsOk then s.modEth a.port fun x => { x with fcsErr := x.fcsErr + 1, events := setBit x.events 0 }
      else if a.data.length < 60 ∨ 9212 < a.data.length then s
      else s.ethTake a.port (s.stamp a.t) (ethVerdict a.port a.data))

/-! ## 10BASE-T1S (R166 to R168) -/

/-- The next transmit opportunity, or after the last a new cycle (R167). -/
def State.nextOpp (s : State) (port : Nat) : State :=
  let n := s.nodes port
  s.modT1s port fun x =>
    if x.opp + 1 < n then { x with opp := x.opp + 1 } else { x with opp := 0, cycles := x.cycles + 1 }

/-- PLCA_OPPORTUNITY_EXPIRY (R167). -/
def execPlcaOpportunityExpiry (port : Nat) (s : State) : Result :=
  .next (if !(s.t1sPort port).plca || (s.t1sPort port).recovering then s else s.nextOpp port)

/-- T1S_FRAME (R167): matched on the node whose opportunity runs; the opportunity ends with it. -/
def execT1sFrame (a : T1sIn) (s : State) : Result :=
  .next (if !s.portTakes 3 a.port then s
    else
      let s := s.advanceTo a.t
      let x := s.t1sPort a.port
      let s := s.modT1s a.port fun x => { x with frames := x.frames + 1 }
      let next (s : State) : State := if x.recovering then s else s.nextOpp a.port
      if !a.fcsOk then
        next (s.modT1s a.port fun x => { x with fcsErr := x.fcsErr + 1, events := setBit x.events 0 })
      else if a.data.length < 60 ∨ 1514 < a.data.length then next s
      else
        let k? := if x.opp = 0 ∨ x.recovering = true then none
          else (s.portStreams 3 a.port).find? fun k => ((s.streamCfg k).key.headD 0#8).toNat == x.opp
        match k? with
        | none => next (s.modT1s a.port fun x => { x with unmatched := x.unmatched + 1 })
        | some k => next (s.handSegment 3 a.port k (s.stamp a.t) (a.data.drop 14)))

/-- PLCA_RECOVERY (R168). -/
def execPlcaRecovery (port : Nat) (collision : Bool) (s : State) : Result :=
  .next (if !(s.t1sPort port).plca then s
    else
      let s := s.modT1s port fun x => { x with
        recovering := true, recoveries := x.recoveries + 1, events := setBit x.events 4
        collisions := if collision then x.collisions + 1 else x.collisions }
      s.logEv 0x0503 (3 * 256 + port) 1)

/-- PLCA_RECOVERY_SILENCE_END (R168): a BEACON starts a new cycle. -/
def execPlcaRecoverySilenceEnd (port : Nat) (s : State) : Result :=
  .next (if (s.t1sPort port).recovering then s.modT1s port fun x => { x with recovering := false, opp := 0 } else s)

/-! ## Segments (R164, R165) -/

/-- A malformed segment of a port. -/
def State.segMalformed (s : State) (q : SegReq) : State :=
  if q.kind = 3 then s.modT1s q.port fun x => { x with malformed := x.malformed + 1, events := setBit x.events 2 }
  else s.ethMalformed q.port

/-- An orphan segment of a port. -/
def State.segOrphan (s : State) (q : SegReq) : State :=
  if q.kind = 3 then s.modT1s q.port fun x => { x with orphan := x.orphan + 1, events := setBit x.events 5 }
  else s.modEth q.port fun x => { x with orphan := x.orphan + 1, events := setBit x.events 5 }

/-- FRAME of a segment as its stream's COUNTER uses it (R164). -/
def segFrame (c : StreamCfg) (d : List Byte) : Nat :=
  if c.counter = 1 then beField d 6 2 else beField d 4 4

/-- The lines of a segment placed, and its EOF (R164, R204). -/
def State.segLines (s : State) (q : SegReq) : State :=
  let c := s.streamCfg q.stream
  let n := (q.data.getD 1 0#8).toNat
  let w := c.lineBytes + (if c.cvScope = 1 then s.cvBytes q.stream else 0)
  let eof := (q.data.getD 0 0#8).getLsbD 6
  let f := s.openFid q.stream
  let s := (List.range n).foldl (fun s i =>
    (s.placeLine q.stream (beField q.data 2 2 + i) (slice q.data (8 + w * i) w)).1) s
  if !eof then s
  else
    let s := match f with
      | some f =>
        if c.cvScope = 2 then s.pushItem q.stream (.carrier f (q.data.drop (8 + w * n))) else s
      | none => s
    s.endFrame q.stream true q.t

/-- SEGMENT (R164, R165): the oldest segment handed on opens, extends or closes a frame; none once intake has stopped (R227). -/
def execSegment (s : State) : Result :=
  .next (if s.strm.stopped then s else match s.strm.segQ with
  | [] => s
  | q :: rest =>
    let s : State := { s with strm := { s.strm with segQ := rest } }
    let k := q.stream
    let c := s.streamCfg k
    let flags := q.data.getD 0 0#8
    let sof := flags.getLsbD 7
    let eof := flags.getLsbD 6
    let n := (q.data.getD 1 0#8).toNat
    let len := 8 + n * (c.lineBytes + (if c.cvScope = 1 then s.cvBytes k else 0))
      + (if eof = true ∧ c.cvScope = 2 then s.cvBytes k else 0)
    if q.data.length ≠ len then s.segMalformed q
    else if sof then (s.openFrame k (segFrame c q.data) q.t).segLines q
    else
      let s := s.expire k q.t eof
      match s.openFid k with
      | none => s.segOrphan q
      | some f =>
        if c.counter ≠ 0 ∧ segFrame c q.data ≠ (s.frame f).raw then (s.endFrame k false q.t).segOrphan q
        else s.segLines q)

/-! ## Window ends (R174) -/

/-- FRAME_WINDOW_END (R174): the open frame of a stream has lived its window. -/
def execFrameWindowEnd (stream : Nat) (s : State) : Result :=
  .next (if s.strm.stopped then s else match s.openFid stream with
  | none => s
  | some f =>
    match (s.frame f).windowEnd with
    | none => s
    | some e => if s.now < e then s else s.endFrame stream false e)

end Sys2Proof.Machine
end

