-- ==== Sys2Proof/Machine/Power.lean ====
section
/-!
DEFINITION. Power, clocks and resets (R74 to R98): the reset kinds and the internal reset release, retention standby and
wake, and the supply, clock and temperature monitors.
-/

namespace Sys2Proof.Machine

/-! ## Resets (R93, R95) -/

/-- COLD_START (R93): the always-on domain and the recorder's retention SRAM are cleared, and the main domain is reset. -/
def execColdStart (s : State) : Result :=
  .next (
    let a : Aon := { mainReset := true, causes := 1#5, resetN := s.aon.resetN, testMode := s.aon.testMode,
                     wake := s.aon.wake, pwrFailN := s.aon.pwrFailN }
    let s := s.mainReset
    { s with aon := a, evr := { s.evr with ring := [], upset := [], next := 0#32, starts := 0#32 } })

/-- ALWAYS_ON_RESET (R74, R76): VDD_AON below 0.60 V; only a cold start can follow. -/
def execAlwaysOnReset (s : State) : Result :=
  .next (
    let s := s.mainReset
    { s with aon := { s.aon with aonReset := true, pwrEnMain := false, standby := .none, oscRunning := false } })

/-- Is the always-on domain up and not asleep in standby, where main rails and pins are ignored (R86, R88)? -/
def State.awake (s : State) : Bool := !s.aon.aonReset && s.aon.standby != .asleep

/-- The main domain goes into reset for a cause, and a standby entry under way ends. -/
def State.resetFor (s : State) (cause : Nat) : State :=
  let s := (s.addCause cause).mainReset
  { s with aon := { s.aon with standby := .none } }

/-- BROWNOUT (R80). -/
def execBrownout (s : State) : Result := .next (if s.awake then s.resetFor 1 else s)

/-- When the first reset that waits for a flush was asserted (R95); `old` is the state before. -/
def State.stampReset (s old : State) : State :=
  if old.aon.pinAfterFlush || old.aon.softAfterFlush then s
  else { s with aon := { s.aon with resetT := s.sys.uptimeNs } }

/-- PIN_RESET (R93, R95): during a flush it waits for the commit step. -/
def execPinReset (s : State) : Result :=
  .next (if !s.awake then s
    else
      let s : State := { s with aon := { s.aon with resetN := false } }
      if s.evr.flushing then ({ s with aon := { s.aon with pinAfterFlush := true } } : State).stampReset s else s.resetFor 2)

/-- The key of SYS_RST_CTRL and SYS_PWR_CTRL, with bit 0 set (R86, R93). -/
def keyed (v : Word) : Bool := bits v.toNat 31 16 == 0xD25B && v.getLsbD 0

/-- A CONTROL entry (R498): the register's offset in its block, the block code and the value written. -/
def State.logControl (s : State) (path : Port) (off block : Nat) (v : Word) : State :=
  s.logEv 0x0703 (pathSource path) (off + block * 2 ^ 16 + v.toNat * 2 ^ 32)

/-- SOFT_RESET (R95): recorded, then the main domain is held for 8 always-on cycles; during a flush it waits. -/
def execSoftReset (path : Port) (value : Word) (s : State) : Result :=
  .next (if !s.pview path || !keyed value then s
    else
      let s := (s.logControl path 0x00C 4 value).drainEvents
      if s.evr.flushing then ({ s with aon := { s.aon with softAfterFlush := true } } : State).stampReset s
      else
        let s := s.resetFor 3
        { s with aon := { s.aon with softHold := true } })

/-- SOFT_RESET_HOLD_EXPIRY (R95). -/
def execSoftResetHoldExpiry (s : State) : Result := .next { s with aon := { s.aon with softHold := false } }

/-- The first of the causes in the order COLD, BROWNOUT, PIN, SOFT, STANDBY_EXIT (R104). -/
def firstCause (c : BitVec 5) : Nat := ((List.range 5).find? fun i => c.getLsbD i).elim 0 fun i => 2 ^ i

/-- INTERNAL_RESET_RELEASE (R93, R97): every release condition holds; the straps are sampled and STARTS increments. -/
def execInternalResetRelease (straps : BitVec 9) (s : State) : Result :=
  .next (if !s.aon.mainReset || !s.awake || s.aon.softHold || !s.aon.pwrEnMain then s
    else
      let cause := firstCause s.aon.causes
      let s : State := { s with
        aon := { s.aon with mainReset := false, resetN := true, testMode := false, refPresent := true, causes := 0#5 }
        sys := { s.sys with straps := straps.setWidth 32, rstCause := BitVec.ofNat 32 cause }
        evr := { s.evr with starts := s.evr.starts + 1 } }
      s.logEv 0x0101 0xFFFF (cause + straps.toNat * 256 + s.evr.starts.toNat * 2 ^ 32))

/-- PLL_LOCK (R89, R98): every PLL has locked, within 40 µs of the release; device time starts at 0. How long it took is
open: a free value (log entry 10). -/
def execPllLock (s : State) : Result :=
  .next (if s.aon.mainReset || s.aon.pllLocked then s
    else
      let (f, s) := s.takeFree
      let s : State := { s with
        aon := { s.aon with pllLocked := true }, dev := 0, sys := { s.sys with uptimeNs := f.toNat % 40001 } }
      ((s.setRdy 0).setRdy 1).setRdy 3)

/-! ## Retention standby (R86 to R88) -/

/-- STANDBY_REQUEST (R86): at the next boundary, or at once while the period generator does not run. -/
def execStandbyRequest (path : Port) (value : Word) (s : State) : Result :=
  .next (if !s.pview path || !keyed value then s
    else
      let s := s.logControl path 0x010 3 value
      if s.aon.standby ≠ .none then s
      else if s.prd.gen = .idle then
        ({ s with prd := { s.prd with started := false, lockWaitEnd := none } } : State).enterStandby
      else { s with aon := { s.aon with standby := .requested } })

/-- PWR_EN_MAIN rises: the main domain starts again once its rails are in range (R87). -/
def State.powerUp (s : State) : State :=
  { s with aon := { s.aon with standby := .none, pwrEnMain := true, wakeLatched := false } }

/-- WAKE_RISE (R87, R88): ends standby, at once if PWR_EN_MAIN fell more than 10 ms earlier (`passed`), else at
PWR_EN_MAIN_RISE; during entry it is remembered. Without the oscillator nothing is seen (R111). -/
def execWakeRise (passed : Bool) (s : State) : Result :=
  .next (if s.aon.aonReset || !s.aon.oscRunning then s
    else
      let s : State := { s with aon := { s.aon with wake := true } }
      match s.aon.standby with
      | .asleep =>
        let s : State := { s with aon := { s.aon with wakeLatched := true } }
        if passed then s.powerUp else s
      | .flushing | .waitL2 => { s with aon := { s.aon with wakeLatched := true } }
      | .none | .requested => s)

/-- PWR_EN_MAIN_RISE (R87): 10 ms have passed since it fell, and WAKE has ended standby. -/
def execPwrEnMainRise (s : State) : Result :=
  .next (if s.aon.standby == .asleep && s.aon.wakeLatched && s.aon.oscRunning then s.powerUp else s)

/-- AON_OSCILLATOR_STOP (R111). -/
def execAonOscillatorStop (s : State) : Result := .next { s with aon := { s.aon with oscRunning := false } }

/-! ## Monitors (R79 to R84) -/

/-- Do the main-domain monitors act: out of reset? -/
def State.monitored (s : State) : Bool := !s.aon.mainReset && s.awake

/-- Bits of SYS_MON_EVENTS and SYS_MON_STATUS set; the MONITOR entry names the newly set ones (R104, R498). -/
def State.monBits (s : State) (m : Word) (inj : Bool := false) : State :=
  let new := m &&& ~~~s.sys.monEvents
  let s : State := { s with sys := { s.sys with monEvents := s.sys.monEvents ||| m, monStatus := s.sys.monStatus ||| m } }
  if new = 0#32 then s else s.logEv 0x0201 0xFFFF new.toNat inj

/-- Live levels that end. -/
def State.monClear (s : State) (m : Word) : State :=
  { s with sys := { s.sys with monStatus := s.sys.monStatus &&& ~~~m } }

/-- SUPPLY_MONITOR_CROSS (R79): bit is the comparator's bit in SYS_MON_EVENTS, 0 to 11. -/
def execSupplyMonitorCross (bit t : Nat) (a : CapoIn) (s : State) : Result :=
  .next (if !s.monitored || decide (11 < bit) then s
    else
      let s := (s.advanceTo t).monBits (setBit 0#32 bit)
      ({ s with sys := { s.sys with supplyCond := true } } : State).condition 1 a)

/-- SUPPLY_CONDITION_CLEAR (R79). -/
def execSupplyConditionClear (t : Nat) (s : State) : Result :=
  .next (
    let s := (s.advanceTo t).monClear 0xFFF#32
    { s with sys := { s.sys with supplyCond := false } })

/-- A clock condition of R81 arises on the PLLs or reference of a mask of SYS_MON_EVENTS: CLOCKS is lost (R98). -/
def State.clockFault (s : State) (m : Word) (a : CapoIn) : State :=
  let s := (s.monBits m).clrRdy 0
  ({ s with sys := { s.sys with clockCond := true } } : State).condition 2 a

/-- PLL_LOCK_LOSS (R81): 0 PLL_A, 1 PLL_C, 2 PLL_M, 3 PLL_T, 4 PLL_G. -/
def execPllLockLoss (pll t : Nat) (a : CapoIn) (s : State) : Result :=
  .next (if !s.monitored || decide (4 < pll) then s else (s.advanceTo t).clockFault (setBit 0#32 (16 + pll)) a)

/-- PLL_FREQ_WINDOW_END (R81): `off` marks the PLLs whose count was more than 1 % off. -/
def execPllFreqWindowEnd (off : BitVec 5) (t : Nat) (a : CapoIn) (s : State) : Result :=
  .next (if !s.monitored || off == 0#5 then s else (s.advanceTo t).clockFault (off.setWidth 32 <<< 16) a)

/-- REFERENCE_LOSS (R81, R83): seen by the always-on domain while its oscillator runs (R111). Pennants carry HOLDOVER,
and its advisory report is raised (R443, log entry 49). -/
def execReferenceLoss (t : Nat) (a : CapoIn) (s : State) : Result :=
  .next (if !s.monitored || !s.aon.oscRunning then s
    else
      let s := s.advanceTo t
      let s : State := { s with aon := { s.aon with refPresent := false }
                                pen := { s.pen with acc := { s.pen.acc with holdover := true } } }
      (s.report 18 0xFF 0).clockFault (setBit 0#32 21) a)

/-- CLOCK_CONDITION_CLEAR (R81, R98): CLOCKS returns, and ports that waited for it become ready. -/
def execClockConditionClear (t : Nat) (s : State) : Result :=
  .next (if !s.monitored || !s.sys.clockCond then s
    else
      let s := (s.advanceTo t).monClear 0x3F0000#32
      let s : State := { s with sys := { s.sys with clockCond := false }, aon := { s.aon with refPresent := true } }
      if s.aon.pllLocked then (s.setRdy 0).refreshPorts else s)

/-- DDR_PLL_LOCK_LOSS (R82): the condition does not clear in this start. -/
def execDdrPllLockLoss (chan t : Nat) (a : CapoIn) (s : State) : Result :=
  .next (if !s.monitored || decide (s.grade.channels ≤ chan) then s
    else
      let s := (s.advanceTo t).monBits (setBit 0#32 22)
      let lost := if s.sys.ddrChanLost.contains chan then s.sys.ddrChanLost else s.sys.ddrChanLost ++ [chan]
      ({ s with sys := { s.sys with ddrPllLost := true, ddrChanLost := lost } } : State).condition 2 a)

/-- The PCIe link leaves L0 (R94, R98). -/
def State.leaveL0 (s : State) : State := ({ s with pcie := { s.pcie with l0 := false } } : State).clrRdy 2

/-- PCIE_SERDES_PLL_LOSS (R82). -/
def execPcieSerdesPllLoss (s : State) : Result :=
  .next (if !s.monitored then s
    else
      let s := s.monBits (setBit 0#32 23)
      ({ s with sys := { s.sys with pcieSerdesLost := true } } : State).leaveL0)

/-- COURSE_TX_PLL_LOSS (R82): the link goes DOWN with cause 0x04. -/
def execCourseTxPllLoss (link : Nat) (s : State) : Result :=
  .next (if !s.monitored || decide (s.grade.links ≤ link) then s
    else
      let s := s.monBits (setBit 0#32 23)
      ({ s with sys := { s.sys with courseTxLost := link :: s.sys.courseTxLost } } : State).linkDown link 4)

/-- A reading in 0.125 degC, halves rounded up (R104). -/
def tempRound (m : Int) : Int := (m * 8 + 500) / 1000

/-- What a sample of the sensors does to the thermal condition (R84): readings in m degC. THERM_TRIP and the abort arise as
a reading passes the limit; the level and the condition last until every sensor is 5 degC below (log entry 49). -/
def State.thermal (s : State) (l : List Int) (a : CapoIn) (inj : Bool) : State :=
  let lim := s.grade.tLimit
  let warn := l.any fun m => decide (lim - 10000 ≤ m)
  let wasWarn := s.sys.monStatus.getLsbD 25
  let s : State := { s with sys := { s.sys with
    monStatus := putBit s.sys.monStatus 25 warn
    monEvents := if warn && !wasWarn then setBit s.sys.monEvents 25 else s.sys.monEvents } }
  let s := if warn && !wasWarn then s.logEv 0x0202 s.sys.tempSensor.toNat s.sys.tempMax.toNat inj else s
  let s : State := if !inj && l.any fun m => decide (lim + 10000 ≤ m) then
      { s with aon := { s.aon with thermShdnN := false } }
    else s
  if l.any fun m => decide (lim < m) then
    if s.sys.monStatus.getLsbD 24 then s
    else
      let s := s.monBits (setBit 0#32 24) inj
      ({ s with sys := { s.sys with thermCond := true } } : State).condition 4 a inj
  else if l.all fun m => decide (m ≤ lim - 5000) then
    let s := s.monClear (setBit 0#32 24)
    { s with sys := { s.sys with thermCond := false } }
  else s

/-- TEMP_SAMPLE (R84, R104): one reading per sensor, in m degC. -/
def execTempSample (milliC : List Int) (t : Nat) (a : CapoIn) (s : State) : Result :=
  .next (
    let l := milliC.take s.grade.sensors
    match l with
    | [] => s
    | x :: _ =>
      if !s.monitored then s
      else
        let s := (s.advanceTo t).timeDue
        if !s.monitored then s
        else
          let top := (l.map tempRound).foldl max (tempRound x)
          let sensor := ((List.range l.length).find? fun i => tempRound (l.getD i 0) == top).getD 0
          let s : State := { s with sys := { s.sys with
            tempMax := BitVec.ofInt 16 top, tempSensor := BitVec.ofNat 8 sensor } }
          s.thermal l a false)

end Sys2Proof.Machine
end

