-- ==== Sys2Proof/Machine/Course.lean ====
section
/-!
DEFINITION. The Course links (R461 to R492): receiving flits, retry, training and identity, start coordination, the peer's
boundaries, digests and ends, messages and pages across chips, and fencing.
-/

namespace Sys2Proof.Machine

/-! ## Link states (R471 to R474, R489) -/

/-- The number of a link state in CRS_LINK_STATUS (R489). -/
def LinkSt.code : LinkSt → Nat
  | .off => 0
  | .training => 1
  | .up => 2
  | .down => 3
  | .failed => 4
  | .fenced => 5

/-- A link's new state logged with its last cause (R498). -/
def State.logLink (s : State) (k : Nat) : State := s.logEv 0x0601 k ((s.link k).st.code + (s.link k).cause * 256)

/-- Does the grade have link k, in a mode other than SOLO, as loaded (R461, R462)? -/
def State.linkUsed (s : State) (k : Nat) : Bool := decide (k < s.grade.links) && s.img.linksDone && (s.linkCfg k).mode != 0

/-- Training begins (R472): at load step 4, after each DOWN, and when a fence is removed. A link that is fenced by then is
FENCED instead (R488). -/
def State.beginTraining (s : State) (k : Nat) : State :=
  if s.linkUsed k && (s.link k).st != .failed then
    if s.crs.fence.getLsbD k then
      if (s.link k).st = .fenced then s else (s.modLink k fun l => { l with st := .fenced, locked := false }).logLink k
    else
    (s.modLink k fun l => { l with st := .training, locked := false, gotHello := false, helloZero := false,
                                   planSent := false, peerP := 0, peerPhase := 0#64 }).logLink k
  else s

/-- The link is FAILED for the rest of the start (R473). -/
def State.linkFail (s : State) (k cause : Nat) : State :=
  let s := ((s.unlink k).linkUnready k).failPort (linkPortBit k)
  (s.modLink k fun l => { l with st := .failed, cause := cause, held := [], txQ := [], outQ := [], hold := [] }).logLink k

/-- The level of CRS0_UP or CRS1_UP (R474). -/
def State.crsUp (s : State) (k : Nat) : Bool :=
  (s.link k).st == .up && (s.link k).linked && !s.crs.fence.getLsbD k && !s.aon.mainReset

/-- P in µs and PHASE of plan instance 0, zero while it is not accepted (R472). -/
def State.ownP (s : State) : Nat × Nat := if s.ready 12 then (s.prd.pUs, s.prd.phase.toNat) else (0, 0)

/-- P and PHASE compared once both sides have reported them (R473). -/
def State.comparePlan (s : State) (k : Nat) : State :=
  let l := s.link k
  if l.st == .up && s.ready 12 && l.peerP != 0 && (l.peerP != s.prd.pUs || l.peerPhase != s.prd.phase) then s.linkFail k 0x16
  else s

/-- The HELLO of this side (R472). -/
def State.helloPayload (s : State) (k : Nat) : List Byte :=
  [0#8] ++ leBytes 1 s.grade.code ++ leBytes 1 (modPos s) ++ leBytes 1 k ++ leBytes 1 (s.linkCfg k).mode
    ++ leBytes 1 (s.linkCfg k).lanes ++ leBytes 4 s.rdy.imgId.toNat ++ leBytes 4 s.ownP.1 ++ leBytes 8 s.ownP.2

/-- PLANINFO sent once by a side whose HELLO carried zeros (R473). -/
def State.sendPlanInfo (s : State) (k : Nat) : State :=
  let l := s.link k
  if l.st == .up && l.helloZero && !l.planSent && s.ready 12 then
    (s.sendFlit k 1 ([3#8] ++ List.replicate 9 0#8 ++ leBytes 4 s.ownP.1 ++ leBytes 8 s.ownP.2)).modLink k fun l =>
      { l with planSent := true }
  else s

/-- Plan instance 0 is accepted: each UP link reports and compares it (R473). -/
def State.announcePlan (s : State) : State :=
  (List.range s.grade.links).foldl (fun s k => (s.sendPlanInfo k).comparePlan k) s

/-! ## Sharing networks (R486) -/

/-- SHARE for a ready network over an UP JOINED link. -/
def State.sendShare (s : State) (k net : Nat) : State :=
  if (s.linkCfg k).mode == 2 && (s.link k).st == .up then
    let n := s.net net
    (s.sendFlit k 1 ([2#8] ++ leBytes 1 net ++ leBytes 4 n.pages ++ leBytes 4 n.wCheck.toNat)).modLink k fun l =>
      { l with ownShare := tput {} l.ownShare net { pages := n.pages, check := n.wCheck, set := true } }
  else s

/-- SHARE on every link for a network that has become ready. -/
def State.shareNet (s : State) (net : Nat) : State := (List.range s.grade.links).foldl (fun s k => s.sendShare k net) s

/-- SHARE for every ready network on a link that has come UP. -/
def State.shareAll (s : State) (k : Nat) : State :=
  (s.img.nets.map (·.1)).foldl (fun s n => if s.netReady n then s.sendShare k n else s) s

/-! ## Receiving (R465, R468, R471) -/

/-- A rewind (R468, R469): held flits go out again; 8 retries of the same SEQ take the link DOWN. -/
def State.rewind (s : State) (k : Nat) : State :=
  if (s.link k).held.isEmpty then s
  else
    let s : State := { s with pen := { s.pen with acc := { s.pen.acc with linkRetries := satAdd 16 s.pen.acc.linkRetries 1 } } }
    let s := s.modLink k fun l => { l with
      retries := l.retries + 1, events := setBit l.events 1, sameRetries := l.sameRetries + 1 }
    if 8 ≤ (s.link k).sameRetries then s.linkDown k 1 else s.modLink k (Link.resend (lflags s k))

/-- A NAK (R468): the first one that names a number rewinds; a later one of the same number has no effect until that flit is
acknowledged, when it is lost once more to the replay timer (DESIGN CHOICE, log entry 34: the spec speaks of those that come before
the resent flit has gone out). -/
def State.takeNak (s : State) (k : Nat) (n : Byte) : State :=
  if (s.link k).nakFor = some n then s
  else (s.modLink k fun l => { l with nakFor := some n }).rewind k

/-- ACK and NAK of a received flit (R465, R468): acknowledged flits are let go, each a measured round trip (a free value, log
entry 10); a NAK rewinds. -/
def State.takeAck (s : State) (k : Nat) (f : FlitIn) : State :=
  let l := s.link k
  let left := l.held.filter fun x => decide (128 ≤ (f.ack - 1 - x.seq).toNat)
  let s := if left.length < l.held.length then
      let (v, s) := s.takeFree
      s.modLink k fun l => { l with held := left, sameRetries := 0, nakFor := none, rtt := v.setWidth 32 }
    else s
  let s := s.modLink k fun l => { l with peerHold := f.lflags.getLsbD 2 }
  let s := if f.lflags.getLsbD 0 then s.takeNak k f.ack else s
  (s.pumpLink k).pumpMsgs k 16

/-- Does the link receive: in training or UP, and not fenced (R488)? -/
def State.receives (s : State) (k : Nat) : Bool :=
  decide (k < s.grade.links) && !s.crs.fence.getLsbD k && ((s.link k).st == .training || (s.link k).st == .up)

/-- A flit discarded for its CRC or, as `crcBad` false says, a sequenced one for its SEQ (R468, R471): NAK is set, and 16 CRC
failures within 10 µs take the link DOWN. -/
def State.discardFlit (s : State) (k : Nat) (crcBad : Bool) : State :=
  let s := s.modLink k fun l => { l with nak := true }
  if !crcBad then s
  else
    let now := s.now
    let s := s.modLink k fun l => { l with
      crcErrs := l.crcErrs + 1, events := setBit l.events 0
      crcTimes := (now :: l.crcTimes).filter fun x => decide (now ≤ x + 10000) }
    if 16 ≤ (s.link k).crcTimes.length then s.linkDown k 2 else s

/-- The flit of a TYPE as it was received (R465). -/
def flitAs (typ : Nat) (f : FlitIn) : Flit :=
  { typ := typ, seq := f.seq, ack := f.ack, lflags := f.lflags, payload := f.payload }

/-- Does the CRC of a received flit hold (R465): the one received is that over its bytes? -/
def crcHolds (typ : Nat) (f : FlitIn) : Bool :=
  match f.crc with
  | none => true
  | some c => c == (flitAs typ f).crc

/-- A flit's common part: one whose CRC fails is discarded; FENCED takes the link DOWN; else ACK, NAK and MSG_HOLD are taken. The
Bool says whether the flit is taken and the link still receives. -/
def State.takeFlit (s : State) (k typ : Nat) (f : FlitIn) : State × Bool :=
  if !s.receives k then (s, false)
  else
    let s := s.advanceTo f.t
    if !crcHolds typ f then (s.discardFlit k true, false)
    else if f.lflags.getLsbD 1 then (s.linkDown k 5, false)
    else
      let s := s.takeAck k f
      (s, s.receives k)

/-- A sequenced flit accepted (R468): its SEQ is the one expected; any other is discarded, and NAK is set. -/
def State.accept (s : State) (k typ : Nat) (f : FlitIn) : State × Bool :=
  let (s, on) := s.takeFlit k typ f
  if !on then (s, false)
  else if f.seq = (s.link k).rxSeq then
    (s.modLink k fun l => { l with rxSeq := l.rxSeq + 1, nak := false, rxFlits := l.rxFlits + 1 }, true)
  else (s.discardFlit k false, false)

/-- What an accepted flit of an UP link does. -/
def State.onFlit (s : State) (k typ : Nat) (f : FlitIn) (g : State → State) : State :=
  let r := s.accept k typ f
  if r.2 && (r.1.link k).st == .up then g r.1 else r.1

/-- FLIT_IDLE (R465, R468). -/
def execFlitIdle (link : Nat) (f : FlitIn) (s : State) : Result := .next (s.takeFlit link 0 f).1

/-- FLIT_CRC_FAIL (R468, R471): a flit that is not accepted, for its CRC or for its SEQ. -/
def execFlitCrcFail (link : Nat) (crcBad : Bool) (t : Nat) (s : State) : Result :=
  .next (if !s.receives link then s else (s.advanceTo t).discardFlit link crcBad)

/-- REPLAY_TIMER_EXPIRY (R469). -/
def execReplayTimerExpiry (link : Nat) (s : State) : Result := .next (if s.receives link then s.rewind link else s)

/-- LINK_SILENCE_TIMEOUT (R471). -/
def execLinkSilenceTimeout (link : Nat) (s : State) : Result :=
  .next (if (s.link link).st == .up then s.linkDown link 3 else s)

/-- LANE_LOCK_LOSS (R471): a link that has lock loses it. -/
def execLaneLockLoss (link : Nat) (s : State) : Result :=
  .next (if (s.link link).st == .up || (s.link link).locked then s.linkDown link 4 else s)

/-- LINK_RETRAIN_TIMER (R471, R472): 10 ms after DOWN. -/
def execLinkRetrainTimer (link : Nat) (s : State) : Result :=
  .next (if (s.link link).st == .down then s.beginTraining link else s)

/-- SKIP_INSERT (R464): the transmitter's SKIP group after 2,048 flits. -/
def execSkipInsert (link : Nat) (s : State) : Result :=
  .next (if (s.link link).sent.length < 2048 then s else s.modLink link Link.skip)

/-! ## Training and identity (R472, R473) -/

/-- HELLO_TIMER (R472): lanes locked and deskewed, HELLO goes out every 1 µs until a good HELLO has been received. -/
def execHelloTimer (link : Nat) (s : State) : Result :=
  .next (if (s.link link).st != .training || (s.link link).gotHello then s
    else
      let s := s.modLink link fun l => { l with locked := true, helloZero := !s.ready 12 }
      s.sendFlit link 1 (s.helloPayload link))

/-- Why a HELLO is not good, 0 where it is (R473, R489). -/
def State.helloFault (s : State) (k : Nat) (p : List Byte) : Nat :=
  let c := s.linkCfg k
  if field p 4 1 ≠ c.mode then 0x11
  else if field p 5 1 ≠ c.lanes then 0x12
  else if field p 1 1 ≠ s.grade.code then 0x13
  else if field p 2 1 ≠ c.peerPos then 0x14
  else if c.peerImageId ≠ 0#32 ∧ c.peerImageId ≠ wordAt p 6 then 0x15
  else 0

/-- The link comes UP (R473 to R475, R486). -/
def State.linkUp (s : State) (k : Nat) (p : List Byte) : State :=
  let s := s.modLink k fun l => { l with
    st := .up, gotHello := true, locked := true, peerId := wordAt p 6, peerP := field p 0x0A 4
    peerPhase := BitVec.ofNat 64 (field p 0x0E 8) }
  let s : State := { s with sys := { s.sys with courseTxLost := s.sys.courseTxLost.filter fun x => x != k } }
  let s := ((s.serdesLevel.setPort (linkPortBit k)).logLink k).comparePlan k
  if (s.link k).st == .up then ((s.sendPlanInfo k).shareAll k).coordinate else s

/-- HELLO (R471 to R473): on an UP link it marks a peer that has started again. -/
def execHello (link : Nat) (f : FlitIn) (s : State) : Result :=
  .next (
    let r := s.accept link 1 f
    let s := r.1
    if !r.2 then s
    else if (s.link link).st == .up then s.linkDown link 6
    else
      let c := s.helloFault link f.payload
      if c = 0 then s.linkUp link f.payload
      else (s.modLink link fun l => { l with peerId := wordAt f.payload 6 }).linkFail link c)

/-- PLANINFO (R473). -/
def execPlaninfo (link : Nat) (f : FlitIn) (s : State) : Result :=
  .next (s.onFlit link 1 f fun s =>
    (s.modLink link fun l => { l with
      peerP := field f.payload 0x0A 4, peerPhase := BitVec.ofNat 64 (field f.payload 0x0E 8) }).comparePlan link)

/-- CRS_START_FLIT (R475): the peer's first boundary. -/
def execCrsStartFlit (link : Nat) (f : FlitIn) (s : State) : Result :=
  .next (s.onFlit link 1 f fun s =>
    (s.modLink link fun l => { l with peerFirst := some (field f.payload 4 8) }).coordinate)

/-- SHARE (R486). -/
def execShare (link : Nat) (f : FlitIn) (s : State) : Result :=
  .next (s.onFlit link 1 f fun s => s.modLink link fun l => { l with
    peerShare := tput {} l.peerShare (field f.payload 1 1)
      { pages := field f.payload 2 4, check := wordAt f.payload 6, set := true } })

/-! ## Periods (R475 to R477) -/

/-- A BOUNDARY flit's content (R466). -/
def bndInfo (p : List Byte) : BndInfo :=
  { period := wordAt p 0, boundary := BitVec.ofNat 64 (field p 4 8), planId := BitVec.ofNat 16 (field p 0x0C 2),
    inst := field p 0x0E 1, slot := field p 0x0F 1 }

/-- BOUNDARY_FLIT (R475, R476): for the boundary under way it is judged if it comes by step 9, 5 µs after the boundary; for
the next grid point it is kept. -/
def execBoundaryFlit (link : Nat) (f : FlitIn) (s : State) : Result :=
  .next (s.onFlit link 2 f fun s =>
    let b := bndInfo f.payload
    let here := s.prd.anyBoundary && decide (tDist b.boundary s.prd.boundary < s.prd.pUs * 500)
    let keep (s : State) : State := s.modLink link fun l => { l with peerBnd := some b }
    if here then
      if s.prd.gen == .capo && decide (s.now ≤ s.boundaryNs + 5000) then (keep s).evalLink link b else s
    else if s.prd.anyBoundary then keep s
    else (keep s).coordinate)

/-! ## Paired mode (R479 to R481) -/

/-- A DIGEST or END flit: kept during a capo for the release, else taken. -/
def State.peerFlit (s : State) (k typ : Nat) (p : List Byte) : State :=
  let f : Flit := { typ := typ, payload := p }
  if s.prd.gen == .capo then { s with crs := { s.crs with early := s.crs.early ++ [f] } } else s.takePeer k f

/-- DIGEST_FLIT (R480). -/
def execDigestFlit (link : Nat) (f : FlitIn) (s : State) : Result :=
  .next (s.onFlit link 3 f fun s => s.peerFlit link 3 f.payload)

/-- END_FLIT (R480). -/
def execEndFlit (link : Nat) (f : FlitIn) (s : State) : Result :=
  .next (s.onFlit link 4 f fun s => s.peerFlit link 4 f.payload)

/-! ## Messages across chips (R484, R485) -/

/-- A received message offered to its instance on its tile: delivered, discarded, or (true) to be held,
behind an earlier one of its sender to the mailbox too, for they arrive in the order sent. -/
def State.offer (s : State) (k : Nat) (r : RemMsg) : State × Bool :=
  let behind := (s.link k).hold.any fun h =>
    h.job == r.job && h.period == r.period && h.msg.src == r.msg.src && h.msg.dst == r.msg.dst && h.msg.mbox == r.msg.mbox
  if !(s.link k).linked || !s.grade.hasTile r.msg.dst then (s.linkDiscard k, false)
  else
    let soon := s.prd.gen == .capo && r.period == s.prd.count
    match s.instOf r.job r.period with
    | none => if soon then (s, true) else (s.linkDiscard k, false)
    | some i =>
      let box := tget [] (s.tile r.msg.dst).tc.mbox r.msg.mbox
      if !i.running.contains r.msg.dst then
        if i.st = .running then (s.linkDiscard k, false) else (s, true)
      else if behind || decide (4 ≤ box.length) then (s, true)
      else
        (s.modTc r.msg.dst fun c =>
          { c with mbox := tput [] c.mbox r.msg.mbox (box ++ [{ r.msg with inst := i.id }]) }, false)

/-- A message received from the peer, its PERIOD translated (R466, R476, R485). -/
def State.remMsg (s : State) (k : Nat) (a b : List Byte) : RemMsg :=
  { msg := { dst := field a 0 1, mbox := field a 1 1 % 8, src := field a 2 1, inst := 0, pos := some (s.linkCfg k).peerPos
             data := BitVec.ofNat 256 (leNat (slice a 0x0A 16 ++ slice b 0 16)) }
    job := field a 4 2, period := wordAt a 6 - (s.link k).delta }

/-- A message received whole (R485): delivered, discarded, or held; at most 8 are held, and one more is discarded. -/
def State.takeMsg (s : State) (k : Nat) (a b : List Byte) : State :=
  let m := s.remMsg k a b
  let r := s.offer k m
  if !r.2 then r.1
  else if 8 ≤ (r.1.link k).hold.length then r.1.linkDiscard k
  else r.1.modLink k fun l => { l with hold := l.hold ++ [m] }

/-- MSG_PAIR (R466, R485): MSG_A and MSG_B. Where the MSG_A has been accepted and its MSG_B lost, a resend brings the MSG_B
alone. -/
def execMsgPair (link : Nat) (f : FlitIn) (g : FlitIn) (s : State) : Result :=
  .next (
    let s := if (s.link link).msgA.isSome then s
      else s.onFlit link 5 f fun s => s.modLink link fun l => { l with msgA := some f.payload }
    match (s.link link).msgA with
    | none => s
    | some a => s.onFlit link 6 g fun s => (s.modLink link fun l => { l with msgA := none }).takeMsg link a g.payload)

/-- REMOTE_MSG_REOFFER (R485): held messages offered again, oldest first. -/
def execRemoteMsgReoffer (link : Nat) (s : State) : Result :=
  .next (
    let l := (s.link link).hold
    let s := s.modLink link fun l => { l with hold := [] }
    l.foldl (fun s m =>
      let r := s.offer link m
      if r.2 then r.1.modLink link fun l => { l with hold := l.hold ++ [m] } else r.1) s)

/-! ## Pages across chips (R487) -/

/-- Is a network shared over a link in a linked period, with this side as the lead (R486)? -/
def State.leads (s : State) (k net : Nat) : Bool :=
  (s.linkCfg k).mode == 2 && (s.link k).linked && (tget {} (s.link k).ownShare net).set &&
    tget {} (s.link k).ownShare net == tget {} (s.link k).peerShare net && decide (modPos s < (s.linkCfg k).peerPos)

/-- PAGE_REQ (R487): served as a demand fetch keyed by DEADLINE, merged with an own fetch; a poisoned page is told at once. -/
def execPageReq (link : Nat) (f : FlitIn) (s : State) : Result :=
  .next (s.onFlit link 7 f fun s =>
    let net := field f.payload 0 1
    let page := field f.payload 2 4
    if !s.leads link net then s
    else if s.dram.poisoned.contains (net, page) then s.sendPage link net page true []
    else (s.addFetch { net := net, page := page, key := field f.payload 6 8, subs := [], fromPeer := some link } none).pagerRun)

/-- A shared page falls back to the own DRAM (R487). -/
def State.fallBack (s : State) (k net page : Nat) : State :=
  let s := s.modStaging fun l => l.map fun e => if e.isPage net page && !e.whole then { e with remote := false } else e
  s.modLink k fun l => { l with events := setBit l.events 7, pageNet := none, pageData := [] }

/-- Is a page asked of the lead and not yet whole? -/
def State.remoteEntry (s : State) (net page : Nat) : Option Staged :=
  s.dram.staging.find? fun e => e.isPage net page && e.remote && !e.whole

/-- PAGE_HEAD (R487): a page comes, or is POISONED at the lead. -/
def execPageHead (link : Nat) (f : FlitIn) (s : State) : Result :=
  .next (s.onFlit link 8 f fun s =>
    let net := field f.payload 0 1
    let page := field f.payload 2 4
    if (s.remoteEntry net page).isNone then s.modLink link fun l => { l with pageNet := none, pageData := [] }
    else if bitOf (field f.payload 1 1) 0 then s.fallBack link net page
    else s.modLink link fun l => { l with pageNet := some (net, page), pageData := [] })

/-- PAGE_DATA (R466, R487): 26 bytes of the page; with the 631st flit the page is checked. -/
def execPageData (link : Nat) (f : FlitIn) (s : State) : Result :=
  .next (s.onFlit link 9 f fun s =>
    match (s.link link).pageNet with
    | none => s
    | some (net, page) =>
      let d := (s.link link).pageData ++ pad26 f.payload
      if d.length < pageBytes then s.modLink link fun l => { l with pageData := d }
      else
        let d := d.take pageBytes
        let s := s.modLink link fun l => { l with pageNet := none, pageData := [], pagesRx := l.pagesRx + 1 }
        match s.remoteEntry net page with
        | none => s
        | some e =>
          if pageCheckOk d then s.stagePage e d true false
          else (s.stagePage e d false false).fallBack link net page)

/-- SHARED_PAGE_FALLBACK (R487): no PAGE_HEAD within 50 µs of the request. -/
def execSharedPageFallback (net page : Nat) (s : State) : Result :=
  .next (match s.remoteEntry net page, s.leadLink net with
  | some _, some k => if (s.link k).pageNet = some (net, page) then s else s.fallBack k net page
  | _, _ => s)

/-! ## Fencing (R488) -/

/-- LINK_FENCE (R488): a P-view write of 1 to the link's bit of CRS_FENCE. -/
def execLinkFence (path : Port) (link : Nat) (s : State) : Result :=
  .next (if !s.pview path || decide (s.grade.links ≤ link) || s.crs.fence.getLsbD link then s
    else
      let s := (s.unlink link).linkUnready link
      let s : State := { s with
        crs := { s.crs with fence := setBit s.crs.fence link }
        pen := { s.pen with acc := { s.pen.acc with fenced := true } } }
      let s := s.logEv 0x0602 link 1
      if (s.link link).st == .off || (s.link link).st == .failed then s
      else (s.modLink link fun l => { l with
        st := .fenced, locked := false, gotHello := false, held := [], txQ := [], outQ := [], hold := [], txSeq := 0#8,
        rxSeq := 0#8, nak := false, nakFor := none, sameRetries := 0, crcTimes := [], peerBnd := none, startSent := false, peerFirst := none,
        deltaSet := false, skew := 0, peerHold := false, peerShare := [], msgA := none, pageNet := none, pageData := [] }).logLink link)

/-- LINK_UNFENCE (R488): a write of 0 removes the fence, and training starts again. -/
def execLinkUnfence (path : Port) (link : Nat) (s : State) : Result :=
  .next (if !s.pview path || !s.crs.fence.getLsbD link then s
    else
      let s : State := { s with crs := { s.crs with fence := clrBit s.crs.fence link } }
      let s := s.logEv 0x0602 link 0
      if (s.link link).st == .fenced then s.beginTraining link else s)

end Sys2Proof.Machine
end

