-- ==== Sys2Proof/Machine/Intake.lean ====
section
/-!
DEFINITION. The intake engine (R192 to R227): the checks at frame open, per-line and per-frame check values, conversion,
the pyramid, bands, parts and tags, frame stores, and a frame's completion.
-/

namespace Sys2Proof.Machine

/-! ## Conversion (R207) -/

/-- The samples of a RAW line, unpacked as MIPI CSI-2 packs them (log entry 27). -/
def rawSample (c : StreamCfg) (l : List Byte) (x : Nat) : Nat :=
  let at_ (i : Nat) : Nat := (l.getD i 0#8).toNat
  if c.pixel = 1 then at_ (x / 4 * 5 + x % 4) * 4 + at_ (x / 4 * 5 + 4) / 4 ^ (x % 4) % 4
  else if c.pixel = 2 then at_ (x / 2 * 3 + x % 2) * 16 + at_ (x / 2 * 3 + 2) / 16 ^ (x % 2) % 16
  else at_ (2 * x) + 256 * at_ (2 * x + 1)

/-- The FP16 value nearest an exact quotient, ties to even. -/
def ratio16 (n d : Nat) : Nat := (fround fp16 false (n * 2 ^ 40 / d * 2 + b2n (n * 2 ^ 40 % d != 0)) (-41)).bits

/-- The INT8 value of a RAW sample: rounded to 8 bits, less 128. -/
def rawInt8 (d s : Nat) : Byte := BitVec.ofNat 8 (min 255 ((s + 2 ^ (d - 9)) / 2 ^ (d - 8)) + 128)

/-- One stored value: INT8 or FP16, of `v` out of a full scale. -/
def stored (fp : Bool) (i8 : Byte) (v full : Nat) : List Byte := if fp then leBytes 2 (ratio16 v full) else [i8]

/-- A checked line as a level-0 row, channel-interleaved (R207). PRESUMED (log entry 27): of YUV422, Y lies in the odd bytes of
the line and U and V in the even ones, as MIPI CSI-2 orders them. -/
def convertLine (c : StreamCfg) (l : List Byte) : List Byte :=
  let byte (i : Nat) : List Byte :=
    let b := (l.getD i 0#8).toNat
    stored c.tensorFp16 (BitVec.ofNat 8 (b + 128)) b 255
  if c.isBytes then l.take c.width
  else if c.pixel = 4 then ((List.range c.width).map fun x => byte (2 * x + 1) ++ byte (2 * x)).flatten
  else if c.pixel = 5 then ((List.range (3 * c.width)).map byte).flatten
  else ((List.range c.width).map fun x =>
    let v := rawSample c l x
    stored c.tensorFp16 (rawInt8 c.depth v) v (2 ^ c.depth - 1)).flatten

/-! ## Rows and bands (R208 to R212) -/

/-- DRAM address of a band of a store: its parts lie in consecutive slots (R214). -/
def StreamCfg.bandAddr (c : StreamCfg) (store k b : Nat) : Nat := store + 4096 * c.partUnit k b 0

/-- A row of a level as the builder reads it: level 0 as converted, upper levels back from the store. -/
def State.levelRow (s : State) (fid store k y : Nat) : List Byte :=
  let f := s.frame fid
  let c := s.streamCfg f.stream
  if k = 0 then tget [] f.rows y
  else memRead 0#8 s.dram.mem (c.bandAddr store k (y / 16) + y % 16 * c.rowBytes k) (c.rowBytes k)

/-- Is a row of a level present (R212)? -/
def Frame.hasRow (f : Frame) (k y : Nat) : Bool :=
  if k = 0 then !(tget [] f.rows y).isEmpty else f.built.contains (k, y / 16)

/-- The rows of the level below that a band needs: 32b - 2 to 32b + 32, clamped (R212). -/
def StreamCfg.needs (c : StreamCfg) (k b : Nat) : List Nat :=
  if k = 0 then (List.range (c.bandRows 0 b)).map fun i => 16 * b + i
  else
    let hi := min (32 * b + 32) (c.levelH (k - 1) - 1)
    (List.range (hi + 1)).filter fun y => decide (32 * b - 2 ≤ y)

/-- May the band be built now? -/
def State.buildable (s : State) (fid k b : Nat) : Bool :=
  let f := s.frame fid
  let c := s.streamCfg f.stream
  decide (k ≤ c.kMax) && decide (b < c.bands k) && !f.built.contains (k, b) &&
    (c.needs k b).all fun y => f.hasRow (k - 1) y

/-- A sample position clamped to the edge (R210). -/
def clampPos (p : Int) (n : Nat) : Nat := (max 0 (min p ((n : Int) - 1))).toNat

/-- The five positions 2p - 2 to 2p + 2 that a position of the level above is computed from, clamped (R210). -/
def nearRows (p n : Nat) : List Nat := (List.range 5).map fun i => clampPos ((2 * p + i : Nat) - (2 : Int)) n

/-- Does a row hold or depend on a filled row (R213)? -/
def rowPadded (c : StreamCfg) (padded : List Nat) : Nat → Nat → Bool
  | 0, y => padded.contains y
  | k + 1, y => (nearRows y (c.levelH k)).any fun z => rowPadded c padded k z

/-- The taps of R210. -/
def taps : List Int := [1, 4, 6, 4, 1]

/-- The taps as FP32. -/
def taps32 : List Nat := [0x3F800000, 0x40800000, 0x40C00000, 0x40800000, 0x3F800000]

/-- An FP32 sum of products in ascending order, each rounded. -/
def fsum32 (l : List Nat) : Nat :=
  ((taps32.zip l).map fun x => (fmul fp32 x.1 x.2).bits).foldl (fun a p => match a with
    | none => some p
    | some v => some (fadd fp32 v p).bits) none |>.getD 0

/-- A value of a row as a signed integer. -/
def rowInt (r : List Byte) (i : Nat) : Int := (r.getD i 0#8).toInt

/-- One channel sample of a level from the five rows below it (R210): `xs` are the five clamped columns. -/
def pyramidSample (fp : Bool) (ch c : Nat) (rows : List (List Byte)) (xs : List Nat) : List Byte :=
  if fp then
    let h := rows.map fun r => fsum32 (xs.map fun x => (fconv fp16 fp32 (field r (2 * (x * ch + c)) 2)).bits)
    let v := fsum32 h
    leBytes 2 (((fmulV (fdec fp32 v) (fdec fp32 0x3B800000)).map fun z => (fenc fp16 z).bits).getD fp16.nanBits)
  else
    let h := rows.map fun r => ((taps.zip xs).map fun x => x.1 * rowInt r (x.2 * ch + c)).foldl (· + ·) 0
    let v := ((taps.zip h).map fun x => x.1 * x.2).foldl (· + ·) 0
    [BitVec.ofInt 8 ((v + 128) / 256)]

/-- A row of level k + 1 from level k (R209, R210). -/
def State.pyramidRow (s : State) (fid store k y : Nat) : List Byte :=
  let c := s.streamCfg (s.frame fid).stream
  let rows := (nearRows y (c.levelH k)).map fun r => s.levelRow fid store k r
  ((List.range (c.levelW (k + 1))).map fun x =>
    ((List.range (c.channels (k + 1))).map fun ch =>
      pyramidSample c.tensorFp16 (c.channels k) ch rows (nearRows x (c.levelW k))).flatten).flatten

/-- The bytes of a band (R211). -/
def State.bandData (s : State) (fid store k b : Nat) : List Byte :=
  let c := s.streamCfg (s.frame fid).stream
  ((List.range (c.bandRows k b)).map fun i =>
    if k = 0 then s.levelRow fid store 0 (16 * b + i) else s.pyramidRow fid store (k - 1) (16 * b + i)).flatten

/-- CRC-16/CCITT-FALSE of bytes (R201). -/
def crc16 (l : List Byte) : Nat := crc16Feed 0xFFFF l

/-- The tag of a part (R213). -/
def partTag (c : StreamCfg) (f : Frame) (k b p : Nat) (padded : Bool) : List Byte :=
  let flags := b2n padded + 2 * b2n (p + 1 == c.bandParts k b) + 4 * b2n (b + 1 == c.bands k)
    + 8 * b2n (c.tensorFp16 && !c.isBytes)
  let t := leBytes 2 f.stream ++ leBytes 1 k ++ leBytes 1 flags ++ leBytes 4 f.ext.toNat ++ leBytes 2 b ++ leBytes 1 p
    ++ leBytes 1 (c.channels k) ++ leBytes 2 (min 4096 (c.bandBytes k b - 4096 * p))
  t ++ leBytes 2 (crc16 t)

/-- DRAM bytes written by the pager. -/
def State.dramWrite (s : State) (a : Nat) (bs : List Byte) : State :=
  s.dramPut a bs

/-- A band built, its parts written and, on a produced level, tagged in the order emitted (R211 to R214). -/
def State.buildBand (s : State) (fid k b : Nat) : State :=
  match s.frameStore fid with
  | none => s
  | some store =>
    let f := s.frame fid
    let c := s.streamCfg f.stream
    let n := c.bandParts k b
    let data := s.bandData fid store k b
    let padded := (List.range (c.bandRows k b)).any fun i => rowPadded c f.padded k (16 * b + i)
    let s := s.dramWrite (c.bandAddr store k b) (slice data 0 (4096 * n))
    let s := if c.produced k then
        s.dramWrite (store + 64 + 16 * f.parts) ((List.range n).map fun p => partTag c f k b p padded).flatten
      else s
    let s := s.modFrame fid fun x =>
      { x with built := (k, b) :: x.built, parts := if c.produced k then x.parts + n else x.parts }
    { s with strm := { s.strm with partsC := s.strm.partsC + BitVec.ofNat 64 n } }

/-- Every band left, level by level (R212). -/
def State.buildAll (s : State) (fid : Nat) : State :=
  let c := s.streamCfg (s.frame fid).stream
  (List.range (c.kMax + 1)).foldl (fun s k => (List.range (c.bands k)).foldl (fun s b =>
    if s.buildable fid k b then s.buildBand fid k b else s) s) s

/-- BAND_BUILD (R212, R220): the band of the stream's oldest frame that can build it. -/
def execBandBuild (stream level band : Nat) (s : State) : Result :=
  .next (if s.strm.stopped then s else match s.strm.frm.find? fun x => x.2.stream == stream && x.2.engaged && x.2.state == .opened && !x.2.dropped &&
      s.buildable x.1 level band with
  | some x => s.buildBand x.1 level band
  | none => s)

/-! ## Store heads (R214, R215, R217) -/

/-- STATE of a store head. -/
def FrameSt.code : FrameSt → Nat
  | .opened => 0
  | .delivered => 1
  | .degraded => 2
  | .dropped => 3

/-- The 64 bytes of a store head (R215). -/
def headBytes (c : StreamCfg) (f : Frame) : List Byte :=
  let levels := ((List.range 5).map fun k => if c.produced k then 2 ^ k else 0).foldl (· + ·) 0
  let h := [0xD4#8] ++ leBytes 1 f.state.code ++ leBytes 2 f.stream ++ leBytes 4 f.ext.toNat ++ leBytes 8 f.start
    ++ leBytes 8 f.settled ++ leBytes 4 f.parts ++ leBytes 2 f.missing ++ leBytes 2 (min f.excess 65535)
    ++ leBytes 4 f.gap.toNat ++ leBytes 1 levels ++ [f.guard] ++ List.replicate 22 0#8
  h ++ leBytes 4 (crc32c h).toNat

/-- The head of a frame written to its store. -/
def State.writeStoreHead (s : State) (fid : Nat) : State :=
  match s.frameStore fid with
  | none => s
  | some a => s.dramWrite a (headBytes (s.streamCfg (s.frame fid).stream) (s.frame fid))

/-- Has a released, unfinished job bound the frame (R217)? -/
def State.boundBy (s : State) (fid : Nat) : Bool := s.sch.insts.any fun i => i.r.isSome && i.bound.contains fid

/-- The newest completed frame of a stream, 0 for none. -/
def State.newestDone (s : State) (stream : Nat) : Nat :=
  (s.strm.frm.filter fun x => x.2.stream == stream && x.2.state != .opened).foldl (fun m x => max m x.1) 0

/-- The store a frame takes (R217): one never used, else the oldest that qualifies. -/
def State.chooseStore (s : State) (stream : Nat) : Option Nat :=
  let x := s.stream stream
  if x.storeBase.isNone then none
  else
    match (List.range 3).find? fun k => x.storeUse.getD k 0 == 0 with
    | some k => some k
    | none =>
      let new := s.newestDone stream
      let ok := (List.range 3).filter fun k =>
        let f := x.storeUse.getD k 0
        s.frameDone f && !s.boundBy f && f != new
      ok.foldl (fun m k => match m with
        | none => some k
        | some j => if x.storeUse.getD k 0 < x.storeUse.getD j 0 then some k else some j) none

/-! ## Frame open (R197 to R200, R203) -/

/-- Bits of INTAKE_EVENTS set. -/
def State.intakeEvent (s : State) (b : Nat) : State :=
  { s with strm := { s.strm with events := setBit s.strm.events b } }

/-- Step d of a frame counter, 0 for a repeat, and whether it is backward (R198, R199). -/
def counterStep (c : StreamCfg) (prev raw : Nat) : Nat × Bool :=
  if c.counter = 0 then (1, false)
  else if c.counter = 1 then
    if c.kind = 0 ∧ raw = 0 then (0, false)
    else
      let m := if c.kind = 0 then 65535 else 65536
      let d := (raw + m - prev % m) % m
      (d, decide (32767 < d))
  else
    let d := (raw + 2 ^ 32 - prev % 2 ^ 32) % 2 ^ 32
    (d, decide (2 ^ 31 - 1 < d))

/-- A guard bit of a frame. -/
def State.guardBit (s : State) (fid b : Nat) : State := s.modFrame fid fun x => { x with guard := setBit x.guard b }

/-- Check 2 (R198, R199): the extended counter advances, or the frame is dropped. -/
def State.checkCounter (s : State) (k fid : Nat) : State :=
  let c := s.streamCfg k
  let x := s.stream k
  let f := s.frame fid
  if !x.started then
    let ext : Word := if c.counter = 0 then 0#32 else BitVec.ofNat 32 f.raw
    (s.modStream k fun x => { x with started := true, ext := ext, rawPrev := f.raw }).modFrame fid fun f =>
      { f with exempt := true, ext := ext }
  else
    let (d, back) := counterStep c x.rawPrev f.raw
    if d = 0 ∨ back = true then
      let s := s.modStream k fun x => { x with ctrBad := satAdd 8 x.ctrBad 1 }
      let s := s.modFrame fid fun f => { f with dropped := true, ext := x.ext }
      (s.guardBit fid 2).intakeEvent 2
    else
      let ext := x.ext + BitVec.ofNat 32 d
      (s.modStream k fun x => { x with ext := ext, rawPrev := f.raw, ctrGap := satAdd 16 x.ctrGap (d - 1) }).modFrame fid
        fun f => { f with ext := ext, gap := BitVec.ofNat 32 (d - 1) }

/-- Check 3 (R217): a store taken; a frame that check 2 dropped takes one too, for its head. -/
def State.takeStore (s : State) (k fid : Nat) : State :=
  match s.chooseStore k with
  | some n =>
    (s.modStream k fun x => { x with storeUse := x.storeUse.set n fid }).modFrame fid fun f => { f with store := some n }
  | none =>
    if (s.frame fid).dropped then s
    else
      let s := s.modFrame fid fun f => { f with dropped := true }
      ({ s with strm := { s.strm with noStoreC := s.strm.noStoreC + 1 } } : State).intakeEvent 3

/-- Check 4 (R200): the time since the stream's previous frame against d intervals. -/
def State.checkInterval (s : State) (k fid prev d : Nat) : State :=
  let c := s.streamCfg k
  let f := s.frame fid
  let i := c.intervalUs
  let diff := ((f.start : Int) - prev - (d * i * 1000 : Nat)).natAbs
  if i = 0 ∨ f.exempt = true ∨ f.dropped = true ∨ diff ≤ i * c.tol / 64 * 1000 then s
  else
    let s := s.modStream k fun x => { x with intervalErr := satAdd 7 x.intervalErr 1 }
    ((s.modFrame fid fun f => { f with intervalBad := true }).guardBit fid 3).intakeEvent 4

/-- The tile and unit a per-frame claim holds for a frame (R203, R225). -/
def State.claimOf (s : State) (fid : Nat) : Option (Nat × Nat) :=
  s.tiles.findSome? fun x =>
    ((List.range 2).find? fun u => (x.2.tc.cv u).holder.isIntake && (x.2.tc.cv u).frame == fid).map fun u => (x.1, u)

/-- Intake asks for a unit for stream k (R203): for frame `fid`, or for one line with 0. -/
def State.intakeClaim (s : State) (t u k fid : Nat) : State × Bool :=
  let c := (s.tile t).tc
  if (c.cv u).holder = .intake k ∧ fid ≠ 0 ∧ (c.cv u).frame = fid then (s, true)
  else
    let (c, ok) := c.askCv u (.intake k)
    let c := if ok then c.setCv u { holder := .intake k, run := s.cvInit t u, frame := fid } else c
    (s.modTc t fun _ => c, ok)

/-- The claim intake holds on a unit for stream k ends. -/
def State.intakeRelease (s : State) (t u k : Nat) : State := s.modTc t fun c => c.releaseCv u (.intake k)

/-- A frame's claim ends, if it holds one. -/
def State.endClaim (s : State) (fid : Nat) : State :=
  match s.claimOf fid with
  | some (t, u) => s.intakeRelease t u (s.frame fid).stream
  | none => s

/-- The claim of a per-frame stream asked for its frame; with no LANDING region there is no unit. -/
def State.frameClaim (s : State) (k fid : Nat) : State × Bool :=
  match s.claimOf fid with
  | some _ => (s, true)
  | none =>
    match s.cvTile k with
    | some t => s.intakeClaim t (s.streamCfg k).cvUnit k fid
    | none => (s, false)

/-- The checks of frame open in their order (R197), the head, and a per-frame claim. -/
def State.engage (s : State) (k fid : Nat) : State :=
  let prev := (s.stream k).prevStart
  let before := (s.stream k).ext
  let s := s.checkCounter k fid
  let s := s.takeStore k fid
  let d := ((s.stream k).ext - before).toNat
  let s := s.checkInterval k fid prev (if (s.streamCfg k).counter = 0 then 1 else d)
  let s := s.modStream k fun x => { x with prevStart := (s.frame fid).start, engF := some fid }
  let s := (s.modFrame fid fun f => { f with engaged := true }).writeStoreHead fid
  if (s.streamCfg k).cvScope = 2 ∧ (s.frame fid).dropped = false then (s.frameClaim k fid).1 else s

/-! ## Check values (R201 to R204, R224) -/

/-- A check-value failure counted (R222). -/
def State.countCvFail (s : State) (k fid : Nat) : State :=
  let s := s.modStream k fun x => { x with cvFail := satAdd 16 x.cvFail 1 }
  ((({ s with strm := { s.strm with cvFailC := s.strm.cvFailC + 1 } } : State).intakeEvent 1).guardBit fid 1)

/-- A per-frame failure: the frame is dropped (R204). -/
def State.failFrameCv (s : State) (k fid : Nat) : State :=
  (s.countCvFail k fid).modFrame fid fun f => { f with dropped := true }

/-- A line failed: its row stays unplaced (R204, R226). -/
def State.failLine (s : State) (k fid row : Nat) : State :=
  (s.countCvFail k fid).modFrame fid fun f => { f with placed := f.placed.filter fun r => r != row }

/-- Is the unit's tile excluded (R224)? -/
def State.unitLost (s : State) (k : Nat) : Bool := (s.cvTile k).elim false s.excluded

/-- UNIT_LOST (R224). -/
def State.markLost (s : State) (fid : Nat) : State := (s.guardBit fid 5).intakeEvent 5

/-- The running value of a unit fed with bytes. -/
def State.cvRunFeed (s : State) (t u : Nat) (bs : List Byte) : State :=
  s.modTc t fun c => c.setRun u (s.cvFeed t u (c.cv u).run bs)

/-- Does the unit's value equal the received bytes, little-endian? -/
def State.cvEqual (s : State) (t u : Nat) (got : List Byte) : Bool :=
  leBytes got.length (s.cvFinal t u ((s.tile t).tc.cv u).run).toNat == got

/-- The carrier of a frame compared (R203, R204). -/
def State.compareCarrier (s : State) (k fid : Nat) (got : List Byte) : State :=
  let s0 := s.modFrame fid fun f => { f with cvClosed := true }
  if (s.frame fid).dropped then s0.endClaim fid
  else
    match s.claimOf fid with
    | none => s0.failFrameCv k fid
    | some (t, u) =>
      let s1 := if s.excluded t then s0.markLost fid else s0
      let s1 := if s.excluded t || (s.frame fid).cvBad || !s.cvEqual t u got then s1.failFrameCv k fid else s1
      s1.intakeRelease t u k

/-! ## The landing ring's head (R194) -/

/-- The head of a stream's ring taken out. -/
def State.popItem (s : State) (k : Nat) : State := s.modStream k fun x => { x with ring := x.ring.tail }

/-- Old LANDING frets of a stream that hold none of its lines any more pass to the new plan (R225, R292). -/
def State.passLanding (s : State) (k : Nat) : State :=
  (s.tiles.map (·.1)).foldl (fun s t =>
    let pl := s.landPlan.placement t
    let p := (s.tile t).spm
    let old := (List.range 96).filter fun f =>
      (p.fret f).st == .landing && (p.fret f).stream == k && !s.holdsLine k t f &&
        (match wantOf pl f with
         | some x => !(x.st == .landing && x.stream == k)
         | none => true)
    if old.isEmpty then s else s.modSpm t fun p => p.dirty old) s

/-- A frame's completing event (R174, R218). -/
def State.closeFrame (s : State) (fid t : Nat) : State := s.modFrame fid fun f => { f with closing := true, closeT := t }

/-- Events at the head of a ring taken out, up to the next line; a carrier waits for its frame's claim. What belongs to a frame
that opened before the stream was ready leaves without check or record (R99, R195). -/
def State.drainN (s : State) (k : Nat) : Nat → State
  | 0 => s
  | n + 1 =>
    if (s.stream k).ring.head?.any fun i => (s.frame i.frame).pre then (s.popItem k).drainN k n
    else match (s.stream k).ring with
    | .opened f :: _ => ((s.engage k f).popItem k).drainN k n
    | .carrier f cv :: _ =>
      if (s.frame f).dropped = false ∧ (s.claimOf f).isNone = true ∧ (s.cvTile k).isSome = true then
        let r := s.frameClaim k f
        if r.2 then ((r.1.compareCarrier k f cv).popItem k).drainN k n else r.1
      else ((s.compareCarrier k f cv).popItem k).drainN k n
    | .eofEv f t :: _ => ((s.closeFrame f t).popItem k).drainN k n
    | .endEv f t :: _ => ((s.closeFrame f t).popItem k).drainN k n
    | _ => s

/-- Events taken out once the stream has been ready (R178, R195). -/
def State.drainFrameEvents (s : State) (k : Nat) : State :=
  if (s.stream k).wasReady then (s.drainN k (s.stream k).ring.length).passLanding k else s

/-! ## Lines (R202 to R204, R207, R226) -/

/-- A stream's wait for a unit ends. -/
def State.unwait (s : State) (k : Nat) : State :=
  let s := if (s.stream k).waitClaim then
      match s.cvTile k with
      | some t =>
        let u := (s.streamCfg k).cvUnit
        s.modTc t fun c => c.setWaiters u ((c.waiters u).erase (.intake k))
      | none => s
    else s
  s.modStream k fun x => { x with waitClaim := false }

/-- A line that passed becomes its level-0 row. -/
def State.storeRow (s : State) (k fid row : Nat) (data : List Byte) : State :=
  let c := s.streamCfg k
  let s := s.modFrame fid fun f => { f with rows := tput [] f.rows row (convertLine c (data.take c.lineBytes)) }
  { s with strm := { s.strm with lines := s.strm.lines + 1 } }

/-- The check of a line (R197 check 5, R201): none where it waits for its unit. One accepted after the carrier of its
per-frame stream came out of ascending row order, and fails the frame (R204). -/
def State.checkLine (s : State) (k fid row : Nat) (data : List Byte) : State × Bool :=
  let c := s.streamCfg k
  let u := c.cvUnit
  if c.cvScope = 0 then (s.storeRow k fid row data, true)
  else if s.unitLost k then
    let s := s.markLost fid
    if c.cvScope = 1 then (s.failLine k fid row, true)
    else ((s.failFrameCv k fid).endClaim fid, true)
  else if c.cvScope = 2 ∧ (s.frame fid).cvClosed = true then (s.failFrameCv k fid, true)
  else if c.cvScope = 1 then
    match s.cvTile k with
    | none => (s.failLine k fid row, true)
    | some t =>
      let (s, ok) := s.intakeClaim t u k 0
      if !ok then (s, false)
      else
        let s := s.cvRunFeed t u (data.take c.lineBytes)
        let good := s.cvEqual t u (data.drop c.lineBytes)
        let s := s.intakeRelease t u k
        (if good then s.storeRow k fid row data else s.failLine k fid row, true)
  else
    let (s, ok) := s.frameClaim k fid
    if !ok then (s, false)
    else
      match s.claimOf fid with
      | some (t, u) => ((s.cvRunFeed t u data).storeRow k fid row data, true)
      | none => (s, false)

/-- LINE_CHECK (R202 to R207, R226): the line at the head of a stream's ring. `waited` is its wait for a claim in tile-core
cycles; `ecc` is given where an uncorrectable error met it, which is reported on the tile of its slot. -/
def execLineCheck (stream waited : Nat) (ecc : Option Nat) (s : State) : Result :=
  .next (if !(s.stream stream).wasReady || s.strm.stopped then s
    else
      let s := s.drainFrameEvents stream
      match (s.stream stream).ring with
      | .line fid row data slot :: _ =>
        let r : State × Bool :=
          if (s.frame fid).dropped then (s, true)
          else
            match ecc with
            | some _ => ((s.report 1 slot.tile 0).failLine stream fid row, true)
            | none => s.checkLine stream fid row data
        if r.2 then
          let s := (r.1.unwait stream).popItem stream
          let s : State := if (s.streamCfg stream).cvScope = 0 then s
            else { s with strm := { s.strm with cvWaitMax := maxW s.strm.cvWaitMax waited } }
          s.drainFrameEvents stream
        else r.1.modStream stream fun x => { x with waitClaim := true }
      | _ => s)

/-! ## Completion (R175, R176, R184, R208, R215, R218) -/

/-- Missing rows filled by PAD (R208). -/
def State.padRows (s : State) (fid : Nat) : State :=
  let c := s.streamCfg (s.frame fid).stream
  let gone := (List.range c.height).filter fun r => (tget [] (s.frame fid).rows r).isEmpty
  s.modFrame fid fun f => { f with
    padded := gone, rows := gone.foldl (fun m r => tput [] m r (List.replicate (c.rowBytes 0) 0#8)) f.rows }

/-- The state a frame settles in (R175, R197, R204, R610): under a per-frame check value every short frame is dropped. -/
def outcome (c : StreamCfg) (f : Frame) : FrameSt :=
  let short := !f.hasEof || decide (f.placed.length < c.height)
  if f.dropped || f.guard.getLsbD 6 || (short && (c.dropShort || c.cvScope == 2)) then .dropped
  else if short || (decide (0 < f.excess) && c.strict) || f.intervalBad then .degraded
  else .delivered

/-- What the stream's registers keep of a completed frame (R184). -/
def noteFrame (f : Frame) (x : StreamRt) : StreamRt :=
  { x with
    frames := x.frames + 1
    degradedCnt := if f.state == .degraded then satAdd 16 x.degradedCnt 1 else x.degradedCnt
    lost := if f.state == .dropped then satAdd 16 x.lost 1 else x.lost
    last := BitVec.ofNat 32 (f.missing % 16384 + min f.excess 16383 * 2 ^ 16 + b2n (!f.hasEof) * 2 ^ 30
      + b2n (f.state == .dropped) * 2 ^ 31)
    lastFrame := f.ext }

/-- The place of stream k in a unit's queue is given up, unless a frame of it that is still open needs the unit (R203). -/
def State.leaveUnit (s : State) (k : Nat) : State :=
  let more := s.strm.frm.any fun x => x.2.stream == k && x.2.engaged && x.2.state == .opened && !x.2.dropped && !x.2.cvClosed
  match s.cvTile k, more with
  | some t, false =>
    let u := (s.streamCfg k).cvUnit
    s.modTc t fun c => c.setWaiters u ((c.waiters u).erase (.intake k))
  | _, _ => s

/-- A per-frame frame that completes without its carrier fails its check (R204); on an excluded tile its unit is lost (R224). -/
def State.failCarrier (s : State) (k fid : Nat) : State :=
  let f := s.frame fid
  if (s.streamCfg k).cvScope = 2 ∧ f.dropped = false ∧ f.cvClosed = false then
    let lost := match s.claimOf fid with
      | some (t, _) => s.excluded t
      | none => s.unitLost k
    let s := if lost then s.markLost fid else s
    (s.failFrameCv k fid).guardBit fid 4
  else s

/-- A frame settled: outcome, remaining bands, head, registers, and the jobs that wait for it. Of a dropped frame the bands
are built that its converted rows allow, so that PART_COUNT depends on its lines and events alone (R215, R221). -/
def State.settleFrame (s : State) (k fid : Nat) : State :=
  let c := s.streamCfg k
  let s := (s.failCarrier k fid).endClaim fid
  let s := s.modFrame fid fun f => { f with
    missing := c.height - f.placed.length, guard := putBit f.guard 0 (!f.hasEof), settled := s.now }
  let st := outcome c (s.frame fid)
  let s := (if st = .dropped then s else s.padRows fid).buildAll fid
  let s := s.modFrame fid fun f => { f with state := st, dropped := f.dropped || st == .dropped }
  let f := s.frame fid
  let s := ((s.writeStoreHead fid).modStream k (noteFrame f)).leaveUnit k
  let s : State := { s with strm := { s.strm with settleMax := maxW s.strm.settleMax (s.now - f.closeT) } }
  let ids := (s.sch.insts.filter fun i => i.bound.contains fid).map (·.id)
  ids.foldl State.examineInputs s

/-- FRAME_COMPLETION (R218): the stream's oldest frame whose completing event has been taken out. -/
def execFrameCompletion (stream t : Nat) (s : State) : Result :=
  .next (if s.strm.stopped then s else
    let s := s.drainFrameEvents stream
    match s.strm.frm.find? fun x => x.2.stream == stream && x.2.closing && x.2.state == .opened with
    | none => s
    | some x => ((s.advanceTo t).settleFrame stream x.1).drainFrameEvents stream)

/-! ## Reservation of the stores (R216, R308, R313) -/

/-- The stores of one stream placed at `a`, if they fit below `top`. -/
def State.placeStores (s : State) (top : Nat) (a k : Nat) : State × Nat :=
  let n := 3 * (s.streamCfg k).storeBytes
  if a + n ≤ top then (s.modStream k fun x => { x with storeBase := some a }, a + n)
  else (s.modStream k fun x => { x with noStore := true }, a)

/-- FRAME_STORE_RESERVE (R216): three stores a stream from the bottom of the spill area, in ascending stream index; the rest
is activation spill (R308, R313). -/
def execFrameStoreReserve (s : State) : Result :=
  .next (if !s.ready 14 || !s.img.step6Done || !s.dram.spillFixed || s.dram.storesDone then s
    else
      let base := s.dram.spillBase * 2 ^ 20
      let top := base + s.dram.spillMiB * 2 ^ 20
      let (s, a) := (s.img.streams.map (·.1)).foldl (fun x k => x.1.placeStores top x.2 k) (s, base)
      { s with dram := { s.dram with
        storesDone := true, slotBase := a
        slotCount := min ((top - a) / 4096) (127 * s.grade.tiles.length) } })

end Sys2Proof.Machine
end

