-- ==== Sys2Proof/Machine/LoadCheck.lean ====
section
/-!
DEFINITION. What the loader checks (R118 to R138, R143, R159, R169, R172, R193, R273, R295 to R297, R439, R440, R463): the
header, directory entries, and the body of each section type. A fault is a code of R143 with the index of the first
offending record. Where a section breaks rules of several codes, the order of the codes is the model's (log entry 28).
-/

namespace Sys2Proof.Machine

/-! ## Faults -/

/-- A fault: its code (R143), and the index of the first offending record, or 0xFFFF_FFFF. -/
abbrev Fault1 := Nat × Nat

/-- The record of a fault that concerns none. -/
def noRec : Nat := 0xFFFFFFFF

/-- The code of the first rule that fails. -/
def firstFail (l : List (Bool × Nat)) : Option Nat := (l.find? fun x => !x.1).map (·.2)

/-- The first faulty record of n. -/
def scanRecs (n : Nat) (f : Nat → Option Nat) : Option Fault1 := (List.range n).findSome? fun i => (f i).map fun c => (c, i)

/-- The first fault of a chain of checks. -/
def orElse (a : Option Fault1) (b : Unit → Option Fault1) : Option Fault1 :=
  match a with
  | some x => some x
  | none => b ()

/-- A fault with no record, from rules. -/
def headFail (l : List (Bool × Nat)) : Option Fault1 := (firstFail l).map fun c => (c, noRec)

/-- Are n bytes from an offset zero? -/
def zeros (d : List Byte) (off n : Nat) : Bool := (slice d off n).all fun b => b == 0#8

/-- Are all bytes from an offset on zero? -/
def tailZero (d : List Byte) (off : Nat) : Bool := (d.drop off).all fun b => b == 0#8

/-- COUNT of a section head (R122). -/
def secCount (d : List Byte) : Nat := field d 8 4

/-- Is a record's key distinct from those before it? -/
def distinct (key : Nat → Nat) (i : Nat) : Bool := (List.range i).all fun j => key j != key i

/-- Records of n bytes from an offset lie inside the section, and what follows them is zero (R122). -/
def recordsFit (d : List Byte) (off size count : Nat) : Bool :=
  decide (off + size * count ≤ d.length) && tailZero d (off + size * count)

/-! ## The directory -/

/-- The entry i of directory bytes (R120). -/
def dirEntry (d : List Byte) (i : Nat) : DirEntry :=
  let o := 32 * i
  { typ := field d o 2, inst := field d (o + 2) 2, version := field d (o + 4) 2, flags := field d (o + 6) 2,
    offset := field d (o + 8) 8, length := field d (o + 16) 4, check := wordAt d (o + 20), rsvOk := zeros d (o + 24) 8 }

/-- Largest LENGTH of a section type, none for an unknown type (R121). -/
def maxLength (typ : Nat) : Option Nat :=
  if typ = 1 ∨ typ = 4 ∨ typ = 5 ∨ typ = 6 then some 256
  else if typ = 2 then some (256 * 1024)
  else if typ = 3 then some 4096
  else if typ = 7 then some 1024
  else if typ = 8 then some (512 * 1024)
  else if typ = 0x10 then some (16 * 2 ^ 20)
  else if typ = 0x11 then some (2 * 2 ^ 30)
  else none

/-- Largest INSTANCE of a section type (R120). -/
def maxInst (typ : Nat) : Nat := if typ = 8 then 15 else if typ = 0x10 ∨ typ = 0x11 then 255 else 0

/-- Does the entry's section lie on the eMMC? -/
def DirEntry.onEmmc (e : DirEntry) : Bool := bitOf e.flags 0

/-- Do two byte ranges overlap? -/
def overlaps (a n b m : Nat) : Bool :=
  decide (0 < n) && decide (0 < m) && decide (a < b + m) && decide (b < a + n)

/-- BOOT_SRC (R97). -/
def State.bootSrc (s : State) : Nat := bits s.sys.straps.toNat 2 1

/-- Has an entry a counterpart of the same TYPE and INSTANCE before it (R144)? -/
def State.isDup (s : State) (i : Nat) : Bool :=
  let e := s.img.dir.getD i {}
  (s.img.dir.take i).any fun f => f.typ == e.typ && f.inst == e.inst

/-- Does the entry's section overlap that of another known entry on the same device that is no duplicate (R120, R144)? -/
def State.overlapsOther (s : State) (i : Nat) : Bool :=
  let e := s.img.dir.getD i {}
  (List.range s.img.dir.length).any fun j =>
    let f := s.img.dir.getD j {}
    j != i && (maxLength f.typ).isSome && !s.isDup j && f.onEmmc == e.onEmmc &&
      overlaps e.offset e.length f.offset f.length

/-- The fault that a directory entry shows by itself, 0 for none (R120, R121, R143). -/
def State.entryFault (s : State) (i : Nat) : Nat :=
  let e := s.img.dir.getD i {}
  let n := s.img.dir.length
  (firstFail [
    (!s.isDup i, 0x0B),
    (e.version == 1, 0x0D),
    (decide (e.flags < 2) && e.rsvOk && decide (e.inst ≤ maxInst e.typ), 0x05),
    (!e.onEmmc || (e.typ == 0x11 && s.bootSrc == 1), 0x09),
    (decide (e.length ≤ (maxLength e.typ).getD 0), 0x04),
    (if e.onEmmc then decide (e.offset % 512 = 0)
      else decide (e.offset % 256 = 0) && decide (e.offset + e.length ≤ s.img.imageLength) &&
        !overlaps e.offset e.length 0 64 && !overlaps e.offset e.length s.img.dirOffset (32 * n), 0x04),
    (!s.overlapsOther i, 0x04)]).getD 0

/-- Has the directory an entry of a type and instance? -/
def State.hasEntry (s : State) (typ inst : Nat) : Bool := s.img.dir.any fun e => e.typ == typ && e.inst == inst

/-! ## The header (R118, R150) -/

/-- Is a header valid by its own 64 bytes, for a copy at a flash byte address? -/
def State.headerOk (s : State) (base : Nat) (h : List Byte) : Bool :=
  let n := field h 0x0A 2
  let off := field h 0x0C 4
  let len := field h 0x10 4
  h.length == 64 && h.take 4 == [0x44#8, 0x5A#8, 0x54#8, 0x42#8] && field h 4 2 == 1 && field h 6 2 == 64 &&
    crc32c (h.take 0x3C) == wordAt h 0x3C &&
    field h 8 1 == s.grade.code && decide (field h 9 1 ≤ 0x10) &&
    decide (1 ≤ n) && decide (n ≤ 1024) && decide (off % 64 = 0) && decide (64 ≤ off) && decide (off + 32 * n ≤ len) &&
    decide (base + len + 0x20000 ≤ s.img.densityMiB * 2 ^ 20) &&
    decide (field h 0x20 4 < 2) && (!bitOf (field h 0x20 4) 0 || s.bootSrc == 1) && zeros h 0x28 20

/-- A copy's header and directory read (R118): its directory where both are valid. -/
def State.copyDir (s : State) (base : Nat) (h d : Option (List Byte)) : Option (List DirEntry) :=
  match h, d with
  | some h, some d =>
    let n := field h 0x0A 2
    if s.headerOk base h && d.length == 32 * n && crc32c d == wordAt h 0x24 then
      some ((List.range n).map (dirEntry d))
    else none
  | _, _ => none

/-! ## LINKS (R123, R463) -/

/-- The record i of a LINKS section. -/
def linkRec (d : List Byte) (i : Nat) : LinkCfg :=
  let o := 16 + 16 * i
  { mode := field d (o + 1) 1, peerPos := field d (o + 2) 1, lanes := field d (o + 3) 1, peerImageId := wordAt d (o + 4) }

/-- The fault of a LINKS section. -/
def State.checkLinks (s : State) (d : List Byte) : Option Fault1 :=
  let n := secCount d
  let link (i : Nat) : Nat := field d (16 + 16 * i) 1
  orElse (headFail [(decide (1 ≤ n) && decide (n ≤ s.grade.links) && recordsFit d 16 16 n, 0x05)]) fun _ =>
  scanRecs n fun i =>
    let r := linkRec d i
    firstFail [
      (decide (link i < s.grade.links) && decide (r.mode ≤ 2) && decide (r.peerPos ≤ 3) && r.lanes == s.grade.linkLanes &&
        zeros d (16 + 16 * i + 8) 8, 0x05),
      (r.peerPos != modPos s, 0x05),
      (r.mode != 2 || r.peerPos ^^^ modPos s == (if link i = 0 then 1 else 2), 0x05),
      (distinct link i, 0x08),
      ((List.range i).all fun j => (linkRec d j).peerPos != r.peerPos, 0x08),
      (r.mode != 1 || ((List.range i).all fun j => (linkRec d j).mode != 1), 0x08)]

/-! ## STREAMS (R124, R155, R159, R169, R171, R172) -/

/-- The record i of a STREAMS section. -/
def streamRec (d : List Byte) (i : Nat) : StreamCfg :=
  let o := 16 + 32 * i
  { kind := field d (o + 2) 1 / 16, port := field d (o + 2) 1 % 16, geom := wordAt d (o + 4), bind := wordAt d (o + 8),
    timing := wordAt d (o + 12), guard := wordAt d (o + 16), key := slice d (o + 20) 12 }

/-- Ports of a kind on the grade (R124). -/
def Grade.ports (g : Grade) (kind : Nat) : Nat :=
  if kind = 0 then g.csi else if kind = 3 then g.t1s else g.eth

/-- PIXEL of a data type, none where no stream can match it (R155). -/
def pixelOf (dt : Nat) : Option Nat :=
  if dt = 0x1E then some 4 else if dt = 0x24 then some 5 else if dt = 0x2B then some 1 else if dt = 0x2C then some 2
  else if dt = 0x2E then some 3 else if 0x30 ≤ dt ∧ dt ≤ 0x37 then some 0 else none

/-- The figure WIDTH is a multiple of (R155). -/
def widthUnit (pixel : Nat) : Nat := if pixel = 1 then 4 else if pixel = 2 ∨ pixel = 4 then 2 else 1

/-- Do the fields of a context lie in range (R171, R172)? -/
def StreamCfg.fieldsOk (c : StreamCfg) : Bool :=
  let t := c.timing.toNat
  c.geom.getLsbD 31 && decide (1 ≤ c.width) && decide (c.width ≤ 8192) && decide (1 ≤ c.height) && decide (c.height ≤ 8192)
    && decide (c.pixel ≤ 5) && (c.intervalUs == 0 || (decide (100 ≤ c.intervalUs) && decide (c.intervalUs ≤ 1000000)))
    && decide (bits c.bind.toNat 31 22 = 0) && decide (bits t 31 26 = 0) && decide (bits c.guard.toNat 31 8 = 0)
    && c.counter != 3 && c.cvScope != 3 && decide (c.width % widthUnit c.pixel = 0)

/-- Does the MATCH key lie in range for its kind (R124, R155, R167)? -/
def StreamCfg.keyOk (c : StreamCfg) : Bool :=
  let b (i : Nat) : Nat := (c.key.getD i 0#8).toNat
  if c.kind = 0 then
    decide (b 0 ≤ 31) && pixelOf (b 1) == some c.pixel && zeros c.key 2 10 && decide (c.lanes ≤ 2) && c.counter != 2
  else if c.kind = 1 then zeros c.key 8 4 && c.lanes == 0 && !c.lineNum
  else if c.kind = 2 then c.lanes == 0 && !c.lineNum
  else decide (1 ≤ b 0) && decide (b 0 ≤ 31) && zeros c.key 1 11 && c.pixel == 0 && c.lanes == 0 && !c.lineNum

/-- The fault of a STREAMS section. -/
def State.checkStreams (s : State) (d : List Byte) : Option Fault1 :=
  let n := secCount d
  let idx (i : Nat) : Nat := field d (16 + 32 * i) 2
  orElse (headFail [(decide (1 ≤ n), 0x05), (decide (n ≤ s.grade.streams), 0x07), (recordsFit d 16 32 n, 0x05)]) fun _ =>
  scanRecs n fun i =>
    let c := streamRec d i
    let before := (List.range i).map (streamRec d)
    let mates := before.filter fun x => x.kind == c.kind && x.port == c.port
    firstFail [
      (decide (idx i < s.grade.streams) && decide (c.kind ≤ 3) && zeros d (16 + 32 * i + 3) 1 && c.fieldsOk && c.keyOk, 0x05),
      (decide (c.port < s.grade.ports c.kind) && s.hasEntry 0x10 c.network, 0x06),
      (c.kind == 0 || decide (8 + c.lineBytes + 8 ≤ (if c.kind = 3 then 1500 else 9166)), 0x07),
      (c.kind != 0 || decide (mates.length < 64), 0x07),
      (distinct idx i, 0x08),
      (mates.all fun x => x.key != c.key, 0x08),
      (c.kind != 0 || mates.all fun x => x.lanes == c.lanes, 0x08)]

/-! ## RINGS, SAFETY, CHECKS, ALLOC, ORDER (R125 to R130, R440) -/

/-- The fault of a RINGS section. -/
def checkRings (d : List Byte) : Option Fault1 :=
  let n := secCount d
  let ring (i : Nat) : Nat := field d (16 + 8 * i) 1
  orElse (headFail [(decide (1 ≤ n) && decide (n ≤ 256) && recordsFit d 16 8 n, 0x05)]) fun _ =>
  scanRecs n fun i =>
    let o := 16 + 8 * i
    firstFail [
      (decide (1 ≤ field d (o + 1) 1) && decide (field d (o + 1) 1 ≤ 16) && decide (field d (o + 2) 1 < 2) &&
        zeros d (o + 3) 5, 0x05),
      (distinct ring i, 0x08)]

/-- The fault of a SAFETY section. -/
def State.checkSafety (s : State) (d : List Byte) : Option Fault1 :=
  let w := field d 18 2
  let paired := s.img.links.any fun x => x.2.mode == 1
  orElse (headFail [(secCount d == 1 && recordsFit d 16 32 1, 0x05)]) fun _ =>
  scanRecs 1 fun _ => firstFail [
    (decide (field d 16 1 ≤ 2) && decide (1 ≤ w) && decide (w ≤ 10000) && zeros d 20 28, 0x05),
    (field d 16 1 != 2 || paired, 0x0A)]

/-- The fault of a CHECKS section. -/
def State.checkChecks (s : State) (d : List Byte) : Option Fault1 :=
  let map := field d 16 64
  headFail [(secCount d == 1 && recordsFit d 16 64 1 &&
    (List.range 512).all fun k => !bitOf map k || s.grade.hasTile (k / 2), 0x05)]

/-- The fault of an ALLOC section (R128): the upper bound of SPILL_MIB where training has told the capacity, else it waits
for that (R609). -/
def State.checkAlloc (s : State) (d : List Byte) : Option Fault1 :=
  orElse (headFail [(secCount d == 1 && recordsFit d 16 16 1, 0x05)]) fun _ =>
  scanRecs 1 fun _ => firstFail [(decide (1 ≤ field d 16 4) && zeros d 24 8 &&
    (!s.dram.trained || decide (field d 16 4 ≤ s.dram.capacityMiB / 2)), 0x05)]

/-- The fault of an ORDER section. -/
def State.checkOrder (s : State) (d : List Byte) : Option Fault1 :=
  let n := secCount d
  let net (i : Nat) : Nat := field d (16 + i) 1
  orElse (headFail [(decide (1 ≤ n) && decide (n ≤ 256) && recordsFit d 16 1 n, 0x05)]) fun _ =>
  scanRecs n fun i => firstFail [(s.hasEntry 0x10 (net i), 0x06), (distinct net i, 0x08)]

/-! ## PLAN (R36, R38, R48, R50, R128, R131 to R133, R193, R439) -/

/-- The job record i of a PLAN section. -/
def jobRec (d : List Byte) (i : Nat) : JobCfg :=
  let o := field d 0x28 4 + 32 * i
  let first := field d (o + 0x18) 2
  { job := field d o 2, net := field d (o + 2) 1, cls := field d (o + 3) 1, stream := field d (o + 4) 2,
    ring := field d (o + 6) 1, mask := BitVec.ofNat 16 (field d (o + 8) 2), releaseUs := field d (o + 0x0C) 4,
    deadlineUs := field d (o + 0x10) 4, wNs := field d (o + 0x14) 4,
    extra := (List.range (field d (o + 0x1A) 2)).map fun k => field d (field d 0x30 4 + 2 * (first + k)) 2
    frets := field d (o + 0x1C) 2 }

/-- The region record i of a PLAN section. -/
def regionRec (d : List Byte) (i : Nat) : RegionCfg :=
  let o := field d 0x2C 4 + 16 * i
  { region := field d o 2, kind := field d (o + 2) 1, tile := field d (o + 3) 1, frets := field d (o + 4) 2,
    writer := field d (o + 6) 2, stream := field d (o + 8) 2 }

/-- A PLAN section as a plan (R131). -/
def planOf (d : List Byte) : PlanCfg :=
  { planId := BitVec.ofNat 16 (field d 0x10 2), n := field d 0x12 1, align := field d 0x13 1, periodUs := field d 0x14 4,
    phase := field d 0x18 8, lockWaitMs := field d 0x20 2, absentMask := field d 0x22 1,
    jobs := (List.range (secCount d)).map (jobRec d), regions := (List.range (field d 0x24 2)).map (regionRec d) }

/-- Persistent frets of a list of regions on a tile, STATE regions counted twice (R48). -/
def persistent (l : List RegionCfg) (t : Nat) : Nat :=
  ((l.filter fun r => r.tile == t).map fun r => if r.kind = 0 then 2 * r.frets else r.frets).foldl (· + ·) 0

/-- Slots of a stream's landing ring in a plan (R193). -/
def State.planSlots (s : State) (p : PlanCfg) (k : Nat) : Nat :=
  let l := p.regions.filter fun r => r.kind == 1 && r.stream == k
  let c := s.streamCfg k
  let low := l.foldl (fun m r => match m with
    | none => some r
    | some x => if r.region < (x : RegionCfg).region then some r else some x) none
  let cv := if c.cvScope = 0 then 0 else if (low.map fun r => s.isCrc16 r.tile c.cvUnit) = some true then 2 else 4
  let size := (16 + c.lineBytes + cv + 63) / 64 * 64
  (l.map fun r => 4096 * r.frets / size).foldl (· + ·) 0

/-- Is a stream of the accepted STREAMS section? -/
def State.hasStream (s : State) (k : Nat) : Bool := s.img.streams.any fun x => x.1 == k

/-- Does a safety claim ask more of a stream than it has (R439)? -/
def State.claimBars (s : State) (k : Nat) : Bool :=
  let c := s.streamCfg k
  s.ready 11 && s.img.claim != 0 && (c.counter == 0 || c.cvScope == 0 || c.intervalUs == 0)

/-- The fault of the job record i. DESIGN CHOICE (log entry 56): INPUT_FIRST may not exceed INPUT_COUNT even where INPUT_NUM
is 0. -/
def State.jobFault (s : State) (d : List Byte) (p : PlanCfg) (i : Nat) : Option Nat :=
  let o := field d 0x28 4 + 32 * i
  let j := jobRec d i
  firstFail [
    (decide (j.job ≤ 4095) && decide (j.cls ≤ 3) && zeros d (o + 7) 1 && zeros d (o + 0x0A) 2 && zeros d (o + 0x1E) 2 &&
      decide (1 ≤ j.frets) && decide (j.frets ≤ 96) && decide (j.extra.length ≤ 15) &&
      decide (field d (o + 0x18) 2 + j.extra.length ≤ field d 0x26 2), 0x05),
    (decide (12 ≤ j.releaseUs) && decide (j.releaseUs + 1 ≤ p.periodUs) && decide (j.releaseUs < j.deadlineUs) &&
      decide (j.deadlineUs ≤ p.periodUs) && decide (0 < j.wNs) && decide (j.mask.toNat < 2 ^ p.n), 0x05),
    (j.inputs.all s.hasStream && s.ringEnabled j.ring && s.hasEntry 0x10 j.net, 0x06),
    (j.cls != 0 || !j.inputs.any s.claimBars, 0x05),
    (j.inputs.all fun k => decide (2 ≤ s.planSlots p k), 0x07),
    (distinct (fun k => (jobRec d k).job) i, 0x08)]

/-- The fault of the region record i. -/
def State.regionFault (s : State) (d : List Byte) (p : PlanCfg) (i : Nat) : Option Nat :=
  let o := field d 0x2C 4 + 16 * i
  let r := regionRec d i
  let used := persistent ((List.range (i + 1)).map (regionRec d)) r.tile
  let reserved := s.img.reserve.foldl (· + ·) 0
  firstFail [
    (decide (r.kind ≤ 1) && decide (1 ≤ r.frets) && decide (r.frets ≤ 32) && zeros d (o + 0x0A) 6 &&
      (if r.kind = 0 then r.stream == 0xFFFF else r.writer == 0xFFFF), 0x05),
    (s.grade.hasTile r.tile && (if r.kind = 0 then p.jobs.any fun j => j.job == r.writer else s.hasStream r.stream), 0x06),
    (decide (used ≤ 32) && decide (reserved + used ≤ 96), 0x07),
    (distinct (fun k => (regionRec d k).region) i, 0x08)]

/-- The fault of the head of PLAN instance `inst`, and of what a variant must share with instance 0 (R131, R133). -/
def State.planHeadFault (s : State) (d : List Byte) (inst : Nat) (p : PlanCfg) : Option Nat :=
  let jobs := field d 0x28 4
  let regs := field d 0x2C 4
  let ins := field d 0x30 4
  let nr := field d 0x24 2
  let ni := field d 0x26 2
  let jobsEnd := jobs + 32 * secCount d
  let regsEnd := if nr = 0 then 0 else regs + 16 * nr
  let insEnd := if ni = 0 then 0 else ins + 2 * ni
  let p0 := tget {} s.img.plans 0
  firstFail [
    (decide (1 ≤ secCount d) && decide (secCount d ≤ 4096) && decide (1 ≤ p.n) && decide (p.n ≤ 16) && decide (p.align ≤ 1) &&
      decide (1000 ≤ p.periodUs) && decide (p.periodUs ≤ 200000) && decide (p.lockWaitMs ≤ 10000) &&
      decide (p.absentMask ≤ 15) && zeros d 0x23 1 && decide (nr ≤ 8192) && decide (ni ≤ 16384) && zeros d 0x34 28, 0x05),
    (decide (0x50 ≤ jobs) && decide (jobsEnd ≤ d.length) && (nr == 0 || decide (jobsEnd ≤ regs) && decide (regsEnd ≤ d.length)) &&
      (ni == 0 || decide (0x50 ≤ ins) && decide (insEnd ≤ d.length)) && tailZero d (max jobsEnd (max regsEnd insEnd)), 0x05),
    (if inst = 0 then p.absentMask == 0
      else p.absentMask != 0 && !bitOf p.absentMask (modPos s) && p.periodUs == p0.periodUs && p.phase == p0.phase &&
        p.align == p0.align && p.lockWaitMs == p0.lockWaitMs, 0x05),
    (s.img.plans.all fun x => x.2.absentMask != p.absentMask, 0x08)]

/-- The fault of a PLAN section. -/
def State.checkPlan (s : State) (d : List Byte) (inst : Nat) : Option Fault1 :=
  let p := planOf d
  orElse ((s.planHeadFault d inst p).map fun c => (c, noRec)) fun _ =>
  orElse (scanRecs (secCount d) (s.jobFault d p)) fun _ =>
  scanRecs (field d 0x24 2) (s.regionFault d p)

/-! ## NETWORK (R135, R136) -/

/-- The layer record i of a NETWORK section. -/
def layerRec (d : List Byte) (i : Nat) : LayerCfg :=
  let o := field d 0x18 4 + 16 * i
  { form := field d o 1, tiles := field d (o + 2) 2, firstPage := field d (o + 4) 4, pageCount := field d (o + 8) 4 }

/-- The code blocks of a NETWORK section from an offset, each with the offset of its head. -/
def blockRecs (d : List Byte) : Nat → Nat → List (Nat × BlockCfg)
  | 0, _ => []
  | n + 1, o =>
    let b : BlockCfg := { tile := field d o 1, off := field d (o + 4) 4, len := field d (o + 8) 4, entry := field d (o + 0x0C) 4 }
    (o, b) :: blockRecs d n (o + 16 + (b.len + 15) / 16 * 16)

/-- The blocks of a NETWORK section. -/
def netBlocks (d : List Byte) : List (Nat × BlockCfg) := blockRecs d (secCount d) (field d 0x1C 4)

/-- A NETWORK section as a network. -/
def netOf (d : List Byte) : NetCfg :=
  { pages := field d 0x14 4, layers := (List.range (field d 0x12 2)).map (layerRec d), blocks := (netBlocks d).map (·.2) }

/-- Do two blocks share a byte of one tile's instruction memory (R136)? -/
def blocksMeet (a b : BlockCfg) : Bool := a.tile == b.tile && overlaps a.off a.len b.off b.len

/-- The fault of the code block i. -/
def State.blockFault (s : State) (d : List Byte) (i : Nat) : Option Nat :=
  let l := netBlocks d
  let (o, b) := l.getD i (0, {})
  firstFail [
    (zeros d (o + 1) 3 && decide (b.off % 16 = 0) && decide (b.len % 4 = 0), 0x05),
    (decide (o + 16 + (b.len + 15) / 16 * 16 ≤ d.length) && zeros d (o + 16 + b.len) ((b.len + 15) / 16 * 16 - b.len), 0x05),
    (decide (b.off ≤ b.entry) && decide (b.entry + 4 ≤ b.off + b.len) && decide (b.entry % 4 = 0), 0x05),
    (s.grade.hasTile b.tile, 0x06),
    (decide (b.off + b.len ≤ 65536), 0x07),
    (((l.take i).all fun x => !blocksMeet x.2 b) && s.img.nets.all fun x => x.2.blocks.all fun y => !blocksMeet y b, 0x08)]

/-- The fault of a NETWORK section of an instance. -/
def State.checkNetwork (s : State) (d : List Byte) (inst : Nat) : Option Fault1 :=
  let n := secCount d
  let layers := field d 0x12 2
  let lo := field d 0x18 4
  let bo := field d 0x1C 4
  let blocksEnd := ((netBlocks d).map fun x => x.1 + 16 + (x.2.len + 15) / 16 * 16).foldl max 0
  orElse (headFail [
    (decide (1 ≤ n) && decide (n ≤ 256) && field d 0x10 1 == inst && zeros d 0x11 1 && decide (1 ≤ layers) &&
      decide (layers ≤ 4096) && zeros d 0x20 16 && decide (0x30 ≤ lo) && decide (lo + 16 * layers ≤ d.length) &&
      decide (0x30 ≤ bo), 0x05)]) fun _ =>
  orElse (scanRecs layers fun i =>
    let o := lo + 16 * i
    let r := layerRec d i
    firstFail [(decide (r.form ≤ 4) && zeros d (o + 1) 1 && decide (1 ≤ r.tiles) &&
      decide (r.tiles ≤ s.grade.tiles.length) && decide (r.firstPage + r.pageCount ≤ field d 0x14 4) &&
      (r.form != 4 || r.pageCount == 0) && zeros d (o + 0x0C) 4, 0x05)]) fun _ =>
  orElse (scanRecs n (s.blockFault d)) fun _ =>
  headFail [(tailZero d (max blocksEnd (lo + 16 * layers)), 0x05)]

/-! ## WEIGHTS (R137, R295 to R297) -/

/-- BLOCK_BYTES of a page format and group, 0 for none (R295). -/
def pageBlockBytes (format g : Nat) : Nat :=
  if format ≤ 3 then (if g = 0 then [768, 384, 1152, 768].getD format 0 else 0)
  else if format ≤ 5 ∧ [1, 2, 3, 4, 6, 8, 12, 16, 24].contains g then
    let n := min (32 / g) (24 / g) * g * g
    if format = 4 then n else n / 2
  else 0

/-- Does a page format fit a layer form (R297)? -/
def formTakes (form format : Nat) : Bool :=
  if form = 0 then decide (format ≤ 1) else if form = 1 then format == 2 else if form = 2 then format == 3
  else form == 3 && (format == 4 || format == 5)

/-- Does page j of the archive of network k meet R297? `d` are its bytes, `first` those of its layer's first page. -/
def pageOk (net : NetCfg) (k j : Nat) (d : List Byte) (page : Nat → List Byte) : Bool :=
  let base := field d 0 1 == 0xD5 && pageCheckOk d && field d 8 1 == k && field d 0x0C 4 == j
  let l := (List.range net.layers.length).find? fun i =>
    decide ((net.layer i).firstPage ≤ j) && decide (j < (net.layer i).firstPage + (net.layer i).pageCount)
  match l with
  | none => base
  | some i =>
    let r := net.layer i
    let f := page r.firstPage
    let format := field d 1 1
    let bb := pageBlockBytes format (field d 6 1)
    let bpp := 16128 / bb
    let n := field d 4 2
    base && zeros d 7 1 && zeros d 9 1 && zeros d 0x14 232 && field d 0x0A 2 == i && formTakes r.form format &&
      decide (0 < bb) && field d 2 2 == bb && format == field f 1 1 && field d 6 1 == field f 6 1 &&
      decide (1 ≤ n) && decide (n ≤ bpp) && (j + 1 == r.firstPage + r.pageCount || n == bpp) &&
      field d 0x10 4 == (j - r.firstPage) * bpp && tailZero d (0x100 + n * bb)

/-- Page j of a WEIGHTS section. -/
def sectionPage (d : List Byte) (j : Nat) : List Byte := slice d (16 + pageBytes * j) pageBytes

/-- Do the page ranges of two layers overlap? -/
def NetCfg.layersMeet (n : NetCfg) : Bool :=
  (List.range n.layers.length).any fun i => (List.range i).any fun j =>
    overlaps (n.layer i).firstPage (n.layer i).pageCount (n.layer j).firstPage (n.layer j).pageCount

/-- The fault of a WEIGHTS section of a network. -/
def State.checkWeights (s : State) (d : List Byte) (k : Nat) : Option Fault1 :=
  let net := s.net k
  let n := secCount d
  orElse (headFail [(n == net.pages && d.length == 16 + pageBytes * n, 0x05), (!net.layersMeet, 0x08)]) fun _ =>
  scanRecs n fun j => firstFail [(pageOk net k j (sectionPage d j) (sectionPage d), 0x05)]

/-- What the pager keeps of each layer (R297). -/
def keepLayers (d : List Byte) (n : NetCfg) : List LayerCfg :=
  n.layers.map fun r =>
    if r.pageCount = 0 then r
    else
      let f := sectionPage d r.firstPage
      let z := sectionPage d (r.firstPage + r.pageCount - 1)
      let bpp := 16128 / field f 2 2
      { r with format := field f 1 1, group := field f 6 1, bpp := bpp, total := (r.pageCount - 1) * bpp + field z 4 2 }

end Sys2Proof.Machine
end

