-- ==== Sys2Proof/Machine/Timebase.lean ====
section
/-!
DEFINITION. The timebase (R179 to R185, R188, R191): IEEE 802.1AS on Ethernet port 0, device time's rate, its epoch, its
lock states, and the Ethernet links it depends on.
-/

namespace Sys2Proof.Machine

/-! ## Rate (R179, R180, R183) -/

/-- The increment per PLL_T tick at a rate in ppb, in 2^-32 ns; `up` is the rounding, which the spec leaves open (log entry
10). -/
def tickInc (ppb : Int) (up : Bool) : Nat :=
  (4 * 2 ^ 32 + 4 * 2 ^ 32 * ppb / 1000000000 + (b2n up : Int)).toNat

/-- Device time's rate set: the rounding of the increment is a free value. -/
def State.setRate (s : State) (ppb : Int) : State :=
  let (f, s) := s.takeFree
  { s with tb := { s.tb with ratePpb := ppb, inc := tickInc ppb (f.getLsbD 0) } }

/-- The nominal rate, at which device time runs in FREE with no grandmaster (R183). -/
def State.nominalRate (s : State) : State := { s with tb := { s.tb with ratePpb := 0, inc := 4 * 2 ^ 32, slewing := false } }

/-- The average of the rates kept (R183). -/
def avgRate (l : List Int) : Int := if l.isEmpty then 0 else l.foldl (· + ·) 0 / l.length

/-! ## States (R181) -/

/-- LOCKED to HOLDOVER (R181, R183, R71, R443). -/
def State.loseLock (s : State) : State :=
  if s.tb.state != .locked then s
  else
    let s : State := { s with
      tb := { s.tb with state := .holdover, holdovers := s.tb.holdovers + 1, holdStart := s.now, acquiring := true
                        goodSyncs := 0, badSyncs := 0, slewing := false }
      pen := { s.pen with acc := { s.pen.acc with holdover := true } } }
    let s := (s.setRate (avgRate s.tb.rates)).clrRdy 4
    (s.logEv 0x0501 0xFFFF 2).report 18 0xFF 0

/-- asCapable of port 0; lost while LOCKED, it ends the lock (R181). -/
def State.setCapable (s : State) (on : Bool) : State :=
  let s : State := { s with tb := { s.tb with asCapable := on } }
  if on then s else s.loseLock

/-- E set, and logged (R180, R182, R498). -/
def State.setEpoch (s : State) (e : Int) : State :=
  ({ s with tb := { s.tb with epoch := e } } : State).logEv 0x0502 0xFFFF (e % 2 ^ 64).toNat

/-- The single step of device time (R33, R182). A negative E would turn device time back, so it is kept. -/
def State.stepTime (s : State) : State :=
  if s.tb.lockedOnce || s.prd.started || decide (s.tb.epoch < 0) then s
  else
    let e := s.tb.epoch.toNat
    let s : State := { s with dev := s.dev + e * 2 ^ 32, tb := { s.tb with stepped := true } }
    s.setEpoch 0

/-- FREE or HOLDOVER to LOCKED (R181, R182); the generator may have waited for it (R32). -/
def State.gainLock (s : State) : State :=
  let s : State := { s with tb := { s.tb with
    holdNs := if s.tb.state == .holdover then s.now - s.tb.holdStart else s.tb.holdNs, state := .locked, badSyncs := 0 } }
  let s := s.logEv 0x0501 0xFFFF 1
  let s := s.stepTime
  (({ s with tb := { s.tb with lockedOnce := true } } : State).setRdy 4).tryStart

/-! ## Messages (R179, R180) -/

/-- Does the timebase take messages: port 0 is ready, and intake is not stopped? -/
def State.gptpUp (s : State) : Bool := s.portTakes 1 0

/-- gPTP time minus device time, truncated to whole microseconds (R180). -/
def epochOf (gptp now : Nat) : Int := ((gptp : Int) - now).tdiv 1000 * 1000

/-- E at the first valid Sync of an acquisition, by the Sync's reception time `t`: set at the first of the start, and afresh where the estimate is more than
1 ms off (R180, R182). -/
def State.acquire (s : State) (gptp t : Nat) : State :=
  if !s.tb.acquiring then s
  else
    let e := epochOf gptp t
    let s : State := { s with tb := { s.tb with acquiring := false } }
    if s.tb.lastGptp.isNone then s.setEpoch e
    else if 1000000 < ((t : Int) + s.tb.epoch - gptp).natAbs then
      ({ s with tb := { s.tb with epochChanges := s.tb.epochChanges + 1 } } : State).setEpoch e
    else s

/-- Offset, counts and rate of a valid Sync (R180, R181): the phase correction is a free value within 100 ppm. -/
def State.noteSync (s : State) (a : SyncIn) (gptp t : Nat) : State :=
  let off : Int := (t : Int) + s.tb.epoch - gptp
  let (f, s) := s.takeFree
  let phase : Int := (f.toNat % 200001 : Nat) - (100000 : Int)
  let s : State := { s with tb := { s.tb with
    offset := off, syncs := s.tb.syncs + 1, lastGptp := some (gptp, t)
    goodSyncs := if off.natAbs ≤ 100 then s.tb.goodSyncs + 1 else 0
    badSyncs := if 1000 < off.natAbs then s.tb.badSyncs + 1 else 0
    rates := (a.ppb :: s.tb.rates).take 8, slewing := decide (phase.natAbs = 100000) } }
  s.setRate (a.ppb + phase)

/-- GPTP_SYNC (R179 to R182, R191): a two-step Sync of domain 0 with its Follow_Up, of a grandmaster that has been
announced. -/
def execGptpSync (a : SyncIn) (s : State) : Result :=
  .next (
    let s := s.advanceTo a.t
    if !s.gptpUp || a.domain != 0 then s
    else if a.oneStep then { s with tb := { s.tb with onestep := s.tb.onestep + 1 } }
    else if !s.tb.asCapable || !s.tb.gmPresent then s
    else
      let gptp := a.origin + s.tb.pdelay
      let t := s.stamp a.t
      let s := (s.acquire gptp t).noteSync a gptp t
      if s.tb.state == .locked then (if 2 ≤ s.tb.badSyncs then s.loseLock else s)
      else if 8 ≤ s.tb.goodSyncs then s.gainLock
      else s)

/-- GPTP_ANNOUNCE (R179): the grandmaster's identity. -/
def execGptpAnnounce (domain : Nat) (gm : DWord) (s : State) : Result :=
  .next (if !s.gptpUp || domain != 0 then s else { s with tb := { s.tb with gm := gm, gmPresent := true } })

/-- SYNC_RECEIPT_TIMEOUT (R181, R183): no valid pair for 3 Sync intervals, or no Announce for 3 of its intervals. -/
def execSyncReceiptTimeout (announce : Bool) (s : State) : Result :=
  .next (
    let s : State := if announce then { s with tb := { s.tb with gmPresent := false } } else s
    if s.tb.state == .locked then s.loseLock
    else
      let s : State := { s with tb := { s.tb with acquiring := true, goodSyncs := 0 } }
      if s.tb.state == .free && !s.tb.gmPresent then s.nominalRate else s)

/-! ## Peer delay (R179) -/

/-- ETH_ADDR of a port at reset, as a 48-bit number with its first byte in bits 7:0 (R185). -/
def ethAddrReset (s : State) (port : Nat) : BitVec 48 :=
  BitVec.ofNat 48 (leNat [0x02#8, 0xC3#8, 0xE1#8, BitVec.ofNat 8 s.grade.code, BitVec.ofNat 8 (modPos s),
    BitVec.ofNat 8 port])

/-- The source address of transmitted frames, byte by byte. -/
def ethTxAddr (s : State) (port : Nat) : List Byte :=
  leBytes 6 ((s.ethPort port).txXor ^^^ ethAddrReset s port).toNat

/-- Clock identity: 0xFF, 0xFE after the third byte of the address (R179). -/
def clockIdentity (s : State) : List Byte :=
  let a := ethTxAddr s 0
  a.take 3 ++ [0xFF#8, 0xFE#8] ++ a.drop 3

/-- A big-endian number of n bytes. -/
def beBytes (n v : Nat) : List Byte := (leBytes n v).reverse

/-- An 802.1AS timestamp: 48-bit seconds and 32-bit nanoseconds (PRESUMED layout, log entry 26). -/
def ptpStamp (ns : Nat) : List Byte := beBytes 6 (ns / 1000000000) ++ beBytes 4 (ns % 1000000000)

/-- A Pdelay message as an Ethernet frame of port 0 (PRESUMED layout, log entry 26): `typ` 2 request, 3 response, 10
response follow-up. -/
def pdelayFrame (s : State) (typ : Nat) (flags : Nat) (seq : Half) (body : List Byte) : List Byte :=
  [0x01#8, 0x80#8, 0xC2#8, 0#8, 0#8, 0x0E#8] ++ ethTxAddr s 0 ++ [0x88#8, 0xF7#8]
    ++ [BitVec.ofNat 8 (0x10 + typ), 0x02#8] ++ beBytes 2 54 ++ [0#8, 0#8] ++ beBytes 2 flags
    ++ List.replicate 12 0#8 ++ clockIdentity s ++ beBytes 2 1 ++ beBytes 2 seq.toNat
    ++ [if typ = 2 then 0#8 else 5#8, if typ = 2 then 0#8 else 0x7F#8] ++ body

/-- A frame sent on Ethernet port 0, with the address in effect from then on (R185). -/
def State.sendPtp (s : State) (typ flags : Nat) (seq : Half) (body : List Byte) : State :=
  let s := s.modEth 0 fun x => { x with txXor := x.addrXor }
  { s with tb := { s.tb with tx := pdelayFrame s typ flags seq body :: s.tb.tx } }

/-- PDELAY_REQ_TIMER (R179): a request every 1 s; more than 9 in a row without a response make the port not asCapable. -/
def execPdelayReqTimer (s : State) : Result :=
  .next (if !s.portReady 1 0 then s
    else
      let lost := if s.tb.reqOpen then s.tb.lostResp + 1 else s.tb.lostResp
      let s : State := { s with tb := { s.tb with lostResp := lost, reqOpen := true, reqSeq := s.tb.reqSeq + 1 } }
      let s := if 9 < lost then s.setCapable false else s
      s.sendPtp 2 0 s.tb.reqSeq (List.replicate 20 0#8))

/-- PDELAY_REQ_RECEIVED (R179): answered with a response and its follow-up. -/
def execPdelayReqReceived (domain : Nat) (seq : Half) (source : List Byte) (t1 t2 : Nat) (s : State) : Result :=
  .next (if !s.gptpUp || domain != 0 then s
    else (s.sendPtp 3 0x0200 seq (ptpStamp t1 ++ slice source 0 10)).sendPtp 10 0 seq (ptpStamp t2 ++ slice source 0 10))

/-- PDELAY_RESP_RECEIVED (R179): the mean link delay, compared with neighborPropDelayThresh 800 ns. -/
def execPdelayRespReceived (seq : Half) (t1 t2 t3 t4 : Nat) (s : State) : Result :=
  .next (if !s.gptpUp || !s.tb.reqOpen || seq != s.tb.reqSeq then s
    else
      let d := (t4 - t1 - (t3 - t2)) / 2
      let s : State := { s with tb := { s.tb with pdelay := d, lostResp := 0, reqOpen := false } }
      s.setCapable (decide (d ≤ 800)))

/-! ## Ethernet links (R98, R181, R184, R185, R188) -/

/-- ETH_LINK_UP (R98, R160, R188): `rate` is RATE's code, 1 to 4 for 1, 2.5, 5 and 10 Gb/s. -/
def execEthLinkUp (port rate : Nat) (s : State) : Result :=
  .next (if s.grade.eth ≤ port ∨ rate = 0 ∨ 4 < rate then s
    else (s.modEth port fun x => { x with link := true, rate := rate }).refreshPorts)

/-- ETH_LINK_DOWN (R98, R181, R188): the port and its streams lose readiness; on port 0 the lock ends. -/
def execEthLinkDown (port : Nat) (s : State) : Result :=
  .next (if !(s.ethPort port).link then s
    else
      let s := s.modEth port fun x => { x with link := false, events := setBit x.events 4 }
      let s := ((s.clrPort (portBit 1 port)).refreshStreams).logEv 0x0503 (256 + port) 0
      if port = 0 then s.setCapable false else s)

/-- ETH_ADDR_WRITE (R184, R185): through the P-view only; it shows at the next transmitted frame. -/
def execEthAddrWrite (path : Port) (port : Nat) (hi : Bool) (value : Word) (s : State) : Result :=
  .next (if !s.pview path || decide (s.grade.eth ≤ port) then s
    else s.modEth port fun x =>
      let a := x.addrXor ^^^ ethAddrReset s port
      let lo := if hi then a.toNat % 2 ^ 32 else value.toNat
      let up := if hi then value.toNat % 2 ^ 16 else a.toNat / 2 ^ 32
      { x with addrXor := BitVec.ofNat 48 (lo + up * 2 ^ 32) ^^^ ethAddrReset s port })

end Sys2Proof.Machine
end

