-- ==== Sys2Proof/Machine/Loader.lean ====
section
/-!
DEFINITION. The read-once load (R112 to R150, R608, R609): flash discovery, header and directory, the load steps in their
order, what an accepted section does, recovery from the alternate copy, the load log, and the bounded bring-up steps.
-/

namespace Sys2Proof.Machine

/-! ## The load log (R142) -/

/-- How a section's outcome is told in RDY_IMG_LOG. -/
inductive LoadOut where
  | recovered | rejected | skipped
deriving DecidableEq, Repr

/-- OUTCOME of a pair. -/
def LoadOut.code : LoadOut → Nat
  | .recovered => 1
  | .rejected => 2
  | .skipped => 3

/-- The outcome counted in RDY_IMG_COUNTS. -/
def Rdy.countOut (r : Rdy) : LoadOut → Rdy
  | .recovered => { r with recovered := satAdd 8 r.recovered 1 }
  | .rejected => { r with rejected := satAdd 8 r.rejected 1 }
  | .skipped => { r with skipped := satAdd 8 r.skipped 1 }

/-- The two words of a pair. -/
def loadPair (typ inst : Nat) (f : Fault1) (src : Nat) (o : LoadOut) : Word × Word :=
  (BitVec.ofNat 32 (typ % 256 + inst % 256 * 2 ^ 8 + f.1 * 2 ^ 16 + src * 2 ^ 24 + o.code * 2 ^ 28), BitVec.ofNat 32 f.2)

/-- An outcome other than a plain acceptance: counted, and a pair written while there are fewer than 128; its LOAD_LOG
event (R498). -/
def State.logPair (s : State) (typ inst : Nat) (f : Fault1) (src : Nat) (o : LoadOut) : State :=
  let w := loadPair typ inst f src o
  let s : State := { s with rdy := s.rdy.countOut o }
  if s.rdy.imgLog.length < 128 then
    ({ s with rdy := { s.rdy with imgLog := s.rdy.imgLog ++ [w] } } : State).logEv 0x0103 0xFFFF (w.1.toNat + w.2.toNat * 2 ^ 32)
  else s

/-- The RDY bit of a required section (R121), by type. -/
def requiredBit (typ : Nat) : Option Nat := if typ = 2 then some 9 else if typ = 3 then some 10 else if typ = 4 then some 11
  else if typ = 8 then some 12 else none

/-- A section rejected (R144, R146): a required one sets its RDY_FAIL bit, unless it is a second entry, or a PLAN that is
not examined (R134); a SAFETY section that lacks its PAIRED link (R440) is rejected like any other. -/
def State.rejectSection (s : State) (typ inst : Nat) (f : Fault1) (src : Nat) : State :=
  let s := s.logPair typ inst f src .rejected
  match requiredBit typ with
  | some b => if inst = 0 ∧ f.1 ≠ 0x0B ∧ ¬(typ = 8 ∧ f.1 = 0x0A) then s.failRdy b else s
  | none => s

/-- SOURCE of an entry: eMMC, or the copy in use. DESIGN CHOICE (log entry 55): an entry that was never read has the source
its FLAGS name. -/
def State.entrySource (s : State) (e : DirEntry) : Nat := if e.onEmmc then 2 else s.rdy.copy - 1

/-! ## Networks and LOAD_DONE (R98, R140) -/

/-- May network k become ready? -/
def State.netMay (s : State) (k : Nat) : Bool :=
  let n := s.net k
  s.ready 12 && s.ready 14 && !n.blocks.isEmpty && (n.pages == 0 || n.wOk)

/-- Networks that may become ready do; each is declared to the JOINED peers (R486). -/
def State.refreshNets (s : State) : State :=
  let s := s.img.nets.foldl (fun s x =>
    if s.netMay x.1 && !s.netReady x.1 then
      ({ s with rdy := { s.rdy with net := setBit s.rdy.net x.1, seq := s.rdy.seq + 1 } } : State).shareNet x.1
    else s) s
  s.refreshStreams

/-- The pair of an ALLOC section taken from the alternate copy, once R609 has decided its outcome (R142). -/
def State.tellAlloc (s : State) : State :=
  match s.img.allocHeld with
  | none => s
  | some f => ({ s with img := { s.img with allocHeld := none } } : State).logPair 6 0 f 1 .recovered

/-- Once training has told the capacity, and load step 6 is done or no section can be read, ALLOC's upper bound is checked
and the spill area is fixed (R128, R129, R609). -/
def State.spillCheck (s : State) : State :=
  if !s.dram.trained || !(s.img.step6Done || s.img.finished) || s.dram.spillFixed || s.img.stopped then s
  else
    let bad := s.img.allocOk && decide (s.dram.capacityMiB / 2 < s.img.spillMiB)
    let s := if bad then
        let s := s.rejectSection 6 0 (0x05, 0) (if s.img.allocHeld.isSome then 1 else s.rdy.copy - 1)
        { s with img := { s.img with allocOk := false, allocHeld := none, reserve := [0, 0, 0, 0] } }
      else s.tellAlloc
    let m := if s.img.allocOk then s.img.spillMiB else s.dram.capacityMiB / 8
    { s with dram := { s.dram with spillMiB := m, spillBase := s.dram.capacityMiB - m, spillFixed := true } }

/-- LOAD_DONE (R98, R139 step 10): READY_FAIL tells what failed, and the recorder recovers and arms (R508, R509). -/
def State.finishLoad (s : State) : State :=
  let s : State := ({ s with img := { s.img with started := true, finished := true, cur := none } } : State).setRdy 15
  let s := if s.rdy.fail = 0#32 ∧ s.rdy.portFail = 0#32 then s
    else s.logEv 0x0102 0xFFFF (s.rdy.fail.toNat + s.rdy.portFail.toNat * 2 ^ 32)
  s.spillCheck.recover

/-! ## The order of the load (R130, R139) -/

/-- What the loader takes in turn: a directory entry, the start of link training after LINKS, a required section that has no
entry, the end of load step 6, the wait for DRAM, the end. -/
inductive LoadTask where
  | entry (i : Nat)
  | links
  | missing (typ : Nat)
  | step6
  | dram
  | finish
deriving DecidableEq, Repr

/-- The number that marks a task as done in `Img.done`: entries have theirs below 1,024. -/
def LoadTask.key : LoadTask → Nat
  | .entry i => i
  | .links => 3004
  | .missing typ => 2000 + typ
  | .step6 => 3006
  | .dram => 3008
  | .finish => 3010

/-- The entries of the directory that a rule picks, in directory order. -/
def Img.pick (m : Img) (p : DirEntry → Bool) : List LoadTask :=
  ((List.range m.dir.length).filter fun i => p (m.dir.getD i {})).map LoadTask.entry

/-- The entries of a section type with one instance, and a task for a required one that has none. -/
def Img.single (m : Img) (typ : Nat) (required : Bool) : List LoadTask :=
  m.pick (fun e => e.typ == typ) ++
    (if required && !(m.dir.any fun e => e.typ == typ && e.inst == 0) then [.missing typ] else [])

/-- The networks in load order (R130). -/
def Img.netOrder (m : Img) : List Nat := m.order ++ (List.range 256).filter fun k => !m.order.contains k

/-- The entries of NETWORK or WEIGHTS sections in load order; instances above 255 last. -/
def Img.byNet (m : Img) (typ : Nat) : List LoadTask :=
  (m.netOrder.map fun k => m.pick fun e => e.typ == typ && e.inst == k).flatten ++
    m.pick fun e => e.typ == typ && decide (255 < e.inst)

/-- Has the directory a NETWORK entry of an instance? -/
def Img.hasNet (m : Img) (k : Nat) : Bool := m.dir.any fun e => e.typ == 0x10 && e.inst == k

/-- The WEIGHTS entries: those with a NETWORK entry in load order, then the others in ascending instance (R139 step 9). -/
def Img.weights (m : Img) : List LoadTask :=
  (m.netOrder.map fun k => m.pick fun e => e.typ == 0x11 && e.inst == k && m.hasNet k).flatten ++
  ((List.range 256).map fun k => m.pick fun e => e.typ == 0x11 && e.inst == k && !m.hasNet k).flatten ++
  m.pick fun e => e.typ == 0x11 && decide (255 < e.inst)

/-- Every task of the load, in order. -/
def Img.tasks (m : Img) : List LoadTask :=
  m.pick (fun e => (maxLength e.typ).isNone) ++
  m.single 1 false ++ [.links] ++ m.single 2 true ++ m.single 3 true ++ m.single 4 true ++
  m.single 5 false ++ m.single 6 false ++ m.single 7 false ++ [.step6] ++
  (if m.dir.any fun e => e.typ == 8 && e.inst == 0 then [] else [.missing 8]) ++
  ((List.range 16).map fun v => m.pick fun e => e.typ == 8 && e.inst == v).flatten ++
  m.pick (fun e => e.typ == 8 && decide (15 < e.inst)) ++
  m.byNet 0x10 ++ [.dram] ++ m.weights ++ [.finish]

/-- A task is done. -/
def State.taskDone (s : State) (t : LoadTask) : State := { s with img := { s.img with done := s.img.done ++ [t.key] } }

/-- DRAM address just past an archive of an entry placed at the next place (R138). -/
def State.archiveEnd (s : State) (e : DirEntry) : Nat := s.img.archiveTop + (e.length - 16 + 65535) / 65536 * 65536

/-- What decides an entry before it is read (R134, R138, R139, R144, R146, R147): a fault's code, or none. DESIGN CHOICE (log
entry 57): a WEIGHTS entry without its network that has a fault of its own is given that fault's code. -/
def State.preFault (s : State) (i : Nat) : Option Nat :=
  let e := s.img.dir.getD i {}
  if e.typ = 8 ∧ (s.ready 9 = false ∨ s.ready 10 = false) then some 0x0A
  else if e.typ = 0x11 ∧ s.failed 14 = true then some 0x10
  else if s.entryFault i ≠ 0 then some (s.entryFault i)
  else if e.typ ≠ 0x11 then none
  else if (s.net e.inst).blocks.isEmpty then some 0x0A
  else if e.onEmmc && s.img.emmcState == 2 then some 0x09
  else if s.dram.spillBase * 2 ^ 20 < s.archiveEnd e then some 0x0F
  else none

/-- The loader begins to read an entry; a WEIGHTS section takes its place (R138). -/
def State.beginRead (s : State) (i : Nat) : State :=
  let e := s.img.dir.getD i {}
  let s : State := { s with img := { s.img with cur := some i, dramBad := false } }
  if e.typ = 0x11 then
    let n := s.net e.inst
    { s with img := { s.img with
        nets := tput {} s.img.nets e.inst { n with base := s.img.archiveTop }, archiveTop := s.archiveEnd e } }
  else s

/-- One task: none while it waits (for DRAM or the eMMC), else the state and whether the loader goes on at once. -/
def State.runTask (s : State) : LoadTask → Option (State × Bool)
  | .entry i =>
    let e := s.img.dir.getD i {}
    if (maxLength e.typ).isNone then
      some ((s.logPair e.typ e.inst (0x0C, noRec) (s.entrySource e) .skipped).taskDone (.entry i), true)
    else if e.typ = 8 ∧ e.inst ≠ 0 ∧ s.failed 12 = true ∧ s.ready 9 = true ∧ s.ready 10 = true then
      some (s.taskDone (.entry i), true)
    else match s.preFault i with
      | some c => some ((s.rejectSection e.typ e.inst (c, noRec) (s.entrySource e)).taskDone (.entry i), true)
      | none => if e.onEmmc && s.img.emmcState == 0 then none else some (s.beginRead i, false)
  | .links =>
    let s : State := { s with img := { s.img with linksDone := true } }
    some (((List.range s.grade.links).foldl (fun s k => s.beginTraining k) s).taskDone .links, true)
  | .missing typ =>
    let s := s.logPair typ 0 (0x0E, noRec) (s.rdy.copy - 1) .rejected
    let s := if typ = 8 ∧ (s.ready 9 = false ∨ s.ready 10 = false) then s
      else match requiredBit typ with
        | some b => s.failRdy b
        | none => s
    some (s.taskDone (.missing typ), true)
  | .step6 => some ((({ s with img := { s.img with step6Done := true } } : State).spillCheck).taskDone .step6, true)
  | .dram => if s.ready 14 || s.failed 14 then some (s.taskDone .dram, true) else none
  | .finish => some ((s.taskDone .finish).finishLoad, false)

/-- The tasks taken in turn, as far as the loader gets. -/
def goTasks : List LoadTask → State → State
  | [], s => s
  | t :: ts, s =>
    if s.img.done.contains t.key then goTasks ts s
    else match s.runTask t with
      | none => s
      | some (s, true) => goTasks ts s
      | some (s, false) => s

/-- Does the loader act: it has the directory, and neither ended nor reads a section? -/
def State.loading (s : State) : Bool := s.ready 8 && !s.img.stopped && !s.img.finished && s.img.cur.isNone

/-- The loader goes on. -/
def State.advanceLoad (s : State) : State := if s.loading then goTasks s.img.tasks s else s

/-! ## What an accepted section does (R123 to R138) -/

/-- LINKS (R123). -/
def State.takeLinks (s : State) (d : List Byte) : State :=
  { s with img := { s.img with links := (List.range (secCount d)).foldl (fun m i =>
      tput {} m (field d (16 + 16 * i) 1) (linkRec d i)) [] } }

/-- STREAMS (R124). -/
def State.takeStreams (s : State) (d : List Byte) : State :=
  let m : FMap StreamCfg := (List.range (secCount d)).foldl (fun m i =>
    tput {} m (field d (16 + 32 * i) 2) (streamRec d i)) []
  (({ s with img := { s.img with streams := m } } : State).setRdy 9).refreshPorts

/-- RINGS (R125). -/
def State.takeRings (s : State) (d : List Byte) : State :=
  let s : State := (List.range (secCount d)).foldl (fun s i =>
    let ring := field d (16 + 8 * i) 1
    let log := field d (16 + 8 * i + 1) 1
    if bitOf (field d (16 + 8 * i + 2) 1) 0 then { s with img := { s.img with rings := tput 0 s.img.rings ring (log + 1) } }
    else { s with img := { s.img with ringsDis := tput 0 s.img.ringsDis ring log } }) s
  (s.setRdy 10).tryStart

/-- SAFETY (R126). -/
def State.takeSafety (s : State) (d : List Byte) : State :=
  (({ s with img := { s.img with claim := field d 16 1, injectPeriods := field d 17 1, wdogMarginUs := field d 18 2 } } :
    State).setRdy 11).tryStart

/-- CHECKS (R127). -/
def State.takeChecks (s : State) (d : List Byte) : State :=
  let map := field d 16 64
  let m : FMap Nat := ((List.range 512).filter fun k => bitOf map k).foldl (fun m k => tput 0 m k 1) []
  { s with img := { s.img with checks := m } }

/-- ALLOC (R128). -/
def State.takeAlloc (s : State) (d : List Byte) : State :=
  { s with img := { s.img with allocOk := true, spillMiB := field d 16 4, reserve := (slice d 20 4).map (·.toNat) } }

/-- ORDER (R130). -/
def State.takeOrder (s : State) (d : List Byte) : State :=
  { s with img := { s.img with order := (List.range (secCount d)).map fun i => field d (16 + i) 1 } }

/-- PLAN instance v (R131, R134, R441): instance 0 gives the period and makes PLAN ready. -/
def State.takePlan (s : State) (d : List Byte) (v : Nat) : State :=
  let p := planOf d
  let safety := (p.jobs.filter fun j => j.cls == 0).foldl (fun m j => setBit m j.ring) s.img.safetyRings
  let s : State := { s with img := { s.img with plans := tput {} s.img.plans v p, safetyRings := safety } }
  if v ≠ 0 then s
  else
    let s : State := { s with
      sch := { s.sch with plan := 0 }
      prd := { s.prd with pUs := p.periodUs, n := p.n, phase := BitVec.ofNat 64 p.phase, align := p.align } }
    let s := (s.setRdy 12).formGangs
    let s : State := s.grade.tiles.foldl State.placeTile s
    s.announcePlan.refreshNets.refreshPorts.tryStart

/-- A code block written into its tile's instruction memory (R136). -/
def State.putBlock (s : State) (d : List Byte) (x : Nat × BlockCfg) : State :=
  s.modTile x.2.tile fun t => { t with imem := memWrite 0#8 t.imem x.2.off (slice d (x.1 + 16) x.2.len) }

/-- CHECK of the first directory entry of a network's WEIGHTS section, zero where there is none (R486). -/
def Img.weightCheck (m : Img) (k : Nat) : Word := ((m.dir.find? fun e => e.typ == 0x11 && e.inst == k).map (·.check)).getD 0#32

/-- NETWORK k (R135, R136). -/
def State.takeNetwork (s : State) (d : List Byte) (k : Nat) : State :=
  let n := { netOf d with wCheck := s.img.weightCheck k }
  let s : State := { s with img := { s.img with nets := tput {} s.img.nets k n } }
  (((netBlocks d).foldl (fun s x => s.putBlock d x) s).formGangs).refreshNets

/-- WEIGHTS k (R137): its pages lie in DRAM from its place on, and the pager keeps what R297 says. -/
def State.takeWeights (s : State) (d : List Byte) (k : Nat) : State :=
  let n := s.net k
  ({ s with
    img := { s.img with nets := tput {} s.img.nets k { n with wOk := true, layers := keepLayers d n } } } : State).refreshNets.dramPut n.base (d.drop 16)

/-- A section accepted. -/
def State.takeSection (s : State) (e : DirEntry) (d : List Byte) : State :=
  if e.typ = 1 then s.takeLinks d
  else if e.typ = 2 then s.takeStreams d
  else if e.typ = 3 then s.takeRings d
  else if e.typ = 4 then s.takeSafety d
  else if e.typ = 5 then s.takeChecks d
  else if e.typ = 6 then s.takeAlloc d
  else if e.typ = 7 then s.takeOrder d
  else if e.typ = 8 then s.takePlan d e.inst
  else if e.typ = 0x10 then s.takeNetwork d e.inst
  else s.takeWeights d e.inst

/-! ## Deciding a section (R122, R143 to R145) -/

/-- The fault of a section's head (R122). -/
def headFault (e : DirEntry) (d : List Byte) : Option Fault1 :=
  headFail [(field d 0 2 == e.typ && field d 2 2 == e.inst && field d 4 4 == e.length, 0x03), (zeros d 12 4, 0x05)]

/-- The fault of a section's body. -/
def State.bodyFault (s : State) (e : DirEntry) (d : List Byte) : Option Fault1 :=
  if e.typ = 1 then s.checkLinks d
  else if e.typ = 2 then s.checkStreams d
  else if e.typ = 3 then checkRings d
  else if e.typ = 4 then s.checkSafety d
  else if e.typ = 5 then s.checkChecks d
  else if e.typ = 6 then s.checkAlloc d
  else if e.typ = 7 then s.checkOrder d
  else if e.typ = 8 then s.checkPlan d e.inst
  else if e.typ = 0x10 then s.checkNetwork d e.inst
  else s.checkWeights d e.inst

/-- The fault of a section as read: READ_FAIL, CHECK_FAIL, its head, its body. -/
def State.sectionFault (s : State) (e : DirEntry) (d : Option (List Byte)) (dramBad : Bool) : Option Fault1 :=
  match d with
  | none => some (0x02, noRec)
  | some d =>
    if dramBad then some (0x02, noRec)
    else if d.length ≠ e.length ∨ crc32c d ≠ e.check then some (0x01, noRec)
    else orElse (headFault e d) fun _ => s.bodyFault e d

/-- May a section be recovered from the alternate copy (R145)? -/
def State.mayRecover (s : State) (e : DirEntry) (code : Nat) : Bool :=
  (code == 1 || code == 2) && s.rdy.copy == 1 && s.rdy.altValid && !e.onEmmc &&
    s.img.altDir.any fun f => f.typ == e.typ && f.inst == e.inst && f.flags == e.flags && f.length == e.length && f.check == e.check

/-- The outcome of the section read (R142, R144, R145); an ALLOC section taken from the alternate copy has its one pair when
R609 has decided it. -/
def State.decideSection (s : State) (e : DirEntry) (a : SectionIn) : State :=
  match s.sectionFault e a.data s.img.dramBad with
  | none => s.takeSection e (a.data.getD [])
  | some f =>
    if s.mayRecover e f.1 then
      match s.sectionFault e a.alt false with
      | none =>
        let s := if e.typ = 6 ∧ s.dram.trained = false ∧ s.failed 14 = false then { s with img := { s.img with allocHeld := some f } }
          else s.logPair e.typ e.inst f 1 .recovered
        s.takeSection e (a.alt.getD [])
      | some g => s.rejectSection e.typ e.inst g 1
    else s.rejectSection e.typ e.inst f (s.entrySource e)

/-- Bytes that the loader has read (R142). -/
def State.addLoadBytes (s : State) (l : List (Option (List Byte))) : State :=
  let n := (l.map fun x => (x.map (·.length)).getD 0).foldl (· + ·) 0
  { s with rdy := { s.rdy with loadBytes := s.rdy.loadBytes + BitVec.ofNat 64 n } }

/-- SECTION_READ_DONE (R144, R145, R148): the section under way has been read; while a flush holds the xSPI bus nothing of it
arrives. -/
def execSectionReadDone (a : SectionIn) (s : State) : Result :=
  .next (match s.img.cur with
  | none => s
  | some i =>
    let e := s.img.dir.getD i {}
    if s.img.stopped || s.img.finished || (s.evr.flushing && !e.onEmmc) then s
    else
      let s := s.addLoadBytes [a.data, if (s.sectionFault e a.data s.img.dramBad).isSome then a.alt else none]
      let s := s.decideSection e a
      (({ s with img := { s.img with cur := none, dramBad := false } } : State).taskDone (.entry i)).advanceLoad)

/-! ## Discovery, header and directory (R112, R115 to R118, R150) -/

/-- xSPI has failed: no section can be read (R98, R116). -/
def State.failXspi (s : State) : State := (s.failRdy 5).finishLoad

/-- Is xSPI reset and discovery under way, the load not ended by a standby request (R149)? -/
def State.discovering (s : State) : Bool := s.aon.pllLocked && !s.ready 5 && !s.failed 5 && !s.img.stopped

/-- Does discovery fail (R116)? -/
def sfdpBad (a : SfdpIn) : Bool :=
  !a.signature || !a.revOk || decide (a.bfptDwords < 20) || decide (a.densityMiB < 16) || decide (512 < a.densityMiB) || !a.erase64k

/-- Does the load run 1S-1S-1S (R115, R116)? -/
def State.singleSdr (s : State) (a : SfdpIn) : Bool :=
  s.sys.straps.getLsbD 6 || !a.ff05 || !a.ff0a || decide (a.maxMhz < 100)

/-- The clock of the load in MHz (R115). -/
def State.flashMhz (s : State) (a : SfdpIn) : Nat :=
  if s.singleSdr a then 50 else if 200 ≤ a.maxMhz then 200 else if 150 ≤ a.maxMhz then 150 else 100

/-- XSPI_DISCOVERY_DONE (R115, R116, R502, R507): XSPI sets, the recorder slots are examined, and a part that boots from no
image is done. -/
def execXspiDiscoveryDone (a : SfdpIn) (s : State) : Result :=
  .next (if !s.discovering then s
    else if sfdpBad a then s.failXspi
    else
      let sdr := s.singleSdr a
      let tflush := 140 + 67 * (a.tppUs + if sdr then 8 else 2)
      let mode : Word := BitVec.ofNat 32 ((if sdr then 1 else 2) + s.flashMhz a * 2 ^ 8 + a.densityMiB * 2 ^ 16)
      let slow := decide ((if sdr then 33 else 39) < a.tppUs)
      let evs := if slow then setBit s.evr.events 2 else s.evr.events
      let s : State := { s with
        rdy := { s.rdy with xspiMode := mode }
        img := { s.img with densityMiB := a.densityMiB }
        evr := { s.evr with tpp := a.tppUs, tflush := tflush, slowFlash := slow, events := evs } }
      let s := (s.setRdy 5).examineSlots
      if 2 ≤ s.bootSrc then s.finishLoad else s)

/-- A copy taken into use: IMAGE sets, and the load steps begin (R118, R142). -/
def State.useCopy (s : State) (copy base : Nat) (h : List Byte) (dir alt : List DirEntry) (altValid : Bool) : State :=
  let s : State := { s with
    rdy := { s.rdy with imgId := wordAt h 0x14, copy := copy, altValid := altValid, format := (h.getD 4 0#8), dirCount := dir.length }
    img := { s.img with hdrBase := base, imageLength := field h 0x10 4, dirOffset := field h 0x0C 4, dir := dir, altDir := alt } }
  (s.setRdy 8).advanceLoad

/-- HEADER_AND_DIRECTORY_READ (R112, R118, R150): the primary copy, else the alternate one, else IMAGE fails. DESIGN CHOICE
(log entry 55): ALT_VALID is 0 while the alternate is itself the copy in use. -/
def execHeaderAndDirectoryRead (a : HeaderIn) (s : State) : Result :=
  .next (if !s.ready 7 || decide (2 ≤ s.bootSrc) || s.img.started || s.img.stopped || s.evr.flushing then s
    else
      let half := s.img.densityMiB * 2 ^ 20 / 2
      let s : State := { s with img := { s.img with started := true } }
      let s := s.addLoadBytes [a.primary, a.primaryDir, a.alternate, a.alternateDir]
      let alt := s.copyDir half a.alternate a.alternateDir
      let h := a.primary.getD []
      let ah := a.alternate.getD []
      match s.copyDir 0 a.primary a.primaryDir, alt with
      | some dir, some x =>
        let same := wordAt h 0x14 == wordAt ah 0x14
        s.useCopy 1 0 h dir (if same then x else []) same
      | some dir, none => s.useCopy 1 0 h dir [] false
      | none, some dir => s.useCopy 2 half ah dir [] false
      | none, none => (s.failRdy 8).finishLoad)

/-! ## eMMC and DRAM (R98, R117, R147, R608) -/

/-- Is eMMC bring-up under way? -/
def State.emmcUnderWay (s : State) : Bool := s.aon.pllLocked && s.bootSrc == 1 && s.img.emmcState == 0

/-- eMMC bring-up ends. -/
def State.emmcEnd (s : State) (ok : Bool) : State :=
  let s : State := { s with img := { s.img with emmcState := if ok then 1 else 2 } }
  (if ok then s.setRdy 6 else s.failRdy 6).advanceLoad

/-- EMMC_BRINGUP_DONE (R117). -/
def execEmmcBringupDone (hs400 : Bool) (s : State) : Result := .next (if s.emmcUnderWay then s.emmcEnd hs400 else s)

/-- Is DRAM training under way? -/
def State.training (s : State) : Bool := s.aon.pllLocked && !s.ready 14 && !s.failed 14

/-- DRAM training ends: the capacity is known, ALLOC's bound is checked, and networks and the loader go on (R98, R147,
R609). -/
def State.dramEnd (s : State) (ok : Bool) (capacityMiB : Nat) : State :=
  if !ok then (if s.img.stopped then s.failRdy 14 else (s.failRdy 14).tellAlloc.advanceLoad)
  else
    let s : State := { s with dram := { s.dram with
      trained := true, capacityMiB := capacityMiB, channels := s.grade.channels } }
    ((s.setRdy 14).spillCheck.refreshNets).advanceLoad

/-- DRAM_TRAINING_DONE (R98). -/
def execDramTrainingDone (ok : Bool) (capacityMiB : Nat) (s : State) : Result :=
  .next (if s.training then s.dramEnd ok capacityMiB else s)

/-- BRINGUP_BOUND_EXPIRY (R608): a step that has not succeeded by its bound fails. -/
def execBringupBoundExpiry (which : Bringup) (s : State) : Result :=
  .next (match which with
  | .xspi => if s.discovering then s.failXspi else s
  | .emmc => if s.emmcUnderWay then s.emmcEnd false else s
  | .dram => if s.training then s.dramEnd false 0 else s
  | .dphy p =>
    if s.aon.pllLocked && decide (p < s.grade.csi) && !(s.csiPort p).calibrated && !(s.csiPort p).calFail then
      (s.modCsi p fun x => { x with calFail := true }).refreshPorts
    else s)

end Sys2Proof.Machine
end

