-- ==== Sys2Proof/Machine/Regs.lean ====
section
/-!
DEFINITION. What a read of each register returns (R22, R104, R105, R142, R67, R562, R394, R431, R433, R171, R184, R222,
R456, R511, R489, R317, R256, R289, R318, R366, R555, R561, R564), with the read side effects of RC fields and RSL pairs (R17).
-/

namespace Sys2Proof.Machine

/-! ## Values -/

/-- What a read finds at an address (R17): a plain field; a field whose read also changes the state (RC); the low word of an
RSL pair, with the whole pair; the high word of one. -/
inductive RegVal where
  | val (w : Word)
  | eff (w : Word) (after : State)
  | lo (d : DWord)
  | hi

/-- A number as a register's value. -/
def n2v (n : Nat) : RegVal := .val (BitVec.ofNat 32 n)

/-- RSL pairs one after the other, at a byte offset from the first. -/
def pairsAt (l : List DWord) (k : Nat) : RegVal := if k % 8 = 0 then .lo (l.getD (k / 8) 0#64) else .hi

/-- A word of a byte list. -/
def bytesAt (l : List Byte) (off : Nat) : RegVal := .val (wordAt l off)

/-- A signed number saturated to 32 bits. -/
def sat32 (x : Int) : Word := BitVec.ofInt 32 (max (-2147483648) (min 2147483647 x))

/-- Word i of a 256-bit map. -/
def mapWord (m : BitVec 256) (i : Nat) : RegVal := .val ((m >>> (32 * i)).setWidth 32)

/-! ## SYS (R22, R86, R104, R430) -/

/-- The SYS block. -/
def State.sysReg (s : State) (path : Port) (off : Nat) : RegVal :=
  match off with
  | 0x000 => .val (sysId s)
  | 0x004 => .val s.sys.straps
  | 0x008 => .val s.sys.rstCause
  | 0x010 => n2v (256 * b2n (s.aon.standby == .flushing || s.aon.standby == .waitL2))
  | 0x014 => .val (putBit s.sys.monStatus 26 (!s.aon.pwrFailN))
  | 0x018 => .val s.sys.monEvents
  | 0x01C => n2v (s.sys.tempMax.toNat + s.sys.tempSensor.toNat * 2 ^ 16)
  | 0x020 => .lo (BitVec.ofNat 64 (s.sys.uptimeNs / 1000))
  | 0x024 => .hi
  | 0x028 => .val s.sys.pcieResets
  | 0x100 => .val s.sys.ovlSys
  | 0x104 => .val s.sys.ovlPrd
  | 0x108 => .val s.sys.ovlSch
  | 0x10C => .val s.sys.ovlRing
  | 0x110 => .val s.sys.ovlStrm
  | 0x114 => if path = .bar0 then n2v 0 else .val s.sys.ovlSaf
  | 0x118 => .val s.sys.ovlEvr
  | 0x11C => .val s.sys.ovlCrs
  | 0x120 => .val s.sys.ovlDram
  | _ => n2v 0

/-! ## RDY (R105, R142) -/

/-- A word of RDY_IMG_LOG. -/
def Rdy.logWord (r : Rdy) (k : Nat) : Word :=
  let w := r.imgLog.getD (k / 2) (0#32, 0#32)
  if k % 2 = 0 then w.1 else w.2

/-- The RDY block. -/
def State.rdyReg (s : State) (off : Nat) : RegVal :=
  let r := s.rdy
  if 0x040 ≤ off ∧ off < 0x060 then mapWord r.net ((off - 0x040) / 4)
  else if 0x100 ≤ off ∧ off < 0x140 then .val (r.times.getD ((off - 0x100) / 4) 0#32)
  else if 0x400 ≤ off ∧ off < 0x800 then .val (r.logWord ((off - 0x400) / 4))
  else if 0x800 ≤ off ∧ off < 0xA00 then .val (tget 0#32 r.stream ((off - 0x800) / 4))
  else match off with
    | 0x000 => .val r.status
    | 0x004 => .val r.fail
    | 0x008 => .val r.port
    | 0x00C => .val r.portFail
    | 0x010 => .val r.seq
    | 0x020 => .val r.imgId
    | 0x024 => n2v (r.copy + 4 * b2n r.altValid + 2 ^ 8 * r.format.toNat + 2 ^ 16 * r.dirCount)
    | 0x028 => n2v (r.rejected + 2 ^ 8 * r.skipped + 2 ^ 16 * r.recovered + 2 ^ 24 * r.imgLog.length)
    | 0x02C => .val r.xspiMode
    | 0x030 => .lo r.loadBytes
    | 0x034 => .hi
    | _ => n2v 0

/-! ## PRD and PEN (R67, R562) -/

/-- PRD_STATUS.STATE. -/
def PrdGen.code : PrdGen → Nat
  | .idle => 0
  | .run => 1
  | .capo => 2
  | .hold => 3

/-- PRD_STATUS. -/
def Prd.statusWord (p : Prd) : Nat := p.gen.code + 4 * p.align + 2 ^ 8 * b2n p.abortDiscard + 2 ^ 9 * b2n p.lockTimeout

/-- PRD_DIG_STATUS. -/
def Prd.digWord (p : Prd) : Nat := p.digCount + 2 ^ 16 * b2n p.digValid + 2 ^ 17 * b2n p.digTrunc + 2 ^ 18 * b2n p.digKilled

/-- The PRD block. -/
def State.prdReg (s : State) (off : Nat) : RegVal :=
  let p := s.prd
  if 0x800 ≤ off ∧ off < 0x1000 then
    (if off % 8 = 0 then .lo (tget 0#64 p.digLog ((off - 0x800) / 8)) else .hi)
  else match off with
    | 0x004 => n2v p.statusWord
    | 0x008 => n2v p.pUs
    | 0x00C => n2v (p.n + 2 ^ 16 * p.slot)
    | 0x010 => .val p.count
    | 0x014 => .val p.epoch
    | 0x018 => .lo p.boundary
    | 0x01C => .hi
    | 0x020 => .lo p.phase
    | 0x024 => .hi
    | 0x028 => .val p.aborts
    | 0x02C => .val p.lastAbort
    | 0x040 => .val p.digSel
    | 0x044 => n2v p.digWord
    | 0x048 => .val p.digLayer
    | 0x04C => .val p.digPeriod
    | _ => n2v 0

/-- The PEN block. -/
def State.penReg (s : State) (off : Nat) : RegVal :=
  if off < 0x080 then .val (s.pen.cur.getD (off / 4) 0#32)
  else if off < 0x100 then .val (s.pen.prev.getD ((off - 0x080) / 4) 0#32)
  else n2v 0

/-! ## SCH (R394) -/

/-- C0_RISK: an admitted class-0 instance whose test failed at its latest decision. -/
def State.c0Risk (s : State) : Bool := s.sch.insts.any fun i => i.job.cls == 0 && i.active && i.testFailed

/-- SCH_STATUS. -/
def State.schStatus (s : State) : Nat :=
  s.sch.plan + 16 * b2n s.sch.noVariant + 32 * b2n s.c0Risk + 2 ^ 8 * min s.sch.decideQ.length 255

/-- SCH_ABSENT. -/
def State.schAbsent (s : State) : Nat :=
  (clrBit s.absentLinks (modPos s)).toNat + 16 * s.sch.force.toNat + 2 ^ 8 * s.sch.sampled.toNat + 2 ^ 12 * s.sch.eff.toNat

/-- The half-word of SCH_GANG_MAP of a tile. -/
def State.gangHalf (s : State) (t : Nat) : Nat :=
  let g := tget 0 s.sch.gangOf t
  if g = 0 then 0 else g - 1 + 2 ^ 15

/-- The counters of a class, in the order ADMIT, DEFER, SHED, LATE. -/
def Sch.classCount (h : Sch) (c k : Nat) : Word :=
  match k with
  | 0 => tget 0#32 h.admitC c
  | 1 => tget 0#32 h.deferC c
  | 2 => tget 0#32 h.shedC c
  | _ => tget 0#32 h.lateC c

/-- Is a job in the running plan (R561)? -/
def State.planHas (s : State) (j : Nat) : Bool := s.ready 12 && s.plan.jobs.any fun x => x.job == j

/-- The SCH block. -/
def State.schReg (s : State) (off : Nat) : RegVal :=
  let h := s.sch
  if 0x100 ≤ off ∧ off < 0x140 then .val (h.classCount ((off - 0x100) / 16) ((off - 0x100) % 16 / 4))
  else if 0x400 ≤ off ∧ off < 0x600 then
    n2v (s.gangHalf ((off - 0x400) / 2) + 2 ^ 16 * s.gangHalf ((off - 0x400) / 2 + 1))
  else if 0x8000 ≤ off ∧ off < 0x10000 then
    let j := (off - 0x8000) / 8
    if !s.planHas j then n2v 0
    else if off % 8 = 0 then .val (tget 0#32 h.jobLast j) else .val (tget 0#32 h.jobDetail j)
  else match off with
    | 0x000 => n2v s.schStatus
    | 0x004 => n2v s.schAbsent
    | 0x008 => n2v (h.classEn ||| 1#4).toNat
    | 0x00C => .val h.events
    | 0x010 => n2v h.gangs
    | 0x014 => .eff h.queuePeak { s with sch := { h with queuePeak := 0#32 } }
    | 0x018 => .eff h.slipMax { s with sch := { h with slipMax := 0#32 } }
    | 0x01C => .val h.switches
    | 0x020 => .val h.overruns
    | 0x024 => .eff h.decidePeak { s with sch := { h with decidePeak := 0#32 } }
    | _ => n2v 0

/-! ## RING (R431, R433, R561) -/

/-- RING_CTRL of ring k. -/
def State.ringCtrl (s : State) (k : Nat) : Nat :=
  b2n (s.ringOf k).run + 2 * (s.ringOf k).close + 2 ^ 8 * s.ringLog2 k + 2 ^ 16 * b2n (s.ringEnabled k)

/-- RING_STATUS: a page is open from the moment its first record is taken, with nothing in use yet (R416). -/
def Ring.statusWord (r : Ring) : Nat :=
  (match r.openP, r.xfer with
    | some p, _ => p.used + 2 ^ 16
    | none, some _ => 2 ^ 16
    | none, none => 0) + 2 ^ 17 * b2n r.stalled + 2 ^ 18 * b2n r.summary

/-- A register of ring k: zero until RINGS is ready, and where the ring is not enabled. -/
def State.ringReg (s : State) (k off : Nat) : RegVal :=
  let r := s.ringOf k
  if !s.ready 10 || !s.ringEnabled k then n2v 0
  else match off with
    | 0x00 => .val (r.base.setWidth 32)
    | 0x04 => .val ((r.base >>> 32).setWidth 32)
    | 0x08 => n2v (s.ringCtrl k)
    | 0x0C => .val r.prod
    | 0x10 => .val r.cons
    | 0x14 => n2v r.statusWord
    | 0x18 => .val r.events
    | 0x1C => .val r.drops
    | 0x20 => .val r.abandons
    | 0x24 => .val r.offDrops
    | 0x28 => .val r.tooLong
    | 0x2C => .val r.records
    | 0x30 => .val r.next
    | _ => n2v 0

/-- Writes that wait in the posted-write queue (R433). -/
def State.postedCount (s : State) : Nat := (s.ring.posted.filter Posted.isWrite).length

/-- RING_HOST. -/
def State.ringHost (s : State) : Nat :=
  b2n s.ring.writeStall + 2 * b2n (s.pcie.command.getLsbD 2) + 4 * b2n s.pcie.l0 + 2 ^ 8 * min s.postedCount 64

/-- The RING block. -/
def State.ringBlkReg (s : State) (off : Nat) : RegVal :=
  let r := s.ring
  if off < 0x4000 then s.ringReg (off / 64) (off % 64)
  else match off with
    | 0x4000 => .val r.mirrorLo
    | 0x4004 => .val r.mirrorHi
    | 0x4008 => n2v s.ringHost
    | 0x400C => .val r.gevents
    | 0x4010 => .val r.stalls
    | 0x4014 => .val r.resyncs
    | 0x4018 => .eff r.enginePeak { s with ring := { r with enginePeak := 0#32 } }
    | _ => n2v 0

/-! ## STRM (R171, R184, R222) -/

/-- A word of a stream's context. -/
def State.ctxReg (s : State) (k off : Nat) : RegVal :=
  let c := s.streamCfg k
  match off with
  | 0x0 => .val c.geom
  | 0x4 => .val c.bind
  | 0x8 => .val c.timing
  | _ => .val c.guard

/-- Lanes of a CSI-2 port, by its streams' LANES. -/
def State.csiLanes (s : State) (p : Nat) : Nat :=
  match s.portStreams 0 p with
  | [] => 0
  | k :: _ => 2 ^ (s.streamCfg k).lanes

/-- CSI_STATUS. -/
def State.csiStatus (s : State) (p : Nat) : Nat :=
  b2n (s.named 0 p) + 2 * b2n (s.csiPort p).clkLane + 4 * s.csiLanes p + 2 ^ 16 * (s.portStreams 0 p).length

/-- ETH_STATUS: port 0 is brought up once the clocks are there (R153, log entry 60). -/
def State.ethStatus (s : State) (e : Nat) : Nat :=
  let carries := e == 0 && s.aon.pllLocked
  b2n (carries || s.named 1 e) + 2 * b2n (s.ethPort e).link + 4 * (s.ethPort e).rate + 2 ^ 11 * b2n carries

/-- T1S_STATUS. -/
def State.t1sStatus (s : State) (t : Nat) : Nat :=
  if s.named 3 t then 1 + 2 * b2n (s.t1sPort t).plca + 2 ^ 5 * s.nodes t + 2 ^ 16 * (s.portStreams 3 t).length else 0

/-- The registers of a CSI-2 receiver. -/
def State.csiReg (s : State) (p off : Nat) : RegVal :=
  let x := s.csiPort p
  match off with
  | 0x00 => n2v (s.csiStatus p)
  | 0x04 => .val x.pkts
  | 0x08 => .val x.eccCorr
  | 0x0C => .val x.hdrErr
  | 0x10 => .val x.crcErr
  | 0x14 => .val x.unmatched
  | 0x18 => .val x.orphan
  | 0x1C => .val x.lenErr
  | 0x20 => .val x.dropFull
  | 0x3C => .val x.events
  | _ => n2v 0

/-- The registers of an Ethernet MAC. -/
def State.ethReg (s : State) (e off : Nat) : RegVal :=
  let x := s.ethPort e
  let a := (x.addrXor ^^^ ethAddrReset s e).toNat
  match off with
  | 0x00 => n2v (s.ethStatus e)
  | 0x04 => .val x.frames
  | 0x08 => .val x.fcsErr
  | 0x0C => .val x.other
  | 0x10 => .val x.malformed
  | 0x14 => .val x.unmatched
  | 0x18 => .val x.orphan
  | 0x1C => .val x.dropFull
  | 0x20 => n2v a
  | 0x24 => n2v (a / 2 ^ 32)
  | 0x3C => .val x.events
  | _ => n2v 0

/-- The registers of a 10BASE-T1S port. -/
def State.t1sReg (s : State) (t off : Nat) : RegVal :=
  let x := s.t1sPort t
  match off with
  | 0x00 => n2v (s.t1sStatus t)
  | 0x04 => .val x.frames
  | 0x08 => .val x.fcsErr
  | 0x0C => .val x.unmatched
  | 0x10 => .val x.malformed
  | 0x14 => .val x.orphan
  | 0x18 => .val x.cycles
  | 0x1C => .val x.recoveries
  | 0x20 => .val x.collisions
  | 0x3C => .val x.events
  | _ => n2v 0

/-- INTAKE_STATUS: frames open, and streams with a line waiting for a claim. -/
def State.intakeStatus (s : State) : Nat :=
  (s.strm.frm.filter fun x => x.2.portOpen).length % 2 ^ 13
    + 2 ^ 16 * ((s.strm.rt.filter fun x => x.2.waitClaim).length % 2 ^ 13)

/-- The intake registers. -/
def State.intakeReg (s : State) (off : Nat) : RegVal :=
  let m := s.strm
  match off with
  | 0x00 => n2v s.intakeStatus
  | 0x04 => .val m.lines
  | 0x08 => .val m.landFullC
  | 0x0C => .val m.cvFailC
  | 0x10 => .val m.noStoreC
  | 0x14 => .eff m.cvWaitMax { s with strm := { m with cvWaitMax := 0#32 } }
  | 0x18 => .lo m.partsC
  | 0x1C => .hi
  | 0x20 => .eff m.settleMax { s with strm := { m with settleMax := 0#32 } }
  | 0x3C => .val m.events
  | _ => n2v 0

/-- INTAKE_GUARD0 and INTAKE_GUARD1 of a stream. -/
def StreamRt.guardReg (x : StreamRt) (off : Nat) : RegVal :=
  if off = 0 then n2v (x.cvFail + 2 ^ 16 * x.ctrGap)
  else n2v (x.ctrBad + 2 ^ 8 * x.landFull + 2 ^ 24 * x.intervalErr + 2 ^ 31 * b2n x.noStore)

/-- The statistics of a stream. -/
def StreamRt.statReg (x : StreamRt) (off : Nat) : RegVal :=
  match off with
  | 0x00 => .val x.frames
  | 0x04 => n2v (x.degradedCnt + 2 ^ 16 * x.lost)
  | 0x08 => .val x.last
  | 0x0C => n2v (x.openCnt + 2 ^ 16 * x.stale)
  | 0x10 => .val x.seqGaps
  | 0x14 => .lo x.startT
  | 0x18 => .hi
  | _ => .val x.lastFrame

/-- TB_STATUS.STATE. -/
def TbSt.code : TbSt → Nat
  | .free => 0
  | .locked => 1
  | .holdover => 2

/-- TB_STATUS. -/
def Tb.statusWord (b : Tb) : Nat :=
  b.state.code + 4 * b2n b.asCapable + 8 * b2n b.gmPresent + 16 * b2n b.stepped + 32 * b2n b.slewing

/-- TB_HOLD_US. -/
def State.holdUs (s : State) : Nat :=
  min ((if s.tb.state = .holdover then s.now - s.tb.holdStart else s.tb.holdNs) / 1000) 0xFFFFFFFF

/-- The timebase registers. -/
def State.tbReg (s : State) (off : Nat) : RegVal :=
  let b := s.tb
  match off with
  | 0x00 => n2v b.statusWord
  | 0x04 => .val (sat32 b.offset)
  | 0x08 => .val (BitVec.ofInt 32 b.ratePpb)
  | 0x0C => n2v b.pdelay
  | 0x10 => .lo (BitVec.ofNat 64 s.now)
  | 0x14 => .hi
  | 0x18 => .lo (BitVec.ofInt 64 b.epoch)
  | 0x1C => .hi
  | 0x20 => .lo b.gm
  | 0x24 => .hi
  | 0x28 => .val b.syncs
  | 0x2C => .val b.holdovers
  | 0x30 => n2v s.holdUs
  | 0x34 => .val b.epochChanges
  | 0x38 => .val b.onestep
  | _ => n2v 0

/-- The STRM block: tables of absent ports and streams read as zero. -/
def State.strmReg (s : State) (off : Nat) : RegVal :=
  if off < 0x10000 then (if s.hasStream (off / 16) then s.ctxReg (off / 16) (off % 16) else n2v 0)
  else if off < 0x11000 then
    let p := (off - 0x10000) / 64
    if p < s.grade.csi then s.csiReg p (off % 64) else n2v 0
  else if off < 0x12000 then
    let e := (off - 0x11000) / 64
    if e < s.grade.eth then s.ethReg e (off % 64) else n2v 0
  else if off < 0x13000 then
    let t := (off - 0x12000) / 64
    if t < s.grade.t1s then s.t1sReg t (off % 64) else n2v 0
  else if off < 0x13040 then s.intakeReg (off - 0x13000)
  else if 0x14000 ≤ off ∧ off < 0x1C000 then
    let k := (off - 0x14000) / 8
    if s.hasStream k then (s.stream k).guardReg (off % 8) else n2v 0
  else if 0x1F000 ≤ off ∧ off < 0x1F03C then s.tbReg (off - 0x1F000)
  else if 0x20000 ≤ off then
    let k := (off - 0x20000) / 32
    if s.hasStream k then (s.stream k).statReg (off % 32) else n2v 0
  else n2v 0

/-! ## SAF (R456) -/

/-- Is the injection window open (R452)? -/
def State.injOpen (s : State) : Bool := s.ready 11 && s.img.injectPeriods != 0 && !s.saf.windowClosed

/-- Is a link PAIRED in the accepted LINKS section? -/
def State.hasPaired (s : State) : Bool := s.img.links.any fun x => x.2.mode == 1

/-- SAF_STATUS. -/
def State.safStatus (s : State) : Nat :=
  b2n s.injOpen + 2 * b2n s.hasPaired + 2 ^ 16 * (s.grade.tiles.filter s.excluded).length

/-- SAF_INJ_STATUS. -/
def Saf.injWord (f : Saf) : Nat := f.injState.code + 2 ^ 8 * f.injRefuse + 2 ^ 16 * f.injPeriod.toNat

/-- The SAF block. -/
def State.safReg (s : State) (off : Nat) : RegVal :=
  let f := s.saf
  if 0x080 ≤ off ∧ off < 0x0A0 then mapWord s.img.safetyRings ((off - 0x080) / 4)
  else if 0x100 ≤ off ∧ off < 0x200 then
    bytesAt ((List.range 4).map fun i => BitVec.ofNat 8 (s.tile (off - 0x100 + i)).excl) 0
  else match off with
    | 0x000 => n2v (s.img.claim + 2 ^ 8 * s.img.injectPeriods + 2 ^ 16 * s.img.wdogMarginUs)
    | 0x004 => n2v s.safStatus
    | 0x008 => .val f.faults
    | 0x00C => .val f.periodFaults
    | 0x010 => .val f.faultCount
    | 0x014 => .val f.lastFault
    | 0x024 => .val f.injSel
    | 0x028 => n2v f.injWord
    | 0x02C => .val s.latencyNow
    | 0x030 => .val f.injCovered
    | 0x034 => .val f.injCount
    | 0x044 => n2v (f.readmitTile + 2 ^ 8 * b2n f.readmitAcc + 2 ^ 9 * b2n f.readmitDen)
    | _ => n2v 0

/-! ## EVR (R511) -/

/-- EVR_STATUS.ARM. -/
def ArmSt.code : ArmSt → Nat
  | .unarmed => 0
  | .early => 1
  | .verifying => 2
  | .erasing => 3
  | .armed => 4
  | .spent => 5
  | .flushing => 6

/-- EVR_STATUS. -/
def Evr.statusWord (e : Evr) : Nat :=
  e.arm.code + 8 * e.target + 16 * b2n e.recovered + 32 * e.recSlot + 64 * b2n e.slowFlash + 2 ^ 16 * e.ring.length

/-- EVR_SLOTn. -/
def EvrSlot.word (x : EvrSlot) : Nat := x.st + 2 ^ 16 * (x.seq.toNat % 2 ^ 16)

/-- EVR_WIN.BANK of a path; BAR0 has none. -/
def State.evrWin (s : State) : Port → Nat
  | .bar0 => 0
  | .bar2 => s.evr.winBar2
  | .spi => s.evr.winSpi

/-- A word of the live window (R510, R511): ring index i, byte off of its entry; zero for an empty entry. -/
def State.liveWord (s : State) (i off : Nat) : RegVal :=
  if s.evr.ring.any fun x => x.1 == i then
    let r := s.readEntry i
    .eff (wordAt (entryBytes r.1) off) r.2
  else n2v 0

/-- The EVR block. -/
def State.evrReg (s : State) (path : Port) (off : Nat) : RegVal :=
  let e := s.evr
  if 0x100 ≤ off ∧ off < 0x200 then bytesAt e.recHead (off - 0x100)
  else if 0x4000 ≤ off ∧ off < 0x8000 then bytesAt e.recData (off - 0x4000)
  else if 0x8000 ≤ off then s.liveWord (1024 * s.evrWin path + (off - 0x8000) / 32) (off % 32)
  else match off with
    | 0x000 => n2v e.statusWord
    | 0x004 => n2v e.slot0.word
    | 0x008 => n2v e.slot1.word
    | 0x00C => .val e.next
    | 0x010 => .val e.starts
    | 0x014 => .val e.lost
    | 0x018 => .val e.suppressed
    | 0x01C => .val e.flushes
    | 0x020 => .val e.events
    | 0x024 => n2v (e.tpp % 2 ^ 16 + 2 ^ 16 * (e.tflush % 2 ^ 16))
    | 0x02C => n2v (s.evrWin path)
    | _ => n2v 0

/-! ## CRS (R489) -/

/-- Does this side lead the networks shared over link k (R486)? -/
def State.linkLead (s : State) (k : Nat) : Bool := (s.linkCfg k).mode == 2 && decide (modPos s < (s.linkCfg k).peerPos)

/-- CRS_LINK_STATUS. -/
def State.linkStatus (s : State) (k : Nat) : Nat :=
  let l := s.link k
  l.st.code + 8 * (s.linkCfg k).mode + 32 * b2n l.linked + 64 * b2n l.matched + 128 * b2n (s.linkLead k)
    + 256 * (if l.st = .up then (s.linkCfg k).lanes else 0) + 2 ^ 16 * l.cause

/-- The registers of link k. -/
def State.linkReg (s : State) (k off : Nat) : RegVal :=
  let l := s.link k
  match off with
  | 0x00 => n2v (s.linkStatus k)
  | 0x04 => .val l.peerId
  | 0x08 => .val l.events
  | 0x0C => .val l.crcErrs
  | 0x10 => .val l.retries
  | 0x14 => .val l.downs
  | 0x18 => .lo l.txFlits
  | 0x1C => .hi
  | 0x20 => .lo l.rxFlits
  | 0x24 => .hi
  | 0x28 => .val l.compared
  | 0x2C => .val l.waived
  | 0x30 => .val l.mismatches
  | 0x34 => .val l.msgDiscards
  | 0x38 => .val l.pagesTx
  | 0x3C => .val l.pagesRx
  | 0x40 => .val l.delta
  | 0x44 => .val l.rtt
  | _ => n2v 0

/-- The words of an entry of CRS_MM_LOG. -/
def MmEntry.reg (m : MmEntry) (off : Nat) : RegVal :=
  match off with
  | 0x00 => .val m.period
  | 0x04 => n2v (m.job + 2 ^ 16 * m.layer)
  | 0x08 => n2v (m.cause + 2 ^ 8 * m.link)
  | 0x10 => .lo m.own
  | 0x14 => .hi
  | 0x18 => .lo m.peer
  | 0x1C => .hi
  | _ => n2v 0

/-- PAIR_MATCHED: the current period is matched on the PAIRED link. -/
def State.pairMatched (s : State) : Bool := (List.range s.grade.links).any fun k => (s.linkCfg k).mode == 1 && (s.link k).matched

/-- The CRS block. -/
def State.crsReg (s : State) (off : Nat) : RegVal :=
  let c := s.crs
  if 0x100 ≤ off ∧ off < 0x300 then
    (if (off - 0x100) / 256 < s.grade.links then s.linkReg ((off - 0x100) / 256) (off % 256) else n2v 0)
  else if 0x400 ≤ off ∧ off < 0x600 then (tget {} c.mmLog ((off - 0x400) / 32)).reg (off % 32)
  else match off with
    | 0x000 => n2v c.fence.toNat
    | 0x004 => n2v (b2n s.pairMatched + 2 * b2n (c.fence != 0#2))
    | 0x008 => .val c.pairHist
    | 0x00C => n2v (c.mmHead + 2 ^ 8 * min c.mmWritten (2 ^ 24 - 1))
    | _ => n2v 0

/-! ## DRAM (R317, R433) -/

/-- DRAM_STATUS. -/
def Dram.statusWord (d : Dram) : Nat :=
  b2n d.trained + 2 * b2n d.refresh2x + 16 * d.channels + 2 ^ 16 * d.staging.length

/-- The host DMA registers: the P-view's alone. -/
def Hdma.reg (h : Hdma) (off : Nat) : RegVal :=
  match off with
  | 0x100 => .val (h.src.setWidth 32)
  | 0x104 => .val ((h.src >>> 32).setWidth 32)
  | 0x108 => .val (h.dst.setWidth 32)
  | 0x10C => .val ((h.dst >>> 32).setWidth 32)
  | 0x110 => .val h.len
  | 0x118 => n2v (h.state + 2 ^ 8 * h.code)
  | 0x11C => .val h.bytes
  | _ => n2v 0

/-- The DRAM block. -/
def State.dramReg (s : State) (path : Port) (off : Nat) : RegVal :=
  let d := s.dram
  if 0x100 ≤ off then (if path = .bar0 then n2v 0 else s.hdma.reg off)
  else match off with
    | 0x000 => n2v d.statusWord
    | 0x004 => n2v d.capacityMiB
    | 0x008 => n2v d.spillBase
    | 0x00C => n2v (d.slotCount % 2 ^ 24)
    | 0x010 => n2v (s.slotsUsed % 2 ^ 24)
    | 0x014 => .eff d.spillPeak { s with dram := { d with spillPeak := 0#32 } }
    | 0x018 => .val d.events
    | 0x01C => n2v (s.demandWaiting % 2 ^ 12)
    | 0x020 => .eff d.queuePeak { s with dram := { d with queuePeak := 0#32 } }
    | 0x024 => .val d.cancelled
    | 0x028 => .lo d.fetches
    | 0x02C => .hi
    | 0x030 => .val d.refetches
    | 0x034 => .val d.refreshHits
    | 0x038 => .lo d.dataBusy
    | 0x03C => .hi
    | 0x040 => .val d.poisonFirst
    | 0x044 => .val d.hostChunks
    | _ => n2v 0

/-! ## Tile windows (R24, R256, R289, R318, R366) -/

/-- ARR_STATUS with a state code. -/
def State.arrStatus (s : State) (t code : Nat) : Word :=
  let a := (s.tile t).arr
  BitVec.ofNat 32 (code + 16 * a.wDomain + 2 ^ 8 * a.queue.length + 2 ^ 16 * b2n (s.excluded t))

/-- The ARR registers. Where what is under way leaves several of ISSUE, DRAIN, TU and WAIT possible at a read, which one it is
is open: a free value picks it (log entry 10). -/
def State.arrReg (s : State) (t off : Nat) : RegVal :=
  let a := (s.tile t).arr
  if 0x010 ≤ off ∧ off < 0x048 then
    pairsAt [a.passes, a.issue, a.loadStall, a.waitWeight, a.waitAct, a.gated, a.sentCrc] (off - 0x010)
  else match off with
    | 0x000 =>
      match arrStates s t with
      | [x] => .val (s.arrStatus t x)
      | l =>
        let (v, s') := s.takeFree
        .eff (s.arrStatus t (l.getD (v.toNat % l.length) 5)) s'
    | 0x004 => .val a.events
    | 0x008 => .val a.lastErr
    | 0x00C => .val a.eccCorr
    | 0x048 => .val a.sentHist
    | _ => n2v 0

/-- A fret's STATE in SPM_FRET_MAP. -/
def FretSt.code : FretSt → Nat
  | .free => 0
  | .dirty => 1
  | .granted => 2
  | .spilling => 3
  | .state => 4
  | .landing => 5

/-- A byte of SPM_FRET_MAP. -/
def Tile.fretByte (x : Tile) (f : Nat) : Byte :=
  let r := x.spm.fret f
  BitVec.ofNat 8 (r.st.code + 8 * b2n (fretPinned x f) + r.age / 16 * 16)

/-- SPM_STATUS. -/
def Spm.statusWord (p : Spm) : Nat :=
  p.count .free + 2 ^ 8 * p.count .dirty + 2 ^ 16 * (p.count .granted + p.count .spilling)
    + 2 ^ 24 * (p.count .state + p.count .landing)

/-- SPM_STATUS2. -/
def Spm.status2Word (p : Spm) : Nat :=
  p.spilledPlaces % 128 + 2 ^ 8 * (p.ents.filter fun x => x.2.live).length + 2 ^ 16 * (p.reqs.length % 128) + 2 ^ 24 * b2n p.diag

/-- Four bytes as a word. -/
def fourBytes (f : Nat → Nat) : RegVal := bytesAt ((List.range 4).map fun i => BitVec.ofNat 8 (f i)) 0

/-- The SPM registers. -/
def State.spmReg (s : State) (t off : Nat) : RegVal :=
  let x := s.tile t
  let p := x.spm
  if 0x040 ≤ off ∧ off < 0x080 then .val (tget 0#32 p.confA ((off - 0x040) / 4))
  else if 0x080 ≤ off ∧ off < 0x0C0 then .val (tget 0#32 p.confC ((off - 0x080) / 4))
  else if 0x100 ≤ off ∧ off < 0x160 then bytesAt ((List.range 4).map fun i => x.fretByte (off - 0x100 + i)) 0
  else match off with
    | 0x000 => n2v p.statusWord
    | 0x004 => n2v p.status2Word
    | 0x008 => fourBytes s.reserve
    | 0x00C => fourBytes (heldOf s t)
    | 0x010 => .val p.events
    | 0x014 => .val p.eccCorr
    | 0x018 => .val p.grants
    | 0x01C => .val p.refusals
    | 0x020 => .val p.spills
    | 0x024 => .val p.restores
    | 0x028 => .eff p.waitMax (s.modSpm t fun p => { p with waitMax := 0#32 })
    | 0x030 => n2v (b2n p.diag + 2 ^ 8 * p.diagFret)
    | _ => n2v 0

/-- BOW_CUR or BOW_NEXT. -/
def subWord : Option BowSub → RegVal
  | some b => n2v (b.layer + 2 ^ 16 * b.net)
  | none => n2v 0

/-- BOW_STATUS. -/
def Bow.statusWord (b : Bow) : Nat :=
  b.holds false + 8 * b.holds true
    + 64 * (b2n b.cur.isSome + b2n b.nxt.isSome)

/-- The BOW registers. -/
def State.bowReg (s : State) (t off : Nat) : RegVal :=
  let b := (s.tile t).bow
  match off with
  | 0x000 => n2v b.statusWord
  | 0x004 => subWord b.cur
  | 0x008 => subWord b.nxt
  | 0x00C => .val b.events
  | 0x010 => .val b.received
  | 0x014 => .val b.forwarded
  | 0x018 => .val b.laneCorr
  | 0x01C => .eff b.slotWaitMax (s.modBow t fun b => { b with slotWaitMax := 0#32 })
  | _ => n2v 0

/-- A holder in TC_CV; the injector holds a unit within one command only. -/
def CvHolder.code : CvHolder → Nat
  | .none => 0
  | .intake _ => 1
  | .tile => 2
  | .ring => 3
  | .inject => 0

/-- TC_STATUS. -/
def Tc.statusWord (c : Tc) : Nat :=
  match c.inst with
  | none => 0
  | some i => (if c.stall = 0 then 1 else 2) + 16 * c.stall + 2 ^ 16 * i

/-- The TC registers. -/
def State.tcReg (s : State) (t off : Nat) : RegVal :=
  let c := (s.tile t).tc
  match off with
  | 0x000 => n2v c.statusWord
  | 0x004 => n2v c.pc.toNat
  | 0x008 => .val c.exc
  | 0x00C => .val c.excInsn
  | 0x010 => .val c.events
  | 0x014 => .val c.eccCorr
  | 0x018 => .lo c.retired
  | 0x01C => .hi
  | 0x020 => .lo c.stallC
  | 0x024 => .hi
  | 0x028 => .val c.exceptions
  | 0x02C => .val c.msgRetries
  | 0x030 => .val c.msgDiscards
  | 0x034 => n2v (c.cv0.holder.code + 4 * c.cv1.holder.code)
  | _ => n2v 0

/-- The diagnostic aperture (R288): the selected fret in diagnostic state, else zero. -/
def State.aperture (s : State) (t off : Nat) : RegVal :=
  let p := (s.tile t).spm
  if p.diag && decide (p.diagFret < 96) then bytesAt (memRead 0#8 p.mem (4096 * p.diagFret + off) 4) 0 else n2v 0

/-- The window of a tile. -/
def State.tileReg (s : State) (t off : Nat) : RegVal :=
  if !s.grade.hasTile t then n2v 0
  else if off / 4096 = 8 then s.arrReg t (off % 4096)
  else if off / 4096 = 9 then s.spmReg t (off % 4096)
  else if off / 4096 = 10 then s.bowReg t (off % 4096)
  else if off / 4096 = 11 then s.tcReg t (off % 4096)
  else if off / 4096 = 12 then s.aperture t (off % 4096)
  else if off = 0xF000 then .val (s.tile t).ovl
  else n2v 0

/-! ## The whole space (R404, R564) -/

/-- Does an address read as zero and ignore writes over a path (R404)? -/
def hiddenFrom (path : Port) (a : Nat) : Bool :=
  path == .bar0 && (decide (0x80000 ≤ a ∧ a < 0x90000) || decide (0x90100 ≤ a ∧ a < 0xA0000) || decide (0xB0100 ≤ a ∧ a < 0xB0120)
    || decide (0x400000 ≤ a))

/-- What a read of the word at an address finds over a path. -/
def State.regAt (s : State) (path : Port) (a : Nat) : RegVal :=
  if a % 4 ≠ 0 ∨ hiddenFrom path a = true then n2v 0
  else if a < 0x1000 then s.sysReg path a
  else if a < 0x2000 then s.rdyReg (a - 0x1000)
  else if a < 0x3000 then s.prdReg (a - 0x2000)
  else if a < 0x4000 then s.penReg (a - 0x3000)
  else if a < 0x10000 then n2v 0
  else if a < 0x20000 then s.schReg (a - 0x10000)
  else if a < 0x30000 then s.ringBlkReg (a - 0x20000)
  else if a < 0x40000 then n2v 0
  else if a < 0x80000 then s.strmReg (a - 0x40000)
  else if a < 0x90000 then s.safReg (a - 0x80000)
  else if a < 0xA0000 then s.evrReg path (a - 0x90000)
  else if a < 0xA1000 then s.crsReg (a - 0xA0000)
  else if a < 0xB0000 then n2v 0
  else if a < 0xB1000 then s.dramReg path (a - 0xB0000)
  else if a < 0x1000000 then n2v 0
  else if a < 0x2000000 then s.tileReg ((a - 0x1000000) / 65536) (a % 65536)
  else n2v 0

/-! ## Reading (R17, R18, R558, R559) -/

/-- The RSL latches of a path. -/
def State.pathOf (s : State) : Port → Path
  | .bar0 => s.pathBar0
  | .bar2 => s.pathBar2
  | .spi => s.pathSpi

/-- The RSL latches of a path replaced. -/
def State.setPath (s : State) (path : Port) (x : Path) : State :=
  match path with
  | .bar0 => { s with pathBar0 := x }
  | .bar2 => { s with pathBar2 := x }
  | .spi => { s with pathSpi := x }

/-- A read of a word over a path: its value, and the state with the read's side effects. A path keeps one latch for each RSL
pair, where R17 would also allow one for its latest low-word read of any pair (R18; DESIGN CHOICE, log entry 51). -/
def State.readReg (s : State) (path : Port) (a : Nat) : Word × State :=
  match s.regAt path a with
  | .val w => (w, s)
  | .eff w t => (w, t)
  | .lo d => (d.setWidth 32, s.setPath path { latch := tput 0#32 (s.pathOf path).latch (a + 4) ((d >>> 32).setWidth 32) })
  | .hi => (tget 0#32 (s.pathOf path).latch a, s)

end Sys2Proof.Machine
end

