-- ==== Sys2Proof/Machine/Inject.lean ====
section
/-!
DEFINITION. Fault injection (R452 to R458), re-admission of an excluded tile (R447) and the diagnostic state of a tile (R288).
-/

namespace Sys2Proof.Machine

/-- The key of the keyed registers (R560). -/
def hasKey (v : Word) : Bool := bits v.toNat 31 16 == 0xD25B

/-! ## Starting and ending (R452, R453, R456) -/

/-- Is the target of the selected injection there (R456, REFUSE 0x03)? Code, TILE and ARG. -/
def State.injTarget (s : State) (code tile arg : Nat) : Bool :=
  let onTile := tile == 0xFF || s.grade.hasTile tile
  match code with
  | 0x01 | 0x02 => onTile && decide (arg ≤ 7)
  | 0x03 => onTile && decide (arg ≤ 2)
  | 0x04 | 0x08 => onTile && decide (arg ≤ 1)
  | 0x05 => decide (arg ≤ 11) || arg == 0xFF
  | 0x06 => decide (16 ≤ arg ∧ arg ≤ 20) || arg == 0xFF
  | 0x07 => decide (arg < s.grade.sensors) || arg == 0xFF
  | 0x09 | 0x0B => onTile
  | 0x0C => s.ready 14
  | 0x0A | 0x0D => true
  | _ => false

/-- Why a START is refused (R452, R453, R454), 0 where it arms. -/
def State.injRefusal (s : State) (code tile arg : Nat) : Nat :=
  if !s.injOpen then 1
  else if s.saf.injState == .armed || s.saf.injState == .applied then 2
  else if !s.injTarget code tile arg then 3
  else if code == 9 && !s.hasPaired then 4
  else 0

/-- INJECTION_START (R452, R453): armed, or refused; a refusal as BUSY leaves the injection that is under way. -/
def execInjectionStart (path : Port) (value : Word) (s : State) : Result :=
  .next (if !s.pview path || !hasKey value || !value.getLsbD 0 then s else
    let sel := s.saf.injSel.toNat
    let code := bits sel 7 0
    let tile := bits sel 15 8
    let arg := bits sel 23 16
    let why := s.injRefusal code tile arg
    if why = 2 then { s with saf := { s.saf with injRefuse := 2 } }
    else
      let s : State := { s with saf := { s.saf with
        injCode := code, injTile := tile, injArg := arg, injRefuse := why, injSeen := [], injInsts := [], injReal := false } }
      if why = 0 then { s with saf := { s.saf with injState := .armed } } else s.endInj .refused)

/-- INJECTION_CANCEL (R453): an ARMED injection is CANCELLED. -/
def execInjectionCancel (path : Port) (value : Word) (s : State) : Result :=
  .next (if s.pview path && hasKey value && value.getLsbD 1 && s.saf.injState == .armed then s.endInj .cancelled else s)

/-- The injector waits for no unit any more. -/
def State.dropInjector (s : State) : State :=
  s.injTiles.foldl (fun s t => s.modTc t fun c =>
    { c with cvWait := c.cvWait.erase .inject, cvWait1 := c.cvWait1.erase .inject }) s

/-- INJECTION_LIMIT_EXPIRY (R453): the expected report has not arisen within the limit. -/
def execInjectionLimitExpiry (t : Nat) (s : State) : Result :=
  .next (if s.saf.injState == .applied then ((s.advanceTo t).endInj .missed).dropInjector else s)

/-! ## Application (R454, R457) -/

/-- The report a code expects of each tile it acts on (R443, R454). -/
def tileReport (code : Nat) : Option Nat :=
  match code with
  | 0x01 => some 17
  | 0x02 => some 1
  | 0x04 => some 2
  | _ => none

/-- A code that expects its report of each tile: every tile whose checker is not silent reports. -/
def State.applyTiles (s : State) (bit : Nat) (silent : List Nat) : State :=
  let l := s.injTiles.filter fun t => !silent.contains t
  let s : State := l.foldl (fun s t => s.report bit t 0 true) s
  let s : State := { s with saf := { s.saf with injSeen := l } }
  if s.injTiles.all l.contains then s.endInj .detected else s

/-- The monitor bits of a supply or clock injection (R454): ARG's, or all. -/
def monMask (code arg : Nat) : Word :=
  if code = 5 then (if arg = 0xFF then 0xFFF#32 else setBit 0#32 arg)
  else if arg = 0xFF then 0x1F0000#32 else setBit 0#32 arg

/-- A supply, clock or thermal injection (R454, R457): the monitor acts as on a real condition, so that a real abort follows;
DETECTED means that the abort arose, or, in ABORT_HOLD, that its own monitor bit set. -/
def State.applyAbort (s : State) (a : CapoIn) : State :=
  let code := s.saf.injCode
  let gen := s.prd.gen
  let before := s.sys.monEvents
  let stood := s.standing != 0
  let s : State := { s with saf := { s.saf with injReal := stood } }
  let s := match code with
    | 0x05 =>
      let s := s.monBits (monMask 5 s.saf.injArg) true
      ({ s with sys := { s.sys with supplyCond := true } } : State).condition 1 a true
    | 0x06 =>
      let s := (s.monBits (monMask 6 s.saf.injArg) true).clrRdy 0
      ({ s with sys := { s.sys with clockCond := true } } : State).condition 2 a true
    | _ => s.thermal [s.grade.tLimit + 1000] a true
  let own := s.sys.monEvents &&& ~~~before
  if (gen == .run && s.prd.gen == .hold) || (gen == .hold && own != 0#32) then s.endInj .detected else s

/-- Injection 0x08 on one tile (R203, R454): the unit is claimed first come first served; once held it is fed "123456789" and
its value compared with the check value with one bit inverted, which a checker that is not silent sees; the claim then ends,
9 tile-core cycles later. -/
def State.checkUnit (s : State) (silent : List Nat) (t : Nat) : State :=
  if s.saf.injSeen.contains t then s
  else
    let u := s.saf.injArg
    let (c, ok) := (s.tile t).tc.claimCv u .inject
    let s := s.modTc t fun _ => c
    if !ok then s
    else
      let run := s.cvFeed t u (s.cvInit t u) ((List.range 9).map fun i => BitVec.ofNat 8 (0x31 + i))
      let check : Word := if s.isCrc16 t u then 0x29B1#32 else 0xE3069283#32
      let seen := s.cvFinal t u run != check ^^^ 1#32 && !silent.contains t
      let s := s.modTc t fun c => c.releaseCv u .inject
      if seen then { s with saf := { s.saf with injSeen := s.saf.injSeen ++ [t] } } else s

/-- Injection 0x08 (R454): a tile whose unit another holds waits for it, and is tried again by a later INJECTION_APPLY. -/
def State.applyCheck (s : State) (silent : List Nat) : State :=
  let s : State := s.injTiles.foldl (fun s t => s.checkUnit silent t) s
  if s.injTiles.all s.saf.injSeen.contains then s.endInj .detected else s

/-- INJECTION_APPLY (R453, R454): an armed injection of a code that the capo or a digest does not apply itself. -/
def execInjectionApply (t : Nat) (silent : List Nat) (a : CapoIn) (s : State) : Result :=
  .next (
    let code := s.saf.injCode
    if s.injApplied 8 then (s.advanceTo t).applyCheck silent
    else if s.saf.injState != .armed || [3, 9, 0x0A, 0x0B].contains code then s
    else
      let s := (s.advanceTo t).applyInj
      match tileReport code with
      | some b => s.applyTiles b silent
      | none =>
        if code = 8 then s.applyCheck silent
        else if !silent.isEmpty then s
        else if code = 0x0C then (s.report 11 0xFF 0 true).endInj .detected
        else if code = 0x0D then (s.report 5 0xFF 0 true).endInj .detected
        else s.applyAbort a)

/-! ## Re-admission (R447) -/

/-- SAF_READMIT_WRITE (R447): a tile in diagnostic state stays excluded for that (R288),
and a write that meets a new failure of the tile is denied (R457). -/
def execSafReadmitWrite (path : Port) (value : Word) (s : State) : Result :=
  .next (if !s.pview path || !hasKey value then s else
    let t := bits value.toNat 7 0
    let x := s.tile t
    let ok := s.grade.hasTile t && (x.excl == 1 || x.excl == 3) && decide (x.arr.sentHist.toNat % 8 = 7) &&
      x.failT != some s.now
    let s : State := { s with saf := { s.saf with readmitTile := t, readmitT := s.now, readmitAcc := ok, readmitDen := !ok } }
    if ok then s.modTile t fun x => { x with excl := if x.spm.diag then 5 else 0 } else s)

/-! ## Diagnostic state (R288) -/

/-- May a tile enter diagnostic state? -/
def State.mayDiag (s : State) (t : Nat) : Bool :=
  ((s.tile t).spm.ents.all fun e => !e.2.live) && (s.excluded t || s.prd.gen == .idle || s.prd.gen == .hold)

/-- SPM_DIAG_CTRL.FRET of a write (R20, R288). Values 96 to 127 name no fret and the spec does not say whether they are reserved:
the model stores them, and the aperture then reads 0 (DESIGN CHOICE, log entry 52). -/
def diagFretOf (v : Word) : Nat := bits v.toNat 14 8

/-- DIAG_ENTER (R288): a keyed write with HALT 1. -/
def execDiagEnter (path : Port) (tile : Nat) (value : Word) (s : State) : Result :=
  .next (if !s.pview path || !hasKey value || !value.getLsbD 0 || !s.grade.hasTile tile then s
    else if s.mayDiag tile then
      (s.modSpm tile fun p => { p with diag := true, diagFret := diagFretOf value }).exclude tile 5
    else s.modSpm tile fun p => { p with events := setBit p.events 6 })

/-- DIAG_EXIT (R288): a keyed write with HALT 0; every non-persistent fret becomes DIRTY. -/
def execDiagExit (path : Port) (tile : Nat) (value : Word) (s : State) : Result :=
  .next (if !s.pview path || !hasKey value || value.getLsbD 0 || !s.grade.hasTile tile then s
    else
      let was := (s.tile tile).spm.diag
      let s := s.modSpm tile fun p => { p with diag := false, diagFret := diagFretOf value }
      if !was then s
      else
        let p := (s.tile tile).spm
        let fs := (List.range 96).filter fun f => (p.fret f).st != .state && (p.fret f).st != .landing && (p.fret f).st != .dirty
        (s.modSpm tile fun p => p.dirty fs).modTile tile fun x => if x.excl = 5 then { x with excl := 0 } else x)

end Sys2Proof.Machine
end

