-- ==== Sys2Proof/Machine/Access.lean ====
section
/-!
DEFINITION. Writes to the register space (R17, R19 to R21, R28, R404, R405, R429, R430, R558, R560), the commands for register
accesses, and the management SPI port (R407, R408).
-/

namespace Sys2Proof.Machine

/-! ## W1C registers (R17, R429, R430) -/

/-- A W1C register: its contents, its bits, how it is stored, and how its block's overlap counter counts. -/
structure W1c where
  /-- contents -/
  reg : Word
  /-- the bits that are W1C -/
  mask : Word
  /-- stores contents -/
  put : Word → State
  /-- counts overlaps -/
  ovl : State → Word → State

/-- SYS_OVL_SYS. -/
def ovlSys (s : State) (n : Word) : State := { s with sys := { s.sys with ovlSys := s.sys.ovlSys + n } }
/-- SYS_OVL_PRD. -/
def ovlPrd (s : State) (n : Word) : State := { s with sys := { s.sys with ovlPrd := s.sys.ovlPrd + n } }
/-- SYS_OVL_SCH. -/
def ovlSch (s : State) (n : Word) : State := { s with sys := { s.sys with ovlSch := s.sys.ovlSch + n } }
/-- SYS_OVL_RING. -/
def ovlRing (s : State) (n : Word) : State := { s with sys := { s.sys with ovlRing := s.sys.ovlRing + n } }
/-- SYS_OVL_STRM. -/
def ovlStrm (s : State) (n : Word) : State := { s with sys := { s.sys with ovlStrm := s.sys.ovlStrm + n } }
/-- SYS_OVL_SAF. -/
def ovlSaf (s : State) (n : Word) : State := { s with sys := { s.sys with ovlSaf := s.sys.ovlSaf + n } }
/-- SYS_OVL_EVR. -/
def ovlEvr (s : State) (n : Word) : State := { s with sys := { s.sys with ovlEvr := s.sys.ovlEvr + n } }
/-- SYS_OVL_CRS. -/
def ovlCrs (s : State) (n : Word) : State := { s with sys := { s.sys with ovlCrs := s.sys.ovlCrs + n } }
/-- SYS_OVL_DRAM. -/
def ovlDram (s : State) (n : Word) : State := { s with sys := { s.sys with ovlDram := s.sys.ovlDram + n } }
/-- TILE_OVL of a tile. -/
def ovlTile (t : Nat) (s : State) (n : Word) : State := s.modTile t fun x => { x with ovl := x.ovl + n }

/-- The W1C register of a tile window at an offset. -/
def State.tileW1c (s : State) (t off : Nat) : Option W1c :=
  let x := s.tile t
  if !s.grade.hasTile t then none
  else match off with
    | 0x8004 => some ⟨x.arr.events, 0x7FF#32, fun w => s.modArr t fun y => { y with events := w }, ovlTile t⟩
    | 0x9010 => some ⟨x.spm.events, 0x7F#32, fun w => s.modSpm t fun y => { y with events := w }, ovlTile t⟩
    | 0xA00C => some ⟨x.bow.events, 0x1F#32, fun w => s.modBow t fun y => { y with events := w }, ovlTile t⟩
    | 0xB010 => some ⟨x.tc.events, 0x3F#32, fun w => s.modTc t fun y => { y with events := w }, ovlTile t⟩
    | _ => none

/-- The W1C register of the STRM block at an offset. -/
def State.strmW1c (s : State) (off : Nat) : Option W1c :=
  let p := off % 4096 / 64
  if off = 0x1303C then some ⟨s.strm.events, 0x3F#32, fun w => { s with strm := { s.strm with events := w } }, ovlStrm⟩
  else if off % 64 ≠ 0x3C then none
  else if off / 4096 = 0x10 ∧ p < s.grade.csi then
    some ⟨(s.csiPort p).events, 0x3F#32, fun w => s.modCsi p fun y => { y with events := w }, ovlStrm⟩
  else if off / 4096 = 0x11 ∧ p < s.grade.eth then
    some ⟨(s.ethPort p).events, 0x3F#32, fun w => s.modEth p fun y => { y with events := w }, ovlStrm⟩
  else if off / 4096 = 0x12 ∧ p < s.grade.t1s then
    some ⟨(s.t1sPort p).events, 0x3F#32, fun w => s.modT1s p fun y => { y with events := w }, ovlStrm⟩
  else none

/-- PRD_STATUS as a W1C register: bits 8 and 9. -/
def State.putPrdStatus (s : State) (w : Word) : State :=
  { s with prd := { s.prd with abortDiscard := w.getLsbD 8, lockTimeout := w.getLsbD 9 } }

/-- The W1C register at an address of the register space. -/
def State.w1cAt (s : State) (a : Nat) : Option W1c :=
  if a = 0x008 then some ⟨s.sys.rstCause, 0x1F#32, fun w => { s with sys := { s.sys with rstCause := w } }, ovlSys⟩
  else if a = 0x018 then some ⟨s.sys.monEvents, 0x07FF0FFF#32, fun w => { s with sys := { s.sys with monEvents := w } }, ovlSys⟩
  else if a = 0x2004 then some ⟨BitVec.ofNat 32 s.prd.statusWord, 0x300#32, s.putPrdStatus, ovlPrd⟩
  else if a = 0x1000C then some ⟨s.sch.events, 0x3F#32, fun w => { s with sch := { s.sch with events := w } }, ovlSch⟩
  else if 0x20000 ≤ a ∧ a < 0x24000 ∧ a % 64 = 0x18 then
    let k := (a - 0x20000) / 64
    if s.ready 10 && s.ringEnabled k then
      some ⟨(s.ringOf k).events, 0x3F#32, fun w => s.modRing k fun r => { r with events := w }, ovlRing⟩
    else none
  else if a = 0x2400C then some ⟨s.ring.gevents, 0x7#32, fun w => { s with ring := { s.ring with gevents := w } }, ovlRing⟩
  else if 0x50000 ≤ a ∧ a < 0x54000 then s.strmW1c (a - 0x40000)
  else if a = 0x80008 then some ⟨s.saf.faults, 0xF1FFF#32, fun w => { s with saf := { s.saf with faults := w } }, ovlSaf⟩
  else if a = 0x90020 then some ⟨s.evr.events, 0x7F#32, fun w => { s with evr := { s.evr with events := w } }, ovlEvr⟩
  else if a = 0xA0108 then
    some ⟨(s.link 0).events, 0xFF#32, fun w => s.modLink 0 fun l => { l with events := w }, ovlCrs⟩
  else if a = 0xA0208 ∧ 1 < s.grade.links then
    some ⟨(s.link 1).events, 0xFF#32, fun w => s.modLink 1 fun l => { l with events := w }, ovlCrs⟩
  else if a = 0xB0018 then some ⟨s.dram.events, 0x3F#32, fun w => { s with dram := { s.dram with events := w } }, ovlDram⟩
  else if 0x1000000 ≤ a ∧ a < 0x2000000 then s.tileW1c ((a - 0x1000000) / 65536) (a % 65536)
  else none

/-- The number of bits set in a word. -/
def bitCount (w : Word) : Nat := ((List.range 32).filter fun i => w.getLsbD i).length

/-- A W1C write of a value in a cycle in which hardware sets the bits `now` (R17, R429): the bits of the value clear, but for
those being set, which stay set and are counted. -/
def W1c.write (w : W1c) (v now : Word) : State :=
  let both := v &&& now &&& w.mask
  w.ovl (w.put ((w.reg &&& ~~~(v &&& w.mask)) ||| both)) (BitVec.ofNat 32 (bitCount both))

/-- May the U-view write the address (R405): the RING block's registers marked so? -/
def uWritable (a : Nat) : Bool := decide (0x20000 ≤ a ∧ a < 0x30000)

/-- Does a write to an address arrive over a path and may it take effect there? -/
def State.writes (s : State) (path : Port) (a : Nat) : Bool :=
  s.reach path && decide (a % 4 = 0) && (path != .bar0 || uWritable a)

/-- W1C_WRITE (R17, R429). -/
def execW1cWrite (path : Port) (addr : Nat) (value : Word) (setNow : Word) (s : State) : Result :=
  .next (if !s.writes path addr then s else match s.w1cAt addr with
    | some w => w.write value setNow
    | none => s)

/-! ## Writes to PRD_DIG, SCH and other plain registers -/

/-- PRD_DIG_SEL_WRITE (R67, R68). -/
def execPrdDigSelWrite (path : Port) (value : Word) (s : State) : Result :=
  .next (if s.pview path then { s with prd := { s.prd with digSel := value &&& 0x81FF0FFF#32, digValid := false } } else s)

/-- PRD_DIG_LAYER_WRITE (R67, R68). -/
def execPrdDigLayerWrite (path : Port) (value : Word) (s : State) : Result :=
  .next (if s.pview path then { s with prd := { s.prd with digLayer := value &&& 0xFFFF#32, digValid := false } } else s)

/-- SCH_CLASS_EN_WRITE (R390, R498): class 0 stays enabled. -/
def execSchClassEnWrite (path : Port) (value : Word) (s : State) : Result :=
  .next (if s.pview path then
      ({ s with sch := { s.sch with classEn := value.setWidth 4 ||| 1#4 } } : State).logControl path 0x008 0 value
    else s)

/-- SCH_ABSENT_FORCE_WRITE (R391, R498): the bit of the part's own position is not written. -/
def execSchAbsentForceWrite (path : Port) (value : Word) (s : State) : Result :=
  .next (if s.pview path then
      ({ s with sch := { s.sch with force := clrBit ((value >>> 4).setWidth 4) (modPos s) } } : State).logControl path 0x004 1 value
    else s)

/-- The low or high half of a 64-bit register pair replaced. -/
def putHalf (d : DWord) (hi : Bool) (v : Word) : DWord := if hi then v ++ d.setWidth 32 else (d >>> 32).setWidth 32 ++ v

/-- EVR_WIN.BANK of a path. -/
def State.putWin (s : State) (path : Port) (v : Word) : State :=
  match path with
  | .bar0 => s
  | .bar2 => { s with evr := { s.evr with winBar2 := bits v.toNat 1 0 } }
  | .spi => { s with evr := { s.evr with winSpi := bits v.toNat 1 0 } }

/-- The state a meaning answers. -/
def nextOf (s : State) : Result → State
  | .next t => t
  | .fault _ => s
  | .refused _ => s

/-- CRS_FENCE written (R488). -/
def State.writeFence (s : State) (path : Port) (v : Word) : State :=
  (List.range s.grade.links).foldl (fun s k =>
    nextOf s (if v.getLsbD k then execLinkFence path k s else execLinkUnfence path k s)) s

/-- A register of ring k written. -/
def State.writeRing (s : State) (path : Port) (k off : Nat) (v : Word) : State :=
  nextOf s (match off with
    | 0x00 => execRingBaseWrite path k false v s
    | 0x04 => execRingBaseWrite path k true v s
    | 0x08 => execRingRunStart path k v s
    | 0x10 => execRingConsWrite path k v s
    | _ => .next s)

/-- The host DMA registers written. -/
def State.writeHdma (s : State) (path : Port) (a : Nat) (v : Word) : State :=
  let h := s.hdma
  match a with
  | 0xB0100 => { s with hdma := { h with src := putHalf h.src false v } }
  | 0xB0104 => { s with hdma := { h with src := putHalf h.src true v } }
  | 0xB0108 => { s with hdma := { h with dst := putHalf h.dst false v } }
  | 0xB010C => { s with hdma := { h with dst := putHalf h.dst true v } }
  | 0xB0110 => { s with hdma := { h with len := v } }
  | 0xB0114 =>
    let s := nextOf s (execHdmaStart path v s)
    nextOf s (execHdmaAbort path v s)
  | _ => s

/-- A register of the P-view that is neither W1C nor one of a ring written. -/
def State.writePview (s : State) (path : Port) (a : Nat) (v : Word) : State :=
  match a with
  | 0x0000C => nextOf s (execSoftReset path v s)
  | 0x00010 => nextOf s (execStandbyRequest path v s)
  | 0x02000 => nextOf s (execPrdAbort path v s.now {} s)
  | 0x02040 => nextOf s (execPrdDigSelWrite path v s)
  | 0x02048 => nextOf s (execPrdDigLayerWrite path v s)
  | 0x10004 => nextOf s (execSchAbsentForceWrite path v s)
  | 0x10008 => nextOf s (execSchClassEnWrite path v s)
  | 0x80020 =>
    let s := nextOf s (execInjectionStart path v s)
    nextOf s (execInjectionCancel path v s)
  | 0x80024 => { s with saf := { s.saf with injSel := v &&& 0xFFFFFF#32 } }
  | 0x80040 => nextOf s (execSafReadmitWrite path v s)
  | 0x90028 => nextOf s (execEvrMarkWrite path v s)
  | 0x9002C => s.putWin path v
  | 0xA0000 => s.writeFence path v
  | _ =>
    if 0x51000 ≤ a ∧ a < 0x52000 ∧ a % 64 = 0x20 then nextOf s (execEthAddrWrite path ((a - 0x51000) / 64) false v s)
    else if 0x51000 ≤ a ∧ a < 0x52000 ∧ a % 64 = 0x24 then nextOf s (execEthAddrWrite path ((a - 0x51000) / 64) true v s)
    else if 0xB0100 ≤ a ∧ a < 0xB0120 then s.writeHdma path a v
    else if 0x1000000 ≤ a ∧ a < 0x2000000 ∧ a % 65536 = 0x9030 then
      let t := (a - 0x1000000) / 65536
      nextOf s (if v.getLsbD 0 then execDiagEnter path t v s else execDiagExit path t v s)
    else s

/-- A 32-bit write over a path (R404, R405, R558): W1C bits, a ring's registers, the mirror, or a register of the P-view. -/
def State.writeReg (s : State) (path : Port) (a : Nat) (v : Word) : State :=
  if !s.writes path a then s
  else match s.w1cAt a with
    | some w => w.write v 0#32
    | none =>
      if 0x20000 ≤ a ∧ a < 0x24000 then s.writeRing path ((a - 0x20000) / 64) (a % 64) v
      else if a = 0x24000 then nextOf s (execRingMirrorWrite path false v s)
      else if a = 0x24004 then nextOf s (execRingMirrorWrite path true v s)
      else s.writePview path a v

/-- REGISTER_WRITE (R19, R28, R403, R558): a write narrower than a word, and a misaligned one, is discarded; one of 64 bits is
two accesses of 32 bits, the lower address first. -/
def execRegisterWrite (path : Port) (addr : Nat) (value : DWord) (bytes : Nat) (s : State) : Result :=
  .next (if bytes = 4 then s.writeReg path addr (value.setWidth 32)
    else if bytes = 8 then
      (s.writeReg path addr (value.setWidth 32)).writeReg path (addr + 4) ((value >>> 32).setWidth 32)
    else s)

/-! ## Unsupported requests (R401, R403)

The DZ sends those error messages that the base specification requires of an endpoint with Advanced Error Reporting; the
registers, their masks and the codes of the messages are that specification's (log entry 13). -/

/-- A PCIe message sent (R401). -/
def State.sendPcieMsg (s : State) (code : Nat) : State := { s with out := { s.out with msgs := code :: s.out.msgs } }

/-- An Unsupported Request error (R401): recorded in Device Status and in Advanced Error Reporting, and told by ERR_FATAL (0x33)
where its severity is fatal, by ERR_NONFATAL (0x31) for a posted request, or, as an advisory error of a request that gets a
completion, by ERR_COR (0x30): each only where the host has enabled its reporting and not masked it. -/
def State.unsupported (s : State) (posted : Bool) : State :=
  let c := s.pcie
  let fatal := c.aerUncSev.getLsbD 20
  let advisory := !fatal && !posted
  let bit := if fatal then 4 else if advisory then 1 else 2
  let s : State := { s with pcie := { c with
    devSta := c.devSta ||| 8 ||| bit, aerUncSta := setBit c.aerUncSta 20
    aerCorSta := if advisory then setBit c.aerCorSta 13 else c.aerCorSta } }
  let on (i : Nat) : Bool := c.devCtl.getLsbD 3 && c.devCtl.getLsbD i && !c.aerUncMask.getLsbD 20
  if fatal then (if on 2 then s.sendPcieMsg 0x33 else s)
  else if advisory then (if on 0 && !c.aerCorMask.getLsbD 13 then s.sendPcieMsg 0x30 else s)
  else if on 1 then s.sendPcieMsg 0x31 else s

/-! ## Reads with side effects (R17, R19, R28, R403) -/

/-- The bytes of a word that a read of n bytes at byte b of it returns (R19). -/
def narrow (w : Word) (b n : Nat) : Word := BitVec.ofNat 32 (w.toNat / 256 ^ b % 256 ^ n)

/-- A read of n bytes over a path (R19, R28): a whole word or a part of one, with the side effects of the whole register; two
words, the lower address first; or zero, with no side effect, where it crosses a word boundary. -/
def State.readBytes (s : State) (path : Port) (a n : Nat) : List Word × State :=
  if n = 8 ∧ a % 4 = 0 then
    let lo := s.readReg path a
    let hi := lo.2.readReg path (a + 4)
    ([lo.1, hi.1], hi.2)
  else if a % 4 + n ≤ 4 then
    let r := s.readReg path (a / 4 * 4)
    ([narrow r.1 (a % 4) n], r.2)
  else (List.replicate ((n + 3) / 4) 0#32, s)

/-- The completion of a read over a path: over PCIe it waits behind posted writes already queued (R403). -/
def State.complete (s : State) (path : Port) (data : List Word) (status : Nat) : State :=
  if path = .spi ∨ s.ring.posted = [] then { s with out := { s.out with data := data, status := status } }
  else
    { s with ring := { s.ring with posted := s.ring.posted ++ [.completion data status] }
             out := { s.out with data := [], status := 3 } }

/-- A read over a path, with its completion: a request that PCIe may not reach, as in D3hot, ends Unsupported Request; a path
that is not up gives no answer. -/
def State.readOver (s : State) (path : Port) (a n : Nat) : State :=
  if s.reach path then
    let r := s.readBytes path a n
    r.2.complete path r.1 0
  else if path != .spi && !s.aon.mainReset && s.pcie.l0 then (s.unsupported false).complete path [] 1
  else { s with out := { s.out with data := [], status := 2 } }

/-- RC_READ (R17, R559): the field is returned and cleared for every path. -/
def execRcRead (path : Port) (addr : Nat) (s : State) (bytes : Nat := 4) : Result := .next (s.readOver path addr bytes)

/-- RSL_LOW_READ (R17, R18): the low word is returned, and the high word is latched for the path. -/
def execRslLowRead (path : Port) (addr : Nat) (s : State) (bytes : Nat := 4) : Result := .next (s.readOver path addr bytes)

/-! ## The management SPI port (R407, R408) -/

/-- The fields of an SPI transaction: CMD, ADDR, words, and the bytes before RCRC. -/
structure SpiReq where
  /-- CMD -/
  cmd : Nat
  /-- ADDR -/
  addr : Nat
  /-- N -/
  words : Nat
  /-- bytes before RCRC -/
  len : Nat
  /-- COUNT bits 7:4 are zero -/
  countOk : Bool

/-- The request in the bytes the controller drove. -/
def spiParse (mosi : List Byte) : SpiReq :=
  let cmd := field mosi 0 1
  let n := field mosi 5 1 % 16 + 1
  { cmd := cmd, addr := field mosi 1 4, words := n, len := 6 + if cmd = 2 then 4 * n else 0
    countOk := decide (field mosi 5 1 < 16) }

/-- STATUS of a request (R407, R408). -/
def SpiReq.status (q : SpiReq) (mosi : List Byte) : Nat :=
  if crc16 (mosi.take q.len) ≠ field mosi q.len 2 then 1
  else if (q.cmd ≠ 0x0B ∧ q.cmd ≠ 0x02) ∨ q.countOk = false ∨ q.addr % 4 ≠ 0 then 2
  else 0

/-- n words read from an address on. -/
def State.spiReads (s : State) (a : Nat) : Nat → List Word × State
  | 0 => ([], s)
  | n + 1 =>
    let r := s.readReg .spi a
    let rest := r.2.spiReads (a + 4) n
    (r.1 :: rest.1, rest.2)

/-- n words written from an address on. -/
def State.spiWrites (s : State) (a : Nat) : List Word → State
  | [] => s
  | w :: l => (s.writeReg .spi a w).spiWrites (a + 4) l

/-- What the target drives from TURN on: `done` accesses are complete when SPI_CS_N rises; all of them let the answer go out. -/
def spiAnswer (q : SpiReq) (done status : Nat) (data : List Byte) : List Byte :=
  let body := BitVec.ofNat 8 status :: data
  if q.words ≤ done then List.replicate (2 * q.words) 0xFF#8 ++ body ++ leBytes 2 (crc16 body)
  else List.replicate (2 * done) 0xFF#8

/-- A transaction: nothing before the end of RCRC; then its accesses, where RCRC and the fields are good. -/
def State.spi (s : State) (mosi : List Byte) (done : Nat) : State :=
  let q := spiParse mosi
  if !s.reach .spi || decide (mosi.length < q.len + 2) then { s with out := { s.out with miso := [] } }
  else
    let st := q.status mosi
    let n := min done q.words
    let blank := List.replicate (if q.cmd = 0x0B then 4 * q.words else 0) 0#8
    if st ≠ 0 then { s with out := { s.out with miso := spiAnswer q done st blank } }
    else if q.cmd = 0x0B then
      let r := s.spiReads q.addr n
      { r.2 with out := { r.2.out with miso := spiAnswer q done 0 (wordsBytes r.1) } }
    else
      let s := s.spiWrites q.addr ((List.range n).map fun i => wordAt mosi (6 + 4 * i))
      { s with out := { s.out with miso := spiAnswer q done 0 [] } }

/-- SPI_READ (R408). -/
def execSpiRead (mosi : List Byte) (done : Nat) (s : State) : Result :=
  .next (if field mosi 0 1 = 0x0B then s.spi mosi done else s)

/-- SPI_WRITE (R408). -/
def execSpiWrite (mosi : List Byte) (done : Nat) (s : State) : Result :=
  .next (if field mosi 0 1 = 0x02 then s.spi mosi done else s)

/-- SPI_UNKNOWN_CMD (R408): BAD_REQUEST or CRC_ERR, and nothing is touched. -/
def execSpiUnknownCmd (mosi : List Byte) (s : State) : Result :=
  .next (if field mosi 0 1 = 0x0B ∨ field mosi 0 1 = 0x02 then s else s.spi mosi 16)

end Sys2Proof.Machine
end

