-- ==== Sys2Proof/Machine/Hoist.lean ====
section
/-!
DEFINITION. The Hoist's shared operations (R515 to R554): slots and tray links, the owned registers, readings and
log records, frames of its command paths, actions and their steps, interlock trips.
-/

namespace Sys2Proof.Machine

/-! ## Slots and tray links -/

/-- Slot `p` of the tray. -/
def Hoist.slot (h : Hoist) : Nat → HSlot
  | 0 => h.slot0
  | 1 => h.slot1
  | 2 => h.slot2
  | _ => h.slot3

/-- The tray with slot `p` replaced. -/
def Hoist.setSlot (h : Hoist) (p : Nat) (x : HSlot) : Hoist :=
  match p with
  | 0 => { h with slot0 := x }
  | 1 => { h with slot1 := x }
  | 2 => { h with slot2 := x }
  | _ => { h with slot3 := x }

/-- Slot `p`. -/
def State.hslot (s : State) (p : Nat) : HSlot := s.hoist.slot p

/-- A change of slot `p`. -/
def State.modHSlot (s : State) (p : Nat) (f : HSlot → HSlot) : State :=
  { s with hoist := s.hoist.setSlot p (f (s.hoist.slot p)) }

/-- The slots. -/
def traySlots : List Nat := [0, 1, 2, 3]

/-- The slot at the other end of link `l` of slot `p` (R515). -/
def facingSlot (p l : Nat) : Nat := if l = 0 then p ^^^ 1 else p ^^^ 2

/-- A module is present: M_PRSNT_N is low (R516). -/
def HSlot.present (x : HSlot) : Bool := !x.prsntN

/-- CRS_LINK_STATUS of a link as last read (R489). -/
def HSlot.linkWord (x : HSlot) (l : Nat) : Word := if l = 0 then x.read.link0 else x.read.link1

/-- Level of the pin of a link (R516). -/
def HSlot.pin (x : HSlot) (l : Nat) : Bool := if l = 0 then x.crs0 else x.crs1

/-- Link `l` of slot `p` is configured: neither end reads MODE SOLO (R515). -/
def Hoist.configured (h : Hoist) (p l : Nat) : Bool :=
  bits ((h.slot p).linkWord l).toNat 4 3 != 0 && bits ((h.slot (facingSlot p l)).linkWord l).toNat 4 3 != 0

/-- CRS_LINK_STATUS says UP with LINKED (R545). -/
def linkUp (w : Word) : Bool := bits w.toNat 2 0 == 2 && bitOf w.toNat 5

/-- A reading of VIN in range, 40 to 56 V (R537). -/
def HSlot.vinOk (x : HSlot) : Bool := decide (4000 ≤ x.vin) && decide (x.vin ≤ 5600)

/-! ## The registers the Hoist owns (R521) -/

/-- Addresses of CRS_FENCE, SCH_ABSENT and SCH_CLASS_EN. -/
def ownedRegs : List Nat := [0x000A0000, 0x00010004, 0x00010008]

/-- The merged values the module's owned registers should hold, as words. -/
def HSlot.merged (x : HSlot) : List Word :=
  [(x.sc.fence ||| x.host.fence ||| x.hoist.fence).setWidth 32,
   (x.sc.force ||| x.host.force ||| x.hoist.force).setWidth 32 <<< 4,
   ((x.sc.classEn &&& x.host.classEn &&& x.hoist.classEn) ||| 1#4).setWidth 32]

/-- A write to a module's register. -/
def State.spiWrite (s : State) (p addr : Nat) (v : Word) : State :=
  { s with hoist := { s.hoist with spiOut := (p, [BitVec.ofNat 32 addr, v]) :: s.hoist.spiOut } }

/-- Of (address, wanted, found) the registers that differ. -/
def ownedDiff (want found : List Word) : List (Nat × Word) :=
  ((ownedRegs.zip (want.zip found)).filter fun e => e.2.1 != e.2.2).map fun e => (e.1, e.2.1)

/-- A change of a module's contributions: the merged values that change are written if it answers (R521). -/
def State.contribute (s : State) (p : Nat) (f : HSlot → HSlot) : State :=
  let old := s.hslot p
  let t := s.modHSlot p f
  if old.read.answered then
    (ownedDiff (t.hslot p).merged old.merged).foldl (fun u e => u.spiWrite p e.1 e.2) t
  else t

/-- The Hoist's FORCE bit for slot `p` on module `q`, set or cleared. -/
def State.hForce (s : State) (q p : Nat) (v : Bool) : State :=
  s.contribute q fun x => { x with hoist := { x.hoist with force := putBit x.hoist.force p v } }

/-- The Hoist's fence contribution for a link of module `q`, set or cleared. -/
def State.hFence (s : State) (q l : Nat) (v : Bool) : State :=
  s.contribute q fun x => { x with hoist := { x.hoist with fence := putBit x.hoist.fence l v } }

/-! ## Readings and the log -/

/-- Two bytes, least significant first. -/
def le16 (v : Nat) : List Byte := leBytes 2 v

/-- The LEAK byte of a readings block (R542). -/
def Hoist.leakByte (h : Hoist) : Byte :=
  BitVec.ofNat 8 (b2n h.ropeAWet + 2 * b2n h.ropeBWet + 4 * b2n h.leakLatch + 8 * b2n h.mainOcLatch
    + 16 * b2n h.ropeAOpen + 32 * b2n h.ropeBOpen)

/-- The PINS byte of a module (R542). -/
def HSlot.pins (x : HSlot) : Byte :=
  BitVec.ofNat 8 (b2n x.present + 2 * b2n x.efuse + 4 * b2n x.pgood + 8 * b2n x.crs0 + 16 * b2n x.crs1
    + 32 * b2n x.thermN + 64 * b2n x.pwrFailN + 128 * b2n x.toggleChanged)

/-- The readings block of a module (R542). -/
def Hoist.readings (h : Hoist) (p : Nat) : List Byte :=
  let x := h.slot p
  le16 x.vin ++ le16 x.iin ++ le16 (if x.read.answered then x.read.temp.toNat else 0x8000) ++ le16 h.flow
    ++ [BitVec.ofInt 8 x.tmod, BitVec.ofInt 8 h.tin, BitVec.ofInt 8 h.tout, x.pins, h.leakByte,
        BitVec.ofNat 8 (x.powerTruth + 4 * x.trafficTruth + 16 * b2n x.contested)]

/-- The highest SYS_TEMP over the modules that answer, 0x8000 if none does. -/
def Hoist.maxTemp (h : Hoist) : Nat :=
  (traySlots.foldl (fun (m : Half) p =>
    let r := (h.slot p).read
    if r.answered && decide (m.toInt < r.temp.toInt) then r.temp else m) 0x8000#16).toNat

/-- The highest TMOD over the modules present. -/
def Hoist.maxTmod (h : Hoist) : Int :=
  match (traySlots.filter fun p => (h.slot p).present).map fun p => (h.slot p).tmod with
  | [] => -40
  | t :: ts => ts.foldl max t

/-- The readings block of the tray, MODULE 0xFF. The PINS bits but the main eFuse's and the TRUTH byte are given
no content by R542: the free value `v`. -/
def Hoist.trayReadings (h : Hoist) (v : DWord) : List Byte :=
  le16 h.vmain ++ le16 h.imain ++ le16 h.maxTemp ++ le16 h.flow
    ++ [BitVec.ofInt 8 h.maxTmod, BitVec.ofInt 8 h.tin, BitVec.ofInt 8 h.tout,
        putBit (v.setWidth 8) 1 h.mainEfuse, h.leakByte, (v >>> 8).setWidth 8]

/-- The readings block for MODULE `m` (R542). -/
def State.readingsOf (s : State) (m : Nat) : List Byte × State :=
  if m < 4 then (s.hoist.readings m, s)
  else
    let (v, t) := s.takeFree
    (t.hoist.trayReadings v, t)

/-- PERIOD of a record of MODULE `m` (R541). -/
def State.hPeriod (s : State) (m : Nat) : Word :=
  if m < 4 && (s.hslot m).read.answered then (s.hslot m).read.count else 0xFFFFFFFF#32

/-- A record into the log ring, with its SEQ, TIME and BOOTS (R541, R543). -/
def State.hlog (s : State) (r : HLog) : State :=
  let h := s.hoist
  let e := { r with seq := h.nextSeq, time := h.timeUs, boots := h.boots }
  { s with hoist := { h with log := tput {} h.log (h.nextSeq.toNat % 16384) e, nextSeq := h.nextSeq + 1 } }

/-- The code of a source (R541). -/
def HSrc.code : HSrc → Nat
  | .interlock => 0
  | .safety => 1
  | .host => 2
  | .service => 3
  | .auto => 4

/-- The record of what is done at once: AFTER is the readings now; BEFORE and PERIOD are those of the state `old` it was
accepted in. -/
def State.hrecord (s : State) (src : HSrc) (op m result outcome : Nat) (arg : Word) (old : State := s) : State :=
  let (rd, t) := s.readingsOf m
  t.hlog { source := src.code, opcode := op, slot := m, result := result, outcome := outcome,
           before := (old.readingsOf m).1, after := rd, period := old.hPeriod m, arg := arg }

/-- The record of an automatic code (R541): OUTCOME EVENT. -/
def State.hevent (s : State) (op m : Nat) (arg : Word) (old : State := s) : State := s.hrecord .auto op m 0 4 arg old

/-- The 64 bytes of a record (R541). -/
def HLog.bytes (r : HLog) : List Byte :=
  let b := [0xD7#8, BitVec.ofNat 8 r.source, BitVec.ofNat 8 r.opcode, BitVec.ofNat 8 r.slot]
    ++ leBytes 4 r.seq.toNat ++ leBytes 8 r.time.toNat ++ [BitVec.ofNat 8 r.result, BitVec.ofNat 8 r.outcome]
    ++ le16 r.duration ++ r.before ++ r.after ++ leBytes 4 r.period.toNat ++ leBytes 4 r.arg.toNat
    ++ leBytes 4 r.boots.toNat
  b ++ leBytes 4 (crc32c b).toNat

/-! ## The status block and the frames of the paths -/

/-- The code of a slot state (R525). -/
def HSlotSt.code : HSlotSt → Nat
  | .empty => 0
  | .out => 1
  | .joining => 2
  | .on => 3
  | .leaving => 4
  | .tripped => 5
  | .fault => 6

/-- The Hoist's FORCE bit for slot `p` is set on some module. -/
def Hoist.forced (h : Hoist) (p : Nat) : Bool := traySlots.any fun q => (h.slot q).hoist.force.getLsbD p

/-- Byte `p` of the status block (R549). -/
def Hoist.slotByte (h : Hoist) (p : Nat) : Byte :=
  let x := h.slot p
  BitVec.ofNat 8 (x.st.code + 8 * b2n x.contested + 16 * x.holder + 64 * b2n x.action.isSome + 128 * b2n (h.forced p))

/-- The status block (R549). -/
def Hoist.status (h : Hoist) : List Byte :=
  [BitVec.ofNat 8 (b2n h.leakLatch + 2 * b2n h.mainOcLatch + 4 * b2n h.mainEfuse + 8 * b2n h.service
      + 16 * b2n h.scPresent + 32 * b2n h.autoCycle + 64 * b2n (decide (h.flow < 200)) + 128 * b2n (h.flowLevel == 2)),
   BitVec.ofNat 8 (b2n h.ropeAOpen + 2 * b2n h.ropeBOpen)]
    ++ traySlots.map h.slotByte ++ le16 (h.nextSeq - 1).toNat ++ le16 h.vmain ++ le16 h.imain ++ le16 h.flow
    ++ [BitVec.ofInt 8 h.tin, BitVec.ofInt 8 h.tout]

/-- CRC-16/CCITT-FALSE, least significant byte first (R201). -/
def crc16Bytes (l : List Byte) : List Byte := le16 (crc16Feed 0xFFFF l)

/-- A CAN FD frame with a body (R526). -/
def canFrame (counter : Byte) (body : List Byte) : List Byte :=
  let b := [BitVec.ofNat 8 body.length, counter] ++ slice body 0 60
  b ++ crc16Bytes b

/-- A frame on 0x2C3 or 0x2C0 is taken: its CRC holds and its COUNTER is not that of the previous one (R526). -/
def canValid (prev : Option Byte) (f : List Byte) : Bool :=
  f.length == 64 && f.drop 62 == crc16Bytes (f.take 62) && prev != some (f.getD 1 0#8)
    && decide (1 ≤ (f.getD 0 0#8).toNat) && decide ((f.getD 0 0#8).toNat ≤ 60)

/-- A UART frame with a body (R528). -/
def uartFrame (body : List Byte) : List Byte :=
  let b := BitVec.ofNat 8 body.length :: body
  0xA5#8 :: (b ++ crc16Bytes b)

/-- An MCTP message with a body: type 0x7E with the integrity check bit, the vendor ID, the body, CRC-32C (R527). -/
def mctpMessage (body : List Byte) : List Byte :=
  [0xFE#8, 0xC3#8, 0xE1#8] ++ body ++ leBytes 4 (crc32c body).toNat

/-- A response body on a path (R529). -/
def State.respond (s : State) (path : HPath) (body : List Byte) : State :=
  let h := s.hoist
  match path with
  | .sc => { s with hoist := { h with resp := body, wire := canFrame h.respCnt body, respCnt := h.respCnt + 1 } }
  | .host => { s with hoist := { h with resp := body, wire := mctpMessage body } }
  | .service => { s with hoist := { h with resp := body, wire := uartFrame body } }

/-- The response of a command: OPCODE with bit 7, TAG, RESULT, zero, the data (R529). -/
def State.answer (s : State) (op : Nat) (a : HCmd) (result : Nat) (data : List Byte) : State :=
  s.respond a.path ([BitVec.ofNat 8 (op ||| 0x80), a.tag, BitVec.ofNat 8 result, 0#8] ++ data)

/-! ## Authority (R532) -/

/-- Rank of a source, 1 the highest. -/
def HSrc.rank : HSrc → Nat
  | .interlock => 1
  | .safety => 2
  | .host => 3
  | .auto => 4
  | .service => 5

end Sys2Proof.Machine

namespace Sys2Proof

/-- The source a path is. -/
def HPath.src : HPath → Machine.HSrc
  | .sc => .safety
  | .host => .host
  | .service => .service

/-- Byte `i` of the argument. -/
def HCmd.arg (a : HCmd) (i : Nat) : Nat := (a.args.getD i 0#8).toNat

/-- The argument has `n` bytes. -/
def HCmd.len (a : HCmd) (n : Nat) : Bool := a.args.length == n

/-- A fresh set of registers; a module that does not answer keeps the values last read. -/
def HReading.merge (old new : HReading) : HReading := if new.answered then new else { old with answered := false }

/-- The values of the owned registers as last read (R521): CRS_FENCE, SCH_ABSENT.FORCE, SCH_CLASS_EN. -/
def HReading.owned (r : HReading) : List Word :=
  [r.fence.setWidth 32, r.absent &&& 0xF0#32, r.classEn.setWidth 32]

end Sys2Proof

namespace Sys2Proof.Machine

/-- Rank of the holder of a slot; 6 for none. -/
def HSlot.holderRank (x : HSlot) : Nat :=
  match x.holder with
  | 0 => 6
  | 1 => 2
  | _ => 3

/-! ## Actions (R534 to R538) -/

/-- The record of an action that ends. A RESULT that no code of R530 names is a free value. -/
def State.logAction (s : State) (p : Nat) (a : HAction) (code : Option Nat) (outcome : Nat) : State :=
  let (v, t) := match code with
    | some c => (c, s)
    | none => ((s.takeFree.1.setWidth 8).toNat, s.takeFree.2)
  t.hlog { source := a.src.code, opcode := a.op, slot := p, result := v, outcome := outcome,
           duration := min 0xFFFF ((t.hoist.timeUs.toNat - a.startUs) / 1000),
           before := a.before, after := t.hoist.readings p, period := a.period, arg := a.arg }

/-- The module's eFuse and M_RAIL_EN after a change by an action, which makes power truth TRANSITION (R544). -/
def HSlot.power (x : HSlot) (efuse railEn : Bool) : HSlot :=
  { x with efuse := efuse, railEn := railEn,
           transition := x.transition || x.efuse != efuse || x.railEn != railEn }

/-- The rails of a module are taken: M_RESET_N low, M_RAIL_EN low, its eFuse open (R536 step 5). -/
def HSlot.removePower (x : HSlot) : HSlot :=
  { x.power false false with resetN := false, read := { x.read with rdy := 0#32 } }

/-- R537 step 1: M_RESET_N low, M_PWR_FAIL_N high, M_RAIL_EN high, state JOINING. -/
def HSlot.joinStart (x : HSlot) : HSlot :=
  { x.power x.efuse true with st := .joining, resetN := false, pwrFailN := true }

/-- The running action at another step, with a wait. -/
def State.actionAt (s : State) (p : Nat) (a : HAction) (step wait : Nat) : State :=
  s.modHSlot p fun x => { x with action := some { a with step := step, waitUs := wait } }

/-- An action begins (R536 to R538). Steps 2 to 7 are those of R536 with the dwell of R538, 10 the wait of R554,
12 to 17 those of R537 after its first, 20 the reset pulse. -/
def State.beginAction (s : State) (p : Nat) (a : HAction) : State :=
  let x := s.hslot p
  if a.op = 0x11 then
    if !x.pwrFailN && a.step == 10 then
      (s.modHSlot p fun y => { y with st := .joining, pwrFailN := true }).actionAt p a 10 10000
    else (s.modHSlot p HSlot.joinStart).actionAt p a 12 0
  else if a.op = 0x13 then (s.modHSlot p fun y => { y with resetN := false }).actionAt p a 20 1000
  else if a.op = 0x14 then
    (s.modHSlot p fun y => { y.power false false with
      pwrFailN := false, st := .leaving, read := { y.read with rdy := 0#32 } }).actionAt p a 6 100000
  else if a.src = .auto then (s.modHSlot p fun y => { y with st := .leaving }).actionAt p a 4 0
  else (s.modHSlot p fun y => { y with st := .leaving }).actionAt p a 2 0

/-- The slot after its action ends: the waiting one begins; counting of a contest restarts after an automatic
cycle (R548). -/
def State.afterAction (s : State) (p : Nat) (a : HAction) : State :=
  let nxt := (s.hslot p).next
  let t := s.modHSlot p fun x => { x with
    action := none, next := none,
    counted := if a.src = .auto then 0 else x.counted,
    reconciled := if a.src = .auto then 0 else x.reconciled }
  match nxt with
  | some b => t.beginAction p b
  | none => t

/-- The end of an action that was not superseded. -/
def State.endAction (s : State) (p : Nat) (a : HAction) (code : Option Nat) (outcome : Nat) : State :=
  (s.logAction p a code outcome).afterAction p a

/-- The end of an action that did what it should: DONE, with PARTIAL if a step exceeded its limit. -/
def State.doneAction (s : State) (p : Nat) (a : HAction) : State :=
  s.endAction p a (some (if a.partialStep then 0x0B else 0)) 0

/-- The action goes to another step, unless it was told to stop at the end of this one (R534). -/
def State.goto (s : State) (p : Nat) (a : HAction) (step wait : Nat) : State :=
  if a.stop then (s.logAction p a none 1).afterAction p a else s.actionAt p a step wait

/-- A step of R537 missed its limit or read wrong: steps 4 to 6 of R536 follow. -/
def State.failJoin (s : State) (p : Nat) (a : HAction) (code : Option Nat) : State :=
  (s.modHSlot p fun x => { x with st := .leaving }).goto p { a with failed := true, code := code } 4 0

/-- The wait of the running step, one sample later. -/
def State.waiting (s : State) (p : Nat) (a : HAction) : State := s.actionAt p a a.step (a.waitUs - 1000)

/-- The wait of R536 step 5. -/
def flushWait (r : HReading) : Nat :=
  match r.answered, r.tflushUs with
  | true, some t => min 10000 (max 3000 (t + 500))
  | _, _ => 5000

/-- The other ON modules of the tray. -/
def State.othersOn (s : State) (p : Nat) : List Nat := traySlots.filter fun q => q != p && (s.hslot q).st == .on

/-- The fences that a contest of some slot but `p` needs (R546). -/
def State.fenceNeeded (s : State) (p q l : Nat) : Bool :=
  traySlots.any fun c => c != p && (s.hslot c).contested && bitOf (tget 0 (s.hslot c).contestFence q) l

/-- The Hoist's fences that face slot `p` and its FORCE bit `p` are cleared on every module (R537 step 6). -/
def State.clearFacing (s : State) (p : Nat) : State :=
  let t : State := [0, 1].foldl (fun (u : State) l =>
    if u.fenceNeeded p (facingSlot p l) l then u else u.hFence (facingSlot p l) l false) s
  let t : State := traySlots.foldl (fun (u : State) q => u.hForce q p false) t
  t.modHSlot p fun x => { x with outForce := false }

/-- One sample of a running action (R536 to R538). -/
def State.stepAction (s : State) (p : Nat) (a : HAction) : State :=
  let x := s.hslot p
  let expired := decide (a.waitUs ≤ 1000)
  match a.step with
  | 2 =>
    let t : State := (s.othersOn p).foldl (fun (u : State) q => u.hForce q p true) s
    (t.modHSlot p fun y => { y with outForce := true }).goto p a 3 (2 * s.hoist.phUs + 10000)
  | 3 =>
    if (s.othersOn p).all fun q =>
        (s.hslot q).read.answered && bitOf (s.hslot q).read.absent.toNat (12 + p) then s.goto p a 4 0
    else if expired then s.goto p { a with partialStep := true } 4 0
    else s.waiting p a
  | 4 =>
    let a := { a with partialStep := a.partialStep || a.answered && !x.read.answered }
    (s.modHSlot p fun y => { y with pwrFailN := false }).goto p a 5 (flushWait x.read)
  | 5 =>
    if expired then (s.modHSlot p HSlot.removePower).goto p a 6 100000 else s.waiting p a
  | 6 =>
    if x.vin < 100 then
      if a.failed then (s.modHSlot p fun y => { y with st := .out }).endAction p a a.code 2
      else if a.cycle then s.goto p a 7 100000
      else (s.modHSlot p fun y => { y with st := .out }).doneAction p a
    else if expired then
      (s.modHSlot p fun y => { y with st := .fault }).endAction p a (if a.failed then a.code else none) 2
    else s.waiting p a
  | 7 =>
    if expired then
      if decide (500000 ≤ x.presentUs) && x.slotLatch then (s.modHSlot p HSlot.joinStart).goto p a 12 0
      else (s.modHSlot p fun y => { y with st := .out }).endAction p a none 2
    else s.waiting p a
  | 10 =>
    if expired then (s.modHSlot p HSlot.joinStart).goto p a 12 0 else s.waiting p a
  | 12 => (s.modHSlot p fun y => y.power true y.railEn).goto p a 13 50000
  | 13 =>
    if x.vinOk then s.goto p a 14 20000 else if expired then s.failJoin p a none else s.waiting p a
  | 14 =>
    if x.pgood then s.goto p a 15 10000 else if expired then s.failJoin p a none else s.waiting p a
  | 15 =>
    if expired then (s.modHSlot p fun y => { y with resetN := true }).goto p a 16 2000 else s.waiting p a
  | 16 =>
    if x.read.answered && bitOf x.read.rdy.toNat 1 then
      if x.read.grade = 0x10 && x.read.pos == p then
        if x.contested then (s.modHSlot p fun y => { y with st := .on, outForce := false }).doneAction p a
        else (s.clearFacing p).goto p a 17 (30000000 - 2000 + a.waitUs)
      else s.failJoin p a (some 0x0C)
    else if expired then s.failJoin p a (if x.read.answered then none else some 0x08)
    else s.waiting p a
  | 17 =>
    if bitOf x.read.rdy.toNat 15 && [0, 1].all (fun l =>
        !s.hoist.configured p l || (x.pin l && (s.hslot (facingSlot p l)).pin l)) then
      (s.modHSlot p fun y => { y with st := .on }).doneAction p a
    else if expired then s.failJoin p a none
    else s.waiting p a
  | _ =>
    if expired then (s.modHSlot p fun y => { y with resetN := true }).doneAction p a else s.waiting p a

/-- A new action of a path: it begins, or it waits for the running one to stop (R534). -/
def State.startAction (s : State) (p : Nat) (a : HAction) : State :=
  match (s.hslot p).action with
  | none => s.beginAction p a
  | some r =>
    let t := match (s.hslot p).next with
      | some n => s.logAction p n none 1
      | none => s
    t.modHSlot p fun x => { x with
      action := some { r with stop := true },
      next := some { a with step := if a.op = 0x11 && decide (4 ≤ r.step) then 10 else a.step } }

/-- An action as a source starts it now. -/
def State.mkAction (s : State) (p op : Nat) (src : HSrc) (arg : Word) (tag : Nat) : HAction :=
  { op := op, src := src, cycle := op == 0x12 || op == 0x83, startUs := s.hoist.timeUs.toNat,
    before := s.hoist.readings p, period := s.hPeriod p, arg := arg, tag := tag,
    answered := (s.hslot p).read.answered }

/-- The running action of a slot fails at once, with the one that waits behind it (R540, R550). -/
def State.abortAction (s : State) (p code : Nat) : State :=
  let x := s.hslot p
  let s := match x.action with
    | some a => s.logAction p a (some code) 2
    | none => s
  let s := match x.next with
    | some a => s.logAction p a (some code) 2
    | none => s
  s.modHSlot p fun y => { y with
    action := none, next := none,
    counted := if (x.action.map fun a => a.src) = some .auto then 0 else y.counted,
    reconciled := if (x.action.map fun a => a.src) = some .auto then 0 else y.reconciled }

/-! ## Interlocks (R522 to R524, R540) -/

/-- A slot whose module an interlock opened. -/
def State.tripSlot (s : State) (p : Nat) : State :=
  (s.abortAction p 0x06).modHSlot p fun x => { x with
    st := if x.st = .empty || x.st = .out then x.st else .tripped }

/-- A tray trip, 1 LEAK or 2 MAIN_OC: every M_PWR_FAIL_N low, the main eFuse off, the main rail discharged. The readings of the
last sample before it, of the state `old`, are kept (R523 step 5). -/
def State.trayTrip (s : State) (arg : Nat) (old : State := s) : State :=
  let rd := (old.readingsOf 0xFF).1
  let s := (s.readingsOf 0xFF).2
  let h := s.hoist
  let s : State := { s with hoist := { h with
    leakLatch := h.leakLatch || arg == 1, mainOcLatch := h.mainOcLatch || arg == 2,
    mainEfuse := false, discharge := true,
    trips := h.trips ++ [{ arg := arg, leftUs := 20000, startUs := h.timeUs.toNat, before := rd }] } }
  traySlots.foldl (fun (u : State) p => (u.modHSlot p fun x => { x with pwrFailN := false }).tripSlot p) s

/-- The record of a tray trip, with its after readings (R523 step 7). -/
def State.logTrip (s : State) (t : HTrip) : State :=
  let (rd, s) := s.readingsOf 0xFF
  s.hlog { source := 0, opcode := 0x80, slot := 0xFF, result := 0, outcome := 4,
           duration := (s.hoist.timeUs.toNat - t.startUs) / 1000, before := t.before, after := rd,
           arg := BitVec.ofNat 32 t.arg }

/-- The records of tray trips as 1 ms passes. -/
def State.tickTrips (s : State) : State :=
  let due := s.hoist.trips.filter fun t => decide (t.leftUs ≤ 1000)
  let rest := (s.hoist.trips.filter fun t => decide (1000 < t.leftUs)).map fun t =>
    { t with leftUs := t.leftUs - 1000 }
  due.foldl (fun (u : State) t => u.logTrip t) { s with hoist := { s.hoist with trips := rest } }

/-- A module is pulled while its eFuse is closed (R540). -/
def State.yank (s : State) (p : Nat) : State :=
  let old := s
  let others := s.othersOn p
  let s := s.abortAction p 0x07
  let s := s.modHSlot p fun x => { x with
    efuse := false, railEn := false, resetN := false, prsntN := true, presentUs := 0, st := .empty,
    outForce := true, read := {} }
  let s : State := others.foldl (fun (u : State) q => u.hForce q p true) s
  s.hevent 0x87 p 0#32 old

/-! ## Contests (R545 to R548) -/

/-- The Hoist's FORCE bit `p` on every other module that is ON and answers (R546). -/
def State.forceContest (s : State) (p : Nat) : State :=
  ((s.othersOn p).filter fun q => (s.hslot q).read.answered).foldl (fun (u : State) q => u.hForce q p true) s

/-- EVR_MARK of a contest on a module (R546 step 3). -/
def State.hMark (s : State) (q p case : Nat) : State :=
  if (s.hslot q).read.answered then
    { s with hoist := { s.hoist with
        marks := (q, BitVec.ofNat 32 (0xC7000000 + p * 65536 + case * 256 + s.hoist.nextSeq.toNat % 256))
          :: s.hoist.marks } }
  else s

/-- A slot becomes contested (R546). -/
def State.enterContest (s : State) (p case : Nat) : State :=
  let old := s
  let links := [0, 1].filter fun l => s.hoist.configured p l
  let own := if (s.hslot p).read.answered then links else []
  let mask := own.foldl (fun m l => m + 2 ^ l) 0
  let fences := links.foldl (fun (m : FMap Nat) l => tput 0 m (facingSlot p l) (2 ^ l)) (tput 0 [] p mask)
  let s := s.modHSlot p fun x => { x with
    contested := true, caseCode := case, counted := 0, reconciled := 0, limitLogged := false,
    contestFence := fences }
  let s : State := own.foldl (fun (u : State) l => u.hFence p l true) s
  let s : State := links.foldl (fun (u : State) l => u.hFence (facingSlot p l) l true) s
  let s := s.forceContest p
  let s := ((s.hMark p p case).hMark (p ^^^ 1) p case).hMark (p ^^^ 2) p case
  s.hevent 0x81 p (BitVec.ofNat 32 case) old

/-- A contest ends, 0 reconciled or 1 by CLEAR_CONTEST: the fences and FORCE bits set for it are cleared (R548). -/
def State.endContest (s : State) (p arg : Nat) : State :=
  let old := s
  let fences := (s.hslot p).contestFence
  let s := s.modHSlot p fun x => { x with
    contested := false, caseCode := 0, counted := 0, reconciled := 0, contestFence := [] }
  let s : State := fences.foldl (fun (u : State) e => [0, 1].foldl (fun (w : State) l =>
    if bitOf e.2 l && !w.fenceNeeded p e.1 l then w.hFence e.1 l false else w) u) s
  let s : State := if (s.hslot p).outForce then s
    else traySlots.foldl (fun (u : State) q => u.hForce q p false) s
  s.hevent 0x82 p (BitVec.ofNat 32 arg) old

end Sys2Proof.Machine
end

