-- ==== Sys2Proof/Machine/HoistCmd.lean ====
section
/-!
DEFINITION. The Hoist's commands and frames (R526 to R538): rights, refusals and effects of every command body,
the heartbeat, the status broadcast and the MCTP control commands.
-/

namespace Sys2Proof.Machine

/-! ## Rights and refusals -/

/-- Opcodes that only read (R533). -/
def hReads : List Nat := [0x01, 0x02, 0x03, 0x30]

/-- The right of a path to an opcode (R531): 0 no, 1 yes, 2 while service mode is asserted. -/
def hRight (op : Nat) : HPath → Nat
  | .sc => if op = 0x43 then 0 else 1
  | .host => if [0x14, 0x31, 0x42, 0x43, 0x44].contains op then 0 else 1
  | .service => if hReads.contains op then 1 else if [0x10, 0x11, 0x31, 0x43].contains op then 2 else 0

/-- Opcodes that name the tray or a slot; every other names a slot. -/
def hTrayOps : List Nat := [0x01, 0x02, 0x03, 0x42]

/-- MODULE is one the opcode takes (R529). -/
def hModuleOk (op m : Nat) : Bool := decide (m < 4) || (m == 0xFF && hTrayOps.contains op)

/-- Opcodes that an EMPTY slot still takes. -/
def hEmptyOk : List Nat := [0x01, 0x02, 0x03, 0x41, 0x42, 0x44]

/-- A higher path holds the slot (R533). -/
def HSlot.heldAbove (x : HSlot) (path : HPath) : Bool := decide (x.holderRank < path.src.rank)

/-- BUSY or PREEMPTED for the action that runs or waits on a slot (R534). -/
def HSlot.running (x : HSlot) (path : HPath) : Option Nat :=
  match x.action with
  | none => none
  | some a =>
    let src := (x.next.getD a).src
    if src = path.src then some 0x05 else if src.rank < path.src.rank then some 0x04 else none

/-- The refusal every command is tested for: rights, its body, the slot, a hold, a running action. -/
def State.hRefusal (s : State) (op : Nat) (a : HCmd) (bodyOk : Bool) : Option Nat :=
  if hRight op a.path = 0 then some 0x03
  else if hRight op a.path = 2 && !s.hoist.service then some 0x09
  else if !hModuleOk op a.slot || !bodyOk then some 0x02
  else if a.slot = 0xFF || hReads.contains op && op != 0x30 then none
  else
    let x := s.hslot a.slot
    if x.st = .empty && !hEmptyOk.contains op then some 0x07
    else if hReads.contains op then none
    else if x.heldAbove a.path then some 0x04
    else x.running a.path

/-- ONE_OUT: some other present slot is not ON (R534). -/
def State.oneOut (s : State) (p : Nat) : Bool :=
  traySlots.any fun q => q != p && (s.hslot q).present && (s.hslot q).st != .on

/-- A tray latch is set (R524). -/
def Hoist.trayLatch (h : Hoist) : Bool := h.leakLatch || h.mainOcLatch

/-- The requirements of MODULE_IN (R537, R524): INTERLOCK, BAD_CMD or ONE_OUT. -/
def State.inRefusal (s : State) (a : HCmd) : Option Nat :=
  let x := s.hslot a.slot
  let stopping : Bool := match x.action with
    | some r => decide (4 ≤ r.step)
    | none => false
  if s.hoist.trayLatch then some 0x06
  else if (x.shdnLatch || x.ocLatch) && (a.path == .service || decide (x.vinLowUs < 100000)) then some 0x06
  else if s.oneOut a.slot then some 0x0A
  else if !decide (500000 ≤ x.presentUs) || !x.slotLatch || !(decide (x.vin < 100) || stopping) then some 0x02
  else none

/-- A response body refused: answered and logged (R541). -/
def State.hRefuse (s : State) (op : Nat) (a : HCmd) (code : Nat) : State :=
  (s.answer op a code []).hrecord a.path.src op a.slot code 3 (wordAt a.args 0)

/-- A command done at once: answered OK with data, and logged; `old` is the state it was accepted in. -/
def State.hDone (s : State) (op : Nat) (a : HCmd) (data : List Byte) (old : State := s) : State :=
  (s.answer op a 0 data).hrecord a.path.src op a.slot 0 0 (wordAt a.args 0) old

/-- A command that begins an action: answered ACCEPTED (R529). -/
def State.hStart (s : State) (op : Nat) (a : HCmd) : State :=
  (s.answer op a 1 []).startAction a.slot (s.mkAction a.slot op a.path.src (wordAt a.args 0) a.tag.toNat)

/-- A command body is taken: on CAN FD its COUNTER must differ from the previous frame's, on MCTP the endpoint ID
must be set (R526, R527). Then it is refused or has its effect. -/
def State.hTake (s : State) (op : Nat) (a : HCmd) (refusal : Option Nat) (f : State → State) : State :=
  if a.path = .sc && s.hoist.canCmd == some a.counter then s
  else if a.path = .host && s.hoist.eid == 0#8 then s
  else
    let s := if a.path = .sc then { s with hoist := { s.hoist with canCmd := some a.counter } } else s
    match refusal with
    | some code => s.hRefuse op a code
    | none => f s

/-- A change of the sending path's contributions for a module (R521). -/
def State.pathContrib (s : State) (a : HCmd) (f : HContrib → HContrib) : State :=
  s.contribute a.slot fun x =>
    match a.path with
    | .sc => { x with sc := f x.sc }
    | .host => { x with host := f x.host }
    | .service => x

/-! ## The commands (R531) -/

/-- GET_STATUS (R549). -/
def execGetStatus (a : HCmd) (s : State) : Host.Outcome State Fault Refusal :=
  .next (s.hTake 0x01 a (s.hRefusal 0x01 a (a.len 0)) fun t => t.hDone 0x01 a t.hoist.status)

/-- GET_SENSORS (R531, R542, R549). -/
def execGetSensors (a : HCmd) (s : State) : Host.Outcome State Fault Refusal :=
  .next (s.hTake 0x02 a (s.hRefusal 0x02 a (a.len 0)) fun t =>
    let (rd, u) := t.readingsOf a.slot
    u.hDone 0x02 a (rd ++ u.hoist.status))

/-- The record with a SEQ, if the ring still holds it (R543). -/
def Hoist.record (h : Hoist) (seq : Word) : Option HLog :=
  let r := tget {} h.log (seq.toNat % 16384)
  if r = {} then none else if r.seq = seq then some r else none

/-- GET_LOG (R531). -/
def execGetLog (a : HCmd) (s : State) : Host.Outcome State Fault Refusal :=
  let r := s.hoist.record (wordAt a.args 0)
  let ok := a.len 5 && decide (a.arg 4 < 2) && r.isSome
  .next (s.hTake 0x03 a (s.hRefusal 0x03 a ok) fun t =>
    t.hDone 0x03 a (slice (r.getD {}).bytes (32 * a.arg 4) 32))

/-- MODULE_OUT (R536). -/
def execModuleOut (a : HCmd) (s : State) : Host.Outcome State Fault Refusal :=
  let one := if s.oneOut a.slot then some 0x0A else none
  .next (s.hTake 0x10 a ((s.hRefusal 0x10 a (a.len 0)) <|> one) fun t => t.hStart 0x10 a)

/-- MODULE_IN (R537): accepted, it clears the SHDN and MODULE_OC latches (R524). -/
def execModuleIn (a : HCmd) (s : State) : Host.Outcome State Fault Refusal :=
  .next (s.hTake 0x11 a ((s.hRefusal 0x11 a (a.len 0)) <|> s.inRefusal a) fun t =>
    (t.modHSlot a.slot fun x => { x with shdnLatch := false, ocLatch := false }).hStart 0x11 a)

/-- MODULE_CYCLE (R538). -/
def execModuleCycle (a : HCmd) (s : State) : Host.Outcome State Fault Refusal :=
  let x := s.hslot a.slot
  let lock := if s.hoist.trayLatch || x.shdnLatch || x.ocLatch then some 0x06
    else if s.oneOut a.slot then some 0x0A else none
  .next (s.hTake 0x12 a ((s.hRefusal 0x12 a (a.len 0)) <|> lock) fun t => t.hStart 0x12 a)

/-- MODULE_RESET (R538). -/
def execModuleReset (a : HCmd) (s : State) : Host.Outcome State Fault Refusal :=
  .next (s.hTake 0x13 a (s.hRefusal 0x13 a (a.len 0)) fun t => t.hStart 0x13 a)

/-- MODULE_KILL (R538). -/
def execModuleKill (a : HCmd) (s : State) : Host.Outcome State Fault Refusal :=
  .next (s.hTake 0x14 a (s.hRefusal 0x14 a (a.len 0)) fun t => t.hStart 0x14 a)

/-- SHED (R521, R531): bits 3:1 are the class enables of the source; bit 0 reads 1. -/
def execShed (a : HCmd) (s : State) : Host.Outcome State Fault Refusal :=
  .next (s.hTake 0x20 a (s.hRefusal 0x20 a (a.len 1)) fun t =>
    (t.pathContrib a fun c => { c with classEn := BitVec.ofNat 4 (a.arg 0) ||| 1#4 }).hDone 0x20 a [])

/-- FENCE (R521, R531). -/
def execFence (a : HCmd) (s : State) : Host.Outcome State Fault Refusal :=
  let ok := a.len 2 && decide (a.arg 0 < 4) && decide (a.arg 1 < 2)
  let mask := BitVec.ofNat 2 (a.arg 0)
  .next (s.hTake 0x21 a (s.hRefusal 0x21 a ok) fun t =>
    (t.pathContrib a fun c => { c with
      fence := if a.arg 1 = 1 then c.fence ||| mask else c.fence &&& ~~~mask }).hDone 0x21 a [])

/-- FORCE_ABSENT (R521, R531). -/
def execForceAbsent (a : HCmd) (s : State) : Host.Outcome State Fault Refusal :=
  let ok := a.len 1 && decide (a.arg 0 < 16)
  .next (s.hTake 0x22 a (s.hRefusal 0x22 a ok) fun t =>
    (t.pathContrib a fun c => { c with force := BitVec.ofNat 4 (a.arg 0) }).hDone 0x22 a [])

/-- PVIEW_READ (R518, R531): `spi` is what the module's port answered, none if no attempt succeeded. -/
def execPviewRead (a : HCmd) (spi : Option (List Word)) (s : State) : Host.Outcome State Fault Refusal :=
  let n := a.arg 4
  let ok := a.len 5 && decide (1 ≤ n) && decide (n ≤ 8)
  let got := match spi with
    | some ws => if ws.length = n && (wordAt a.args 0).toNat % 4 = 0 then some ws else none
    | none => none
  .next (s.hTake 0x30 a (s.hRefusal 0x30 a ok <|> if got.isSome then none else some 0x08) fun t =>
    t.hDone 0x30 a (wordsBytes (got.getD [])))

/-- PVIEW_WRITE (R518, R521, R531): `spiOk` says whether some attempt succeeded. -/
def execPviewWrite (a : HCmd) (spiOk : Bool) (s : State) : Host.Outcome State Fault Refusal :=
  let n := a.arg 4
  let addr := (wordAt a.args 0).toNat
  let ok := decide (1 ≤ n) && decide (n ≤ 8) && a.len (5 + 4 * n)
  let names := (List.range n).any fun i => ownedRegs.contains ((addr + 4 * i) / 4 * 4)
  let more := if names then some 0x03 else if spiOk && addr % 4 = 0 then none else some 0x08
  let ws := (List.range n).map fun i => wordAt a.args (5 + 4 * i)
  .next (s.hTake 0x31 a (s.hRefusal 0x31 a ok <|> more) fun t =>
    State.hDone { t with hoist := { t.hoist with
      spiOut := (a.slot, BitVec.ofNat 32 addr :: ws) :: t.hoist.spiOut } } 0x31 a [])

/-- HOLD (R533). -/
def execHold (a : HCmd) (s : State) : Host.Outcome State Fault Refusal :=
  let lease := field a.args 0 2
  let ok := a.len 2 && decide (1 ≤ lease) && decide (lease ≤ 3600)
  .next (s.hTake 0x40 a (s.hRefusal 0x40 a ok) fun t =>
    (t.modHSlot a.slot fun x => { x with
      holder := if a.path = .sc then 1 else 2, holdUs := lease * 1000000 }).hDone 0x40 a [])

/-- RELEASE of a HOLD (R533): it ends the sending path's lease. -/
def execHoldRelease (a : HCmd) (s : State) : Host.Outcome State Fault Refusal :=
  .next (s.hTake 0x41 a (s.hRefusal 0x41 a (a.len 0)) fun t =>
    (t.modHSlot a.slot fun x =>
      if x.holderRank = a.path.src.rank then { x with holder := 0, holdUs := 0 } else x).hDone 0x41 a [])

/-- HOLD_EXPIRY (R533): a lease runs out. -/
def execHoldExpiry (slot : Nat) (s : State) : Host.Outcome State Fault Refusal :=
  .next (if slot < 4 then s.modHSlot slot fun x => { x with holder := 0, holdUs := 0 } else s)

/-- The main eFuse after a tray latch clears: closed once no tray latch is set; modules that were tripped stay off
(R524). -/
def State.mainClose (s : State) : State :=
  if s.hoist.trayLatch then s
  else
    let s : State := traySlots.foldl (fun (u : State) p => u.modHSlot p fun x =>
      if x.st = .tripped then { x with efuse := false, railEn := false } else x) s
    { s with hoist := { s.hoist with mainEfuse := true, discharge := false } }

/-- INTERLOCK_CLEAR (R524, R550). -/
def execInterlockClear (a : HCmd) (s : State) : Host.Outcome State Fault Refusal :=
  let which := a.arg 0
  let ok := a.len 1 && (which == 1 || which == 2)
  let h := s.hoist
  let wet := which == 1 && (h.ropeAWet || h.ropeBWet || decide (h.dryUs < 60000000))
  .next (s.hTake 0x42 a (s.hRefusal 0x42 a ok <|> if wet then some 0x06 else none) fun t =>
    (State.mainClose { t with hoist := { t.hoist with
      leakLatch := t.hoist.leakLatch && which != 1,
      mainOcLatch := t.hoist.mainOcLatch && which != 2 } }).hDone 0x42 a [] t)

/-- LATCH_RELEASE (R531): the slot latch of a module that is OUT. -/
def execLatchRelease (a : HCmd) (s : State) : Host.Outcome State Fault Refusal :=
  let out := if (s.hslot a.slot).st = .out then none else some 0x03
  .next (s.hTake 0x43 a (s.hRefusal 0x43 a (a.len 0) <|> out) fun t =>
    (t.modHSlot a.slot fun x => { x with slotLatch := false }).hDone 0x43 a [])

/-- CLEAR_CONTEST (R548). -/
def execClearContest (a : HCmd) (s : State) : Host.Outcome State Fault Refusal :=
  .next (s.hTake 0x44 a (s.hRefusal 0x44 a (a.len 0)) fun t =>
    (if (t.hslot a.slot).contested then t.endContest a.slot 1 else t).hDone 0x44 a [] t)

/-! ## Frames of the paths (R526 to R528, R535) -/

/-- CAN_FRAME_DISCARD (R526): a frame whose CRC fails, or whose COUNTER repeats, has no effect. -/
def execCanFrameDiscard (_ident : Nat) (_frame : List Byte) (s : State) : Host.Outcome State Fault Refusal :=
  .next s

/-- HEARTBEAT (R526, R535). -/
def execHeartbeat (frame : List Byte) (s : State) : Host.Outcome State Fault Refusal :=
  let h := s.hoist
  if !canValid h.canHb frame then .next s
  else
    let b := (frame.getD 2 0#8).toNat
    let s : State := if h.scPresent then s else s.hevent 0x89 0xFF 0#32
    .next { s with hoist := { s.hoist with
      canHb := some (frame.getD 1 0#8), scPresent := true, service := bitOf b 0, autoCycle := bitOf b 1 } }

/-- An action of the service console stops as superseded (R535). -/
def State.stopService (s : State) (p : Nat) : State :=
  let x := s.hslot p
  let waits : Bool := match x.next with
    | some n => n.src == .service
    | none => false
  let s : State := if waits then
      (s.logAction p (x.next.getD {}) none 1).modHSlot p fun y => { y with next := none }
    else s
  s.modHSlot p fun y => { y with
    action := y.action.map fun a => if a.src = .service then { a with stop := true } else a }

/-- SC_LOST (R535): the safety controller counts as absent. -/
def execScLost (s : State) : Host.Outcome State Fault Refusal :=
  if !s.hoist.scPresent then .next s
  else
    let s : State := { s with hoist := { s.hoist with scPresent := false, service := false, autoCycle := false } }
    .next (traySlots.foldl (fun (u : State) p => u.stopService p) (s.hevent 0x88 0xFF 0#32))

/-- STATUS_BROADCAST (R526, R549). -/
def execStatusBroadcast (s : State) : Host.Outcome State Fault Refusal :=
  let h := s.hoist
  .next { s with hoist := { h with cast := canFrame h.castCnt h.status, castCnt := h.castCnt + 1 } }

/-- UART_IDLE_GAP (R528): the receiver waits for a frame again. -/
def execUartIdleGap (s : State) : Host.Outcome State Fault Refusal :=
  .next { s with hoist := { s.hoist with uartBusy := false } }

/-- The response to an MCTP control command: its code, a completion code, its data. -/
def State.mctpControl (s : State) (body : List Byte) : State :=
  { s with hoist := { s.hoist with resp := body, wire := 0x00#8 :: body } }

/-- SET_ENDPOINT_ID (R527). IDs 0x00 and 0xFF are no endpoint's. -/
def execSetEndpointId (eid : Byte) (s : State) : Host.Outcome State Fault Refusal :=
  if eid = 0#8 || eid = 0xFF#8 then .next (s.mctpControl [0x01#8, 0x02#8])
  else .next (State.mctpControl { s with hoist := { s.hoist with eid := eid } } [0x01#8, 0x00#8, 0x00#8, eid, 0x00#8])

/-- GET_ENDPOINT_ID (R527). -/
def execGetEndpointId (s : State) : Host.Outcome State Fault Refusal :=
  .next (s.mctpControl [0x02#8, 0x00#8, s.hoist.eid, 0x00#8, 0x00#8])

/-- GET_MCTP_VERSION_SUPPORT (R527): one entry, whose number the manual does not give. -/
def execGetMctpVersionSupport (s : State) : Host.Outcome State Fault Refusal :=
  let (v, t) := s.takeFree
  .next (t.mctpControl ([0x04#8, 0x00#8, 0x01#8] ++ leBytes 4 v.toNat))

/-- GET_MESSAGE_TYPE_SUPPORT (R527): type 0x7E. -/
def execGetMessageTypeSupport (s : State) : Host.Outcome State Fault Refusal :=
  .next (s.mctpControl [0x05#8, 0x00#8, 0x01#8, 0x7E#8])

/-- GET_VENDOR_MESSAGE_SUPPORT (R527): vendor 0xC3E1; its command set version is not given. -/
def execGetVendorMessageSupport (s : State) : Host.Outcome State Fault Refusal :=
  let (v, t) := s.takeFree
  .next (t.mctpControl ([0x06#8, 0x00#8, 0xFF#8, 0x00#8, 0xC3#8, 0xE1#8] ++ leBytes 2 v.toNat))

end Sys2Proof.Machine
end

