-- ==== Sys2Proof/Machine/HoistExam.lean ====
section
/-!
DEFINITION. What the Hoist samples and decides by itself (R519 to R525, R539 to R553): interlock trips, a pulled
module, samples, register polls, examination points, Hoist starts.
-/

namespace Sys2Proof.Machine

/-! ## Interlocks -/

/-- LEAK (R522, R523): a rope, 0 or 1, reads wet past the filter. -/
def execLeak (rope : Nat) (s : State) : Host.Outcome State Fault Refusal :=
  let h := s.hoist
  let t : State := { s with hoist := { h with
    ropeAWet := h.ropeAWet || rope == 0, ropeBWet := h.ropeBWet || rope == 1, dryUs := 0 } }
  .next (t.trayTrip 1 s)

/-- MAIN_OC (R522). -/
def execMainOc (s : State) : Host.Outcome State Fault Refusal := .next (s.trayTrip 2)

/-- SHDN (R522): M_RAIL_EN low, module eFuse open, M_PWR_FAIL_N low. -/
def execShdn (slot : Nat) (s : State) : Host.Outcome State Fault Refusal :=
  if slot < 4 then
    let t := s.modHSlot slot fun x => { x with
      thermN := false, shdnLatch := true, railEn := false, efuse := false, pwrFailN := false }
    .next ((t.tripSlot slot).hrecord .interlock 0x80 slot 0 4 3#32 s)
  else .next s

/-- MODULE_OC (R522): module eFuse open, M_PWR_FAIL_N low. -/
def execModuleOc (slot : Nat) (s : State) : Host.Outcome State Fault Refusal :=
  if slot < 4 then
    let t := s.modHSlot slot fun x => { x with ocLatch := true, efuse := false, pwrFailN := false }
    .next ((t.tripSlot slot).hrecord .interlock 0x80 slot 0 4 4#32 s)
  else .next s

/-- YANKED (R540): only on a slot whose eFuse is closed. -/
def execYanked (slot : Nat) (s : State) : Host.Outcome State Fault Refusal :=
  if slot < 4 && (s.hslot slot).efuse then .next (s.yank slot) else .next s

/-! ## Samples -/

/-- The registers read of each slot with VIN in range (R519). -/
def State.takeReads (s : State) (reads : List HReading) : State :=
  (traySlots.zip reads).foldl (fun (u : State) e =>
    if (u.hslot e.1).vinOk then u.modHSlot e.1 fun x => { x with read := x.read.merge e.2 }
    else u.modHSlot e.1 fun x => { x with read := { x.read with answered := false } }) s

/-- The 1 ms sample of a slot's pins (R519, R525, R544). -/
def HSlot.sample (x : HSlot) (i : HSlotIn) : HSlot :=
  let changed := x.pgood != i.pgood
  let y := { x with
    vin := i.vin, iin := i.iin, pgood := i.pgood, thermN := i.thermN, slotLatch := i.latch,
    prsntN := i.prsntN,
    presentUs := if i.prsntN then 0 else x.presentUs + 1000,
    vinLowUs := if i.vin < 100 then x.vinLowUs + 1000 else 0,
    holdUs := x.holdUs - 1000,
    transition := x.transition || changed && x.action.isSome,
    st := if i.prsntN then HSlotSt.empty
      else if x.st = HSlotSt.empty then (if i.vin < 100 && !x.efuse then HSlotSt.out else HSlotSt.fault) else x.st,
    read := if i.prsntN then {} else x.read }
  { y with allOn := x.allOn && y.efuse && y.vinOk && y.pgood,
           allOff := x.allOff && !y.efuse && decide (y.vin < 100) && !y.pgood }

/-- The 1 ms sample of slot `p`: a module pulled while powered is R540; a module gone takes its action with it. -/
def State.sampleSlot (s : State) (p : Nat) (i : HSlotIn) : State :=
  let x := s.hslot p
  let gone := i.prsntN && x.present
  let s : State := if gone && x.efuse then s.yank p else if gone then s.abortAction p 0x07 else s
  s.modHSlot p fun y => y.sample i

/-- One sample of the action on slot `p`. -/
def State.runSlot (s : State) (p : Nat) : State :=
  match (s.hslot p).action with
  | some a => s.stepAction p a
  | none => s

/-- RAIL_SAMPLE (R519): rails, currents and pins; then every running action goes on. -/
def execRailSample (a : RailIn) (s : State) : Host.Outcome State Fault Refusal :=
  let s : State := { s with hoist := { s.hoist with
    vmain := a.vmain, imain := a.imain, timeUs := s.hoist.timeUs + 1000 } }
  let s : State := (traySlots.zip a.slots).foldl (fun (u : State) e => u.sampleSlot e.1 e.2) s
  let s := (s.takeReads a.reads).tickTrips
  .next (traySlots.foldl (fun (u : State) p => u.runSlot p) s)

/-- Slot `p` after a sample of its link pins and SAFE_TOGGLE. -/
def HSlot.samplePins (x : HSlot) (i : Bool × Bool × Bool) : HSlot :=
  { x with crs0 := i.1, crs1 := i.2.1, toggle := i.2.2,
           toggleChanged := x.toggleChanged || x.toggle != i.2.2 }

/-- What both ends of slot `p`'s links read at every sample (R544). -/
def State.notePins (s : State) (p : Nat) : State :=
  let f0 := s.hslot (facingSlot p 0)
  let f1 := s.hslot (facingSlot p 1)
  s.modHSlot p fun x => { x with
    pinHigh0 := x.pinHigh0 && x.crs0 && f0.crs0, pinHigh1 := x.pinHigh1 && x.crs1 && f1.crs1,
    pinLow0 := x.pinLow0 && !x.crs0 && !f0.crs0, pinLow1 := x.pinLow1 && !x.crs1 && !f1.crs1 }

/-- LINK_PIN_SAMPLE (R519). -/
def execLinkPinSample (a : LinkPinIn) (s : State) : Host.Outcome State Fault Refusal :=
  let s : State := (traySlots.zip a.slots).foldl (fun (u : State) e =>
    u.modHSlot e.1 fun x => x.samplePins e.2) s
  .next (traySlots.foldl (fun (u : State) p => u.notePins p) s)

/-- The class enables the Hoist contributes at a level of flow shedding (R539). -/
def flowClasses : Nat → BitVec 4
  | 0 => 0b1111#4
  | 1 => 0b0111#4
  | _ => 0b0011#4

/-- The Hoist's SHED contribution on the ON modules that no path holds; restored on every module (R539, R533). -/
def State.flowShed (s : State) : State :=
  let lvl := s.hoist.flowLevel
  traySlots.foldl (fun (u : State) p =>
    let x := u.hslot p
    if x.holder == 0 && (x.st == .on || lvl == 0) then
      u.contribute p fun y => { y with hoist := { y.hoist with classEn := flowClasses lvl } }
    else u) s

/-- The level of flow shedding after a sample (R539). -/
def flowNext (lvl flow lowMs okMs : Nat) : Nat :=
  if flow < 50 && 2000 ≤ lowMs then 2
  else if flow < 200 then 1
  else if 10000 ≤ okMs then 0
  else min lvl 1

/-- COOLANT_SAMPLE (R519, R539). -/
def execCoolantSample (tin tout : Int) (flow : Nat) (tmod : List Int) (s : State) :
    Host.Outcome State Fault Refusal :=
  let h := s.hoist
  let low := if flow < 50 then (if h.flow < 50 then h.flowLowMs + 100 else 0) else 0
  let okm := if 200 ≤ flow then (if 200 ≤ h.flow then h.flowOkMs + 100 else 0) else 0
  let lvl := flowNext h.flowLevel flow low okm
  let s : State := { s with hoist := { h with
    tin := tin, tout := tout, flow := flow, flowLowMs := low, flowOkMs := okm, flowLevel := lvl } }
  let s : State := (traySlots.zip tmod).foldl (fun (u : State) e => u.modHSlot e.1 fun x => { x with tmod := e.2 }) s
  let s := s.flowShed
  .next (if lvl = h.flowLevel then s
    else s.hevent (if lvl = 0 then 0x86 else 0x85) 0xFF ((~~~flowClasses lvl).setWidth 32))

/-- ROPE_SAMPLE (R519, R524): wet below 20 kOhm, open above 2 MOhm. -/
def execRopeSample (ohmA ohmB : Nat) (s : State) : Host.Outcome State Fault Refusal :=
  let h := s.hoist
  let dry (r : Nat) : Bool := decide (20000 ≤ r) && decide (r ≤ 2000000)
  let openA := decide (2000000 < ohmA)
  let openB := decide (2000000 < ohmB)
  let s : State := { s with hoist := { h with
    ropeAWet := decide (ohmA < 20000), ropeBWet := decide (ohmB < 20000), ropeAOpen := openA, ropeBOpen := openB,
    dryUs := if dry ohmA && dry ohmB then h.dryUs + 10000 else 0 } }
  let s : State := if openA && !h.ropeAOpen then s.hevent 0x8C 0xFF 1#32 else s
  .next (if openB && !h.ropeBOpen then s.hevent 0x8C 0xFF 2#32 else s)

/-- The owned registers of a module that answers, rewritten where they differ and logged OVERWRITTEN (R521). -/
def State.rewriteOwned (s : State) (p : Nat) : State :=
  let x := s.hslot p
  if x.read.answered then
    (ownedDiff x.merged x.read.owned).foldl (fun (u : State) e =>
      (u.spiWrite p e.1 e.2).hevent 0x8B p (BitVec.ofNat 32 e.1)) s
  else s

/-- MODULE_REGISTER_POLL (R519, R521). -/
def execModuleRegisterPoll (reads : List HReading) (s : State) : Host.Outcome State Fault Refusal :=
  .next (traySlots.foldl (fun (u : State) p => u.rewriteOwned p) (s.takeReads reads))

/-! ## Examination points -/

/-- Power truth (R544): 0 OFF, 1 ON, 2 FAULT, 3 TRANSITION. -/
def HSlot.powerNow (x : HSlot) : Nat :=
  if x.transition then 3
  else if x.allOn && x.efuse && x.vinOk && x.pgood then 1
  else if x.allOff && !x.efuse && decide (x.vin < 100) && !x.pgood then 0
  else 2

/-- Traffic truth (R544): 0 DEAD, 1 LIVE, 2 SPLIT. -/
def State.trafficNow (s : State) (p : Nat) : Nat :=
  let x := s.hslot p
  let c0 := s.hoist.configured p 0
  let c1 := s.hoist.configured p 1
  if c0 && x.pinHigh0 || c1 && x.pinHigh1 then 1
  else if (!c0 || x.pinLow0) && (!c1 || x.pinLow1) then 0
  else 2

/-- CRS_LINK_STATUS of each link agrees with the pin it drives (R545). -/
def HSlot.linksAgree (x : HSlot) : Bool := linkUp x.read.link0 == x.crs0 && linkUp x.read.link1 == x.crs1

/-- The case of a disagreement, 0 for none (R545). -/
def HSlot.caseNow (x : HSlot) (power traffic : Nat) : Nat :=
  if power = 0 then (if traffic = 0 then 0 else 1)
  else if power = 2 then (if traffic = 0 then 0 else 2)
  else if power = 1 then
    if traffic = 2 then 3
    else if !x.read.answered then (if traffic = 0 then 0 else 4)
    else if x.linksAgree then 0 else 5
  else 0

/-- A contested slot is reconciled at this point (R548). -/
def State.reconciledNow (s : State) (p power : Nat) : Bool :=
  let x := s.hslot p
  if power = 0 then
    !x.crs0 && !x.crs1 && !(s.hslot (facingSlot p 0)).crs0 && !(s.hslot (facingSlot p 1)).crs1
  else power == 1 && x.read.answered && x.linksAgree

/-- The automatic cycle of a contested slot, or CYCLE_LIMIT (R548). -/
def State.autoCycle (s : State) (p : Nat) : State :=
  let x := s.hslot p
  if x.cycles < 2 then
    let s := s.modHSlot p fun y => { y with cycles := y.cycles + 1 }
    s.startAction p (s.mkAction p 0x83 .auto (BitVec.ofNat 32 (x.cycles + 1)) 0)
  else if x.limitLogged then s
  else (s.modHSlot p fun y => { y with limitLogged := true }).hevent 0x84 p 0#32

/-- A counted point of a contested slot (R548). Points inside an automatic cycle are not counted. -/
def State.countPoint (s : State) (p power : Nat) : State :=
  let x := s.hslot p
  let rec' := s.reconciledNow p power
  let n := if rec' then x.reconciled + 1 else 0
  let s := s.modHSlot p fun y => { y with counted := y.counted + 1, reconciled := n }
  if 3 ≤ n then s.endContest p 0
  else if !rec' && x.counted + 1 == 3 && power != 0 && s.hoist.autoCycle && x.holder == 0 && x.action.isNone
      && !s.hoist.trayLatch && !x.shdnLatch && !x.ocLatch then s.autoCycle p
  else s

/-- The state of a slot with no action, by power truth (R525). -/
def HSlot.settle (x : HSlot) (power : Nat) : HSlot :=
  if x.action.isSome || x.st = .tripped || x.st = .empty then x
  else if power = 1 then { x with st := .on }
  else if power = 0 then { x with st := .out }
  else if power = 2 then { x with st := .fault }
  else x

/-- A slot at the start of an examination interval. -/
def HSlot.newInterval (x : HSlot) : HSlot :=
  { x with allOn := true, allOff := true, transition := false, pinHigh0 := true, pinHigh1 := true, pinLow0 := true,
           pinLow1 := true }

/-- A present slot at an examination point (R544 to R548). -/
def State.examineSlot (s : State) (p : Nat) : State :=
  let x := s.hslot p
  if !x.present then s
  else
    let power := x.powerNow
    let traffic := s.trafficNow p
    let quiet := power == 1 && traffic == 0 && !x.read.answered
    let s := s.modHSlot p fun y =>
      { y.settle power with powerTruth := power, trafficTruth := traffic, unresponsive := quiet }
    let s : State := if quiet && !x.unresponsive then s.hevent 0x81 p 0#32 else s
    if power = 3 then s
    else if x.contested then
      match x.action with
      | some a => if a.src = .auto then s else s.countPoint p power
      | none => s.countPoint p power
    else if x.caseNow power traffic = 0 then s
    else s.enterContest p (x.caseNow power traffic)

/-- P_H, in us (R520). -/
def Hoist.interval (h : Hoist) : Nat :=
  match traySlots.find? fun p => (h.slot p).read.answered && bitOf (h.slot p).read.rdy.toNat 13 with
  | some p => (h.slot p).read.length
  | none => 100000

/-- EXAMINATION_POINT (R520, R544 to R548). -/
def execExaminationPoint (reads : List HReading) (s : State) : Host.Outcome State Fault Refusal :=
  let s := s.takeReads reads
  let s : State := traySlots.foldl (fun (u : State) p => u.examineSlot p) s
  let s : State := traySlots.foldl (fun (u : State) p => u.modHSlot p fun x =>
    { x.newInterval with toggleChanged := false }) s
  .next { s with hoist := { s.hoist with phUs := s.hoist.interval } }

/-! ## Hoist start (R551) -/

/-- A slot as a Hoist start finds it. -/
def HSlot.startState (x : HSlot) (tray : Bool) : HSlotSt :=
  if x.prsntN then .empty
  else if x.shdnLatch || x.ocLatch || tray && x.efuse && !x.vinOk then .tripped
  else if x.efuse && x.vinOk && x.pgood then .on
  else if !x.efuse && decide (x.vin < 100) then .out
  else .fault

/-- A slot at a Hoist start: pins, eFuse and latches stand; holds, actions and contributions do not. -/
def HSlot.startSlot (x : HSlot) (tray : Bool) (classEn : BitVec 4) : HSlot :=
  let r := x.read
  { x.newInterval with
    st := x.startState tray, contested := false, caseCode := 0, holder := 0, holdUs := 0, action := none,
    next := none, outForce := false, unresponsive := false, sc := {}, host := {},
    hoist := { fence := if r.answered then r.fence else 0#2,
               force := if r.answered then (r.absent >>> 4).setWidth 4 else 0#4,
               classEn := if x.efuse && x.vinOk && x.pgood then classEn else 0b1111#4 },
    contestFence := [], cycles := 0, limitLogged := false, counted := 0, reconciled := 0, toggleChanged := false,
    presentUs := if x.prsntN then 0 else x.presentUs, powerTruth := 0, trafficTruth := 0 }

/-- The links whose adopted fence bits face slot `p`. -/
def Hoist.adoptedFences (h : Hoist) (p : Nat) : FMap Nat :=
  [0, 1].foldl (fun (m : FMap Nat) l =>
    if (h.slot (facingSlot p l)).hoist.fence.getLsbD l then tput 0 m (facingSlot p l) (2 ^ l) else m) []

/-- A slot that an adopted bit names is contested (R551). -/
def State.adoptContest (s : State) (p : Nat) : State :=
  let f := s.hoist.adoptedFences p
  if s.hoist.forced p || !f.isEmpty then
    s.modHSlot p fun x => { x with contested := true, contestFence := f }
  else s

/-- HOIST_START (R551): BOOTS counts; the ARG of its record, whose layout is not given, is a free value. -/
def execHoistStart (a : RailIn) (reads : List HReading) (s : State) : Host.Outcome State Fault Refusal :=
  let s : State := { s with hoist := { s.hoist with
    vmain := a.vmain, imain := a.imain, timeUs := 0#64, boots := s.hoist.boots + 1, scPresent := true,
    service := false, autoCycle := false, canCmd := none, canHb := none, eid := 0#8, uartBusy := false,
    trips := [], flowLowMs := 0, flowOkMs := 0, dryUs := 0 } }
  let s : State := (traySlots.zip a.slots).foldl (fun (u : State) e => u.modHSlot e.1 fun x => x.sample e.2) s
  let s := s.takeReads reads
  let (v, s) := s.takeFree
  let s := s.hevent 0x8A 0xFF (v.setWidth 32)
  let s : State := traySlots.foldl (fun (u : State) p => u.modHSlot p fun x =>
    x.startSlot u.hoist.trayLatch (flowClasses u.hoist.flowLevel)) s
  let s : State := traySlots.foldl (fun (u : State) p => u.adoptContest p) s
  .next { s with hoist := { s.hoist with phUs := s.hoist.interval } }

end Sys2Proof.Machine
end

