-- ==== Sys2Proof/Machine/Memory.lean ====
section
/-!
DEFINITION. Bindings and the memory instructions of the tile core (R335 to R338).
-/

namespace Sys2Proof.Machine

/-- BIND and BINDD: bits 15:0 of s[RA] into binding RD bits 2:0, with its DIG flag; RD bits 4:3 and RB zero (R335). -/
def bindOp (a : RFmt) (fn : BitVec 11) (dig : Bool) (s : State) : Result :=
  .next (s.issueReg a.tile a.env (a.word 0x19#6 fn) (bits a.rd.toNat 4 3 == 0 && a.rb == 0#5) fun c =>
    { c with b := c.b.set (a.rd.toNat % 8) ((c.sreg a.ra).setWidth 16, dig) })

/-- BIND (R335). -/
def execBind (a : RFmt) (s : State) : Result := bindOp a 0x005#11 false s

/-- BINDD (R335). -/
def execBindd (a : RFmt) (s : State) : Result := bindOp a 0x006#11 true s

/-- A scalar load of n bytes at s[RA] + IMM13 of binding H, aligned to its width or ALIGN (R336). -/
def load (a : MFmt) (op : BitVec 6) (n : Nat) (ext : Nat → Word) (s : State) : Result :=
  .next (s.issue a.tile a.env (a.word op) true fun s c i =>
    let o := a.addr c a.imm
    if o % n ≠ 0 then .exc s 3 else
    loadBytes s a.tile i (c.bind a.h).1 o n a.env fun s bs =>
      .ok (s.modTc a.tile fun c => c.setS a.rd (ext (leNat bs))) none)

/-- A scalar store of the low n bytes of s[RS] (R336). -/
def store (a : MFmt) (op : BitVec 6) (n : Nat) (s : State) : Result :=
  .next (s.issue a.tile a.env (a.word op) true fun s c i =>
    let o := a.addr c a.imm
    if o % n ≠ 0 then .exc s 3 else
    storeBytes s a.tile i (c.bind a.h).1 (c.bind a.h).2 o n (fun _ => true) (leBytes n (c.sreg a.rd).toNat) false a.env)

/-- LB (R336). -/
def execLb (a : MFmt) (s : State) : Result := load a 0x08#6 1 (fun v => (BitVec.ofNat 8 v).signExtend 32) s

/-- LBU (R336). -/
def execLbu (a : MFmt) (s : State) : Result := load a 0x09#6 1 (fun v => BitVec.ofNat 32 v) s

/-- LH (R336). -/
def execLh (a : MFmt) (s : State) : Result := load a 0x0A#6 2 (fun v => (BitVec.ofNat 16 v).signExtend 32) s

/-- LHU (R336). -/
def execLhu (a : MFmt) (s : State) : Result := load a 0x0B#6 2 (fun v => BitVec.ofNat 32 v) s

/-- LW (R336). -/
def execLw (a : MFmt) (s : State) : Result := load a 0x0C#6 4 (fun v => BitVec.ofNat 32 v) s

/-- SB (R336). -/
def execSb (a : MFmt) (s : State) : Result := store a 0x0D#6 1 s

/-- SH (R336). -/
def execSh (a : MFmt) (s : State) : Result := store a 0x0E#6 2 s

/-- SW (R336). -/
def execSw (a : MFmt) (s : State) : Result := store a 0x0F#6 4 s

/-- VLD: the 32-byte word at s[RA] + IMM13 into v[RD bits 4:1]; RD bit 0 and IMM13 bits 4:0 zero (R337). -/
def execVld (a : MFmt) (s : State) : Result :=
  .next (s.issue a.tile a.env (a.word 0x38#6) (!a.rd.getLsbD 0 && bits a.imm.toNat 4 0 == 0) fun s c i =>
    let o := a.addr c a.imm
    if o % 32 ≠ 0 then .exc s 3 else
    loadBytes s a.tile i (c.bind a.h).1 o 32 a.env fun s bs =>
      .ok (s.modTc a.tile fun c => c.setV ((a.rd >>> 1).setWidth 4) (BitVec.ofNat 256 (leNat bs))) none)

/-- VST: v[RS bits 4:1] stored; IMM13 bit 2 is M, bits 1:0 select the predicate, bits 4:3 are zero (R337). The address
bits are IMM13 bits 12:5. -/
def execVst (a : MFmt) (s : State) : Result :=
  let m := a.imm.getLsbD 2
  .next (s.issue a.tile a.env (a.word 0x39#6)
      (!a.rd.getLsbD 0 && bits a.imm.toNat 4 3 == 0 && (m || bits a.imm.toNat 1 0 == 0)) fun s c i =>
    let o := a.addr c (a.imm &&& 0x1FE0#13)
    let p := c.pred (bits a.imm.toNat 1 0)
    if o % 32 ≠ 0 then .exc s 3 else
    let keep := fun k => !m || p.getLsbD k
    let whole := (List.range 4).all fun w =>
      (List.range 8).all (fun k => keep (8 * w + k)) || (List.range 8).all (fun k => !keep (8 * w + k))
    storeBytes s a.tile i (c.bind a.h).1 (c.bind a.h).2 o 32 keep
      (leBytes 32 (c.vreg ((a.rd >>> 1).setWidth 4)).toNat) whole a.env)

/-- Elements gathered into v[VD] from element 0, the bytes beyond them zero (R338). -/
def gather (a : GFmt) (w n stride : Nat) (s : State) (c : Tc) (i : Inst) : TcRes :=
  let base := (c.sreg a.ra).toNat
  let offs := (List.range n).map fun k => (base + k * stride) % 2 ^ 32
  gatherBytes s a.tile i (c.bind a.h).1 offs w a.env fun s els =>
    .ok (s.modTc a.tile fun c => c.setV a.vd (vof w (els.map leNat))) none

/-- VLDT: element i at s[RA] + i * s[RB] bytes, s[RB] a multiple of w; 16 elements for w = 1 or 2, 8 for w = 4 (R338). -/
def execVldt (a : GFmt) (s : State) : Result :=
  .next (s.issue a.tile a.env (a.word 0x3A#6) (a.w != 3#2) fun s c i =>
    let w := 2 ^ a.w.toNat
    let st := (c.sreg a.rb).toNat
    if (c.sreg a.ra).toNat % w ≠ 0 ∨ st % w ≠ 0 then .exc s 3
    else gather a w (if w = 4 then 8 else 16) st s c i)

/-- VLDS: element i at s[RA] + i * s[RB] * w bytes, s[RB] from 1 to 64 or ILLEGAL (R338). -/
def execVlds (a : GFmt) (s : State) : Result :=
  .next (s.issue a.tile a.env (a.word 0x3B#6) (a.w != 3#2) fun s c i =>
    let w := 2 ^ a.w.toNat
    let st := (c.sreg a.rb).toNat
    if st < 1 ∨ 64 < st then .exc s 1
    else if (c.sreg a.ra).toNat % w ≠ 0 then .exc s 3
    else gather a w (32 / w) (st * w) s c i)

end Sys2Proof.Machine
end

