-- ==== Sys2Proof/Machine/Pcie.lean ====
section
/-!
DEFINITION. The PCIe endpoint (R94, R98, R400 to R403, R435): its resets, its link, configuration requests and messages. The
register layout of the configuration space is the PCI and PCI Express specifications' (log entry 13).
-/

namespace Sys2Proof.Machine

/-- The endpoint and its configuration space reset (R94, R435): queued posted writes are lost; a function level reset leaves
the link as it is. -/
def State.endpointReset (s : State) (kind : PcieRst) : State :=
  let l0 := kind == .flr && s.pcie.l0
  let s := if l0 then s else s.clrRdy 2
  let s : State := { s with
    pcie := { l0 := l0, perstN := kind != .perst, speed := s.pcie.speed, width := s.pcie.width, credit := s.pcie.credit }
    ring := { s.ring with posted := [] }
    sys := { s.sys with pcieResets := satW s.sys.pcieResets } }
  s.logEv 0x0104 0xFFFF s.sys.pcieResets.toNat

/-- PCIE_RESET (R94). -/
def execPcieReset (kind : PcieRst) (s : State) : Result := .next (if s.aon.mainReset then s else s.endpointReset kind)

/-- Lanes of the endpoint by grade (R5, R400). -/
def Grade.pcieLanes : Grade → Nat
  | .dz4 => 2
  | .dz8 => 4
  | .dz16 => 8

/-- The greatest link width: the grade's, limited by PCIE_MAXW (R97, R400); a strap wider than the grade is as none. -/
def State.maxWidth (s : State) : Nat :=
  let w := match bits s.sys.straps.toNat 4 3 with
    | 0 => s.grade.pcieLanes
    | k => 2 ^ (k - 1)
  if s.grade.pcieLanes < w then s.grade.pcieLanes else w

/-- The greatest link speed: 4 for 16 GT/s, 3 for 8 GT/s under PCIE_GEN3 (R97, R400). -/
def State.maxSpeed (s : State) : Nat := if s.sys.straps.getLsbD 5 then 3 else 4

/-- What a training comes to (R400): any speed and any width of 1, 2, 4 or 8 lanes up to the greatest, as the other side of the
link allows: free values (log entry 10). -/
def State.trainPcie (s : State) : State :=
  let (f, s) := s.takeFree
  let ws := [1, 2, 4, 8].filter fun w => decide (w ≤ s.maxWidth)
  { s with pcie := { s.pcie with speed := 1 + f.toNat % s.maxSpeed, width := ws.getD (f.toNat / 16 % ws.length) 1 } }

/-- PCIE_LINK_L0 (R98): its SerDes PLL has locked (R82). -/
def execPcieLinkL0 (s : State) : Result :=
  .next (if s.aon.mainReset then s
    else
      let s : State := { s with pcie := { s.pcie with l0 := true, l2 := false, perstN := true }
                                sys := { s.sys with pcieSerdesLost := false } }
      (s.serdesLevel.setRdy 2).trainPcie.resumePosted)

/-- PCIE_LINK_LEAVE_L0 (R94, R98): in standby entry there is nothing left to wait for. -/
def execPcieLinkLeaveL0 (s : State) : Result :=
  .next (
    let s := s.leaveL0
    if s.aon.standby = .waitL2 then s.sleep else s)

/-- Device ID by grade (R400). -/
def Grade.deviceId (g : Grade) : Nat := 0xD200 + g.code

/-- Link Capabilities (R400): the greatest speed and width, ASPM L1 alone; the rest is open. -/
def State.linkCapWord (s : State) : Word :=
  BitVec.ofNat 32 (s.maxSpeed + 16 * s.maxWidth + 2 ^ 11 + 2 ^ 22) ||| (Config.pcieOpen 3 &&& 0xFF03F000#32)

/-- An Advanced Error Reporting register by its offset in the capability, the only extended one (R400): the header log is open. -/
def State.aerRead (s : State) (off : Nat) : Word × State :=
  let c := s.pcie
  match off with
  | 0x00 => (0x00020001#32, s)
  | 0x04 => (c.aerUncSta, s)
  | 0x08 => (c.aerUncMask, s)
  | 0x0C => (c.aerUncSev, s)
  | 0x10 => (c.aerCorSta, s)
  | 0x14 => (c.aerCorMask, s)
  | 0x18 => (if c.aerUncSta.getLsbD 20 then 20#32 else 0#32, s)
  | _ =>
    let (v, s) := s.takeFree
    (v.setWidth 32, s)

/-- The word that a configuration read returns (R400). What the base specification leaves to the device and R400 does not give is
open: a constant of `Config.pcieOpen`, or, at an offset with no register of R400, a free value (log entries 10 and 13). -/
def State.cfgRead (s : State) (r : CfgReg) : Word × State :=
  let c := s.pcie
  let h (x : Half) : Word := x.setWidth 32
  match r with
  | .command => (h c.command, s)
  | .status => (h (c.status ||| 0x10#16), s)
  | .cacheLine => (c.cacheLine.setWidth 32, s)
  | .intLine => (c.intLine.setWidth 32, s)
  | .bar0Lo => (c.bar0.setWidth 32 ||| 4#32, s)
  | .bar0Hi => ((c.bar0 >>> 32).setWidth 32, s)
  | .bar2Lo => (if s.sys.straps.getLsbD 0 then 0#32 else c.bar2.setWidth 32 ||| 4#32, s)
  | .bar2Hi => (if s.sys.straps.getLsbD 0 then 0#32 else (c.bar2 >>> 32).setWidth 32, s)
  | .capPtr => (Config.pcieOpen 0 &&& 0xFC#32, s)
  | .pmc => (0x00030001#32 ||| ((Config.pcieOpen 1 &&& 0xFC#32) <<< 8), s)
  | .pmcsr => (BitVec.ofNat 32 (8 + c.dstate), s)
  | .pcieCap => (0x00020010#32, s)
  | .devCap => (0x10008001#32 ||| (Config.pcieOpen 2 &&& 0x00000FC0#32), s)
  | .devCtl => (h c.devCtl, s)
  | .devSta => (BitVec.ofNat 32 (c.devSta % 16), s)
  | .linkCap => (s.linkCapWord, s)
  | .linkCtl => (h c.linkCtl, s)
  | .linkSta => (BitVec.ofNat 32 (if c.l0 then c.speed + 16 * c.width else 0), s)
  | .devCap2 => (Config.pcieOpen 4, s)
  | .devCtl2 => (h c.devCtl2, s)
  | .linkCap2 => (BitVec.ofNat 32 (2 * (2 ^ s.maxSpeed - 1)), s)
  | .linkCtl2 => (h c.linkCtl2, s)
  | .aer off => s.aerRead off
  | .other off =>
    match off with
    | 0x00 => (BitVec.ofNat 32 (0xC3E1 + s.grade.deviceId * 2 ^ 16), s)
    | 0x08 => (0x12000010#32, s)
    | 0x2C => (BitVec.ofNat 32 (0xC3E1 + s.grade.deviceId * 2 ^ 16), s)
    | 0x20 | 0x24 | 0x28 | 0x30 | 0x38 => (0#32, s)
    | _ =>
      let (v, s) := s.takeFree
      (v.setWidth 32, s)

/-- Device Control as a write leaves it: a Max_Payload_Size above 256 bytes is not taken (R400). -/
def devCtlWrite (old v : Half) : Half :=
  if bits v.toNat 7 5 ≤ 1 then v &&& 0x7FFF#16 else (v &&& 0x7F1F#16) ||| (old &&& 0xE0#16)

/-- Link Control as a write leaves it: ASPM L0s is not supported, so its enable stays 0 (R400). -/
def linkCtlWrite (v : Half) : Half := v &&& 0xFFFE#16

/-- A write of an Advanced Error Reporting register: the status registers are write-1-to-clear. -/
def State.aerWrite (s : State) (off : Nat) (v : Word) : State :=
  let c := s.pcie
  match off with
  | 0x04 => { s with pcie := { c with aerUncSta := c.aerUncSta &&& ~~~v } }
  | 0x08 => { s with pcie := { c with aerUncMask := v } }
  | 0x0C => { s with pcie := { c with aerUncSev := v } }
  | 0x10 => { s with pcie := { c with aerCorSta := c.aerCorSta &&& ~~~v } }
  | 0x14 => { s with pcie := { c with aerCorMask := v } }
  | _ => s

/-- A configuration write (R400, R402): what it lets flow goes on. -/
def State.cfgWrite (s : State) (r : CfgReg) (v : Word) : State :=
  let c := s.pcie
  let h : Half := v.setWidth 16
  let locked := s.sys.straps.getLsbD 0
  match r with
  | .command => ({ s with pcie := { c with command := h &&& 0x546#16 } } : State).resumePosted
  | .status => { s with pcie := { c with status := c.status &&& ~~~h } }
  | .cacheLine => { s with pcie := { c with cacheLine := v.setWidth 8 } }
  | .intLine => { s with pcie := { c with intLine := v.setWidth 8 } }
  | .bar0Lo => { s with pcie := { c with bar0 := putHalf c.bar0 false (v &&& 0xFFC00000#32) } }
  | .bar0Hi => { s with pcie := { c with bar0 := putHalf c.bar0 true v } }
  | .bar2Lo => if locked then s else { s with pcie := { c with bar2 := putHalf c.bar2 false (v &&& 0xFC000000#32) } }
  | .bar2Hi => if locked then s else { s with pcie := { c with bar2 := putHalf c.bar2 true v } }
  | .pmcsr =>
    let d := bits v.toNat 1 0
    if d = 0 ∨ d = 3 then ({ s with pcie := { c with dstate := d } } : State).resumePosted else s
  | .devCtl =>
    if h.getLsbD 15 then s.endpointReset .flr else { s with pcie := { c with devCtl := devCtlWrite c.devCtl h } }
  | .devSta => { s with pcie := { c with devSta := (BitVec.ofNat 4 c.devSta &&& ~~~v.setWidth 4).toNat } }
  | .linkCtl => { s with pcie := { c with linkCtl := linkCtlWrite h } }
  | .linkCtl2 => { s with pcie := { c with linkCtl2 := h } }
  | .devCtl2 => { s with pcie := { c with devCtl2 := h } }
  | .aer off => s.aerWrite off v
  | .capPtr | .pmc | .pcieCap | .devCap | .linkCap | .linkSta | .devCap2 | .linkCap2 | .other _ => s

/-- PCIE_CONFIG_REQUEST (R400, R403): served in D0 and D3hot while the link is up. -/
def execPcieConfigRequest (a : CfgIn) (s : State) : Result :=
  .next (if s.aon.mainReset || !s.pcie.l0 then s
    else if a.write then
      let s := s.cfgWrite a.reg a.value
      { s with out := { s.out with data := [], status := 0 } }
    else
      let r := s.cfgRead a.reg
      { r.2 with out := { r.2.out with data := [r.1], status := 0 } })

/-- PCIE_UNSUPPORTED_REQUEST (R401, R403): a request of another type, or a memory request in D3hot: one that gets a completion
is completed with Unsupported Request, behind posted writes already queued; a posted one has none. -/
def execPcieUnsupportedRequest (s : State) (posted : Bool := false) : Result :=
  .next (if s.aon.mainReset || !s.pcie.l0 then s
    else if posted then s.unsupported true
    else (s.unsupported false).complete .bar0 [] 1)

/-- PME_TURN_OFF (R86, R401): answered with PME_TO_Ack (code 0x1B) during standby entry, and the link goes to L2 once the flush
is over. -/
def execPmeTurnOff (s : State) : Result :=
  .next (
    if !s.pcie.l0 || !(s.aon.standby == .flushing || s.aon.standby == .waitL2) then s
    else
      let s : State := { s with pcie := { s.pcie with pmeAck := true }, out := { s.out with msgs := 0x1B :: s.out.msgs } }
      if s.aon.standby = .waitL2 then s.standbyLink else s)

end Sys2Proof.Machine
end

