-- ==== Sys2Proof/Machine/Pins.lean ====
section
/-!
DEFINITION. The levels of the low-speed output pins (R571, with R53, R77, R84, R114, R117, R407, R474), read off the state.
-/

namespace Sys2Proof.Machine

/-- The low-speed output pins and interfaces of R571. -/
inductive OutPin where
  | pwrEnMain | thermShdnN | safeToggle
  /-- CRS0_UP, CRS1_UP -/
  | crsUp (k : Nat)
  | spiMiso | xspi | emmc | ddrResetN
deriving DecidableEq, Repr

/-- What a pin shows: a level, high impedance, an interface in its idle levels or driven by transfers, or nothing, its supply
being off. -/
inductive PinLevel where
  | low | high | hiZ | idle | driven | undriven
deriving DecidableEq, Repr

/-- A driven level. -/
def pinLevel (b : Bool) : PinLevel := if b then .high else .low

/-- Does the xSPI bus carry something: the load, a flush, an erase (R571)? -/
def State.xspiBusy (s : State) : Bool :=
  s.evr.flushing || s.evr.arm == .erasing || (s.ready 8 && !s.img.finished && !s.img.stopped)

/-- The level of an output pin in each column of R571: main domain in reset, running, retention standby. -/
def State.pin (s : State) (p : OutPin) : PinLevel :=
  if s.aon.aonReset then .undriven
  else match p with
    | .pwrEnMain => pinLevel s.aon.pwrEnMain
    | .thermShdnN => if s.aon.thermShdnN then .hiZ else .low
    | _ =>
      if s.aon.standby = .asleep then .undriven
      else match p with
        | .safeToggle => pinLevel (!s.aon.mainReset && s.pen.safeToggle)
        | .crsUp k => pinLevel (s.crsUp k)
        | .spiMiso => if s.aon.mainReset || s.out.miso.isEmpty then .hiZ else .driven
        | .xspi => if !s.flashPinsDriven then .hiZ else if s.xspiBusy then .driven else .idle
        | .emmc =>
          if !s.flashPinsDriven || s.bootSrc != 1 then .hiZ
          else if s.img.finished || s.img.stopped then .idle else .driven
        | .ddrResetN => pinLevel (!s.aon.mainReset && s.ready 0)
        | _ => .undriven

end Sys2Proof.Machine
end

