-- ==== Sys2Proof/Machine/Scalar.lean ====
section
/-!
DEFINITION. The scalar instructions of the tile core (R333, R334), context registers (R329) and NOP (R332).
-/

namespace Sys2Proof.Machine

/-- A scalar ALU instruction: s[RD] from s[RA] and s[RB] (R333). -/
def aluR (a : RFmt) (fn : BitVec 11) (legal : Bool) (f : Word → Word → Word) (s : State) : Result :=
  .next (s.issueReg a.tile a.env (a.word 0x00#6 fn) legal fun c => c.setS a.rd (f (c.sreg a.ra) (c.sreg a.rb)))

/-- An immediate instruction: s[RD] from s[RA] and IMM16 (R333). -/
def aluI (a : IFmt) (op : BitVec 6) (legal : Bool) (f : Word → Half → Word) (s : State) : Result :=
  .next (s.issueReg a.tile a.env (a.word op) legal fun c => c.setS a.rd (f (c.sreg a.ra) a.imm))

/-- A set-if result. -/
def flagWord (b : Bool) : Word := if b then 1#32 else 0#32

/-- Signed quotient rounded toward zero; divisor 0 gives all ones (R333). -/
def divS (x y : Word) : Word := if y = 0#32 then 0xFFFFFFFF#32 else x.sdiv y
/-- Unsigned quotient; divisor 0 gives all ones (R333). -/
def divU (x y : Word) : Word := if y = 0#32 then 0xFFFFFFFF#32 else x / y
/-- Remainder with the dividend's sign; divisor 0 gives the dividend (R333). -/
def remS (x y : Word) : Word := if y = 0#32 then x else x.srem y
/-- Unsigned remainder; divisor 0 gives the dividend (R333). -/
def remU (x y : Word) : Word := if y = 0#32 then x else x % y
/-- Leading zeros, 32 for 0 (R333). -/
def clz (x : Word) : Word := if x = 0#32 then 32#32 else BitVec.ofNat 32 (31 - Nat.log2 x.toNat)
/-- Set bits (R333). -/
def popc (x : Word) : Word := BitVec.ofNat 32 (((List.range 32).filter fun i => x.getLsbD i).length)
/-- The immediate shift: by bits 4:0, SLL, SRL or SRA for bits 6:5 = 0, 1 or 2 (R333). -/
def shiftImm (x : Word) (imm : Half) : Word :=
  let n := bits imm.toNat 4 0
  match bits imm.toNat 6 5 with
  | 0 => x <<< n
  | 1 => x >>> n
  | _ => x.sshiftRight n

/-- ADD (R333). -/
def execAdd (a : RFmt) (s : State) : Result := aluR a 0x000#11 true (fun x y => x + y) s

/-- SUB (R333). -/
def execSub (a : RFmt) (s : State) : Result := aluR a 0x001#11 true (fun x y => x - y) s

/-- AND (R333). -/
def execAnd (a : RFmt) (s : State) : Result := aluR a 0x002#11 true (fun x y => x &&& y) s

/-- OR (R333). -/
def execOr (a : RFmt) (s : State) : Result := aluR a 0x003#11 true (fun x y => x ||| y) s

/-- XOR (R333). -/
def execXor (a : RFmt) (s : State) : Result := aluR a 0x004#11 true (fun x y => x ^^^ y) s

/-- SLL (R333). -/
def execSll (a : RFmt) (s : State) : Result := aluR a 0x005#11 true (fun x y => x <<< (y.toNat % 32)) s

/-- SRL (R333). -/
def execSrl (a : RFmt) (s : State) : Result := aluR a 0x006#11 true (fun x y => x >>> (y.toNat % 32)) s

/-- SRA (R333). -/
def execSra (a : RFmt) (s : State) : Result := aluR a 0x007#11 true (fun x y => x.sshiftRight (y.toNat % 32)) s

/-- SLT (R333). -/
def execSlt (a : RFmt) (s : State) : Result := aluR a 0x008#11 true (fun x y => flagWord (x.slt y)) s

/-- SLTU (R333). -/
def execSltu (a : RFmt) (s : State) : Result := aluR a 0x009#11 true (fun x y => flagWord (x.ult y)) s

/-- MIN (R333). -/
def execMin (a : RFmt) (s : State) : Result := aluR a 0x00A#11 true (fun x y => if y.slt x then y else x) s

/-- MAX (R333). -/
def execMax (a : RFmt) (s : State) : Result := aluR a 0x00B#11 true (fun x y => if x.slt y then y else x) s

/-- MINU (R333). -/
def execMinu (a : RFmt) (s : State) : Result := aluR a 0x00C#11 true (fun x y => if y.ult x then y else x) s

/-- MAXU (R333). -/
def execMaxu (a : RFmt) (s : State) : Result := aluR a 0x00D#11 true (fun x y => if x.ult y then y else x) s

/-- MUL (R333). -/
def execMul (a : RFmt) (s : State) : Result := aluR a 0x010#11 true (fun x y => x * y) s

/-- MULH (R333). -/
def execMulh (a : RFmt) (s : State) : Result := aluR a 0x011#11 true (fun x y => BitVec.ofInt 32 (x.toInt * y.toInt / 2 ^ 32)) s

/-- MULHU (R333). -/
def execMulhu (a : RFmt) (s : State) : Result := aluR a 0x012#11 true (fun x y => BitVec.ofNat 32 (x.toNat * y.toNat / 2 ^ 32)) s

/-- DIV (R333). -/
def execDiv (a : RFmt) (s : State) : Result := aluR a 0x014#11 true (fun x y => divS x y) s

/-- DIVU (R333). -/
def execDivu (a : RFmt) (s : State) : Result := aluR a 0x015#11 true (fun x y => divU x y) s

/-- REM (R333). -/
def execRem (a : RFmt) (s : State) : Result := aluR a 0x016#11 true (fun x y => remS x y) s

/-- REMU (R333). -/
def execRemu (a : RFmt) (s : State) : Result := aluR a 0x017#11 true (fun x y => remU x y) s

/-- CLZ: RB is zero (R333). -/
def execClz (a : RFmt) (s : State) : Result :=
  aluR a 0x020#11 (a.rb == 0#5) (fun x _ => clz x) s

/-- POPC: RB is zero (R333). -/
def execPopc (a : RFmt) (s : State) : Result :=
  aluR a 0x021#11 (a.rb == 0#5) (fun x _ => popc x) s

/-- ADDI (R333). -/
def execAddi (a : IFmt) (s : State) : Result := aluI a 0x01#6 true (fun x imm => x + imm.signExtend 32) s

/-- ANDI (R333). -/
def execAndi (a : IFmt) (s : State) : Result := aluI a 0x02#6 true (fun x imm => x &&& imm.setWidth 32) s

/-- ORI (R333). -/
def execOri (a : IFmt) (s : State) : Result := aluI a 0x03#6 true (fun x imm => x ||| imm.setWidth 32) s

/-- XORI (R333). -/
def execXori (a : IFmt) (s : State) : Result := aluI a 0x04#6 true (fun x imm => x ^^^ imm.setWidth 32) s

/-- SLTI (R333). -/
def execSlti (a : IFmt) (s : State) : Result := aluI a 0x05#6 true (fun x imm => flagWord (x.slt (imm.signExtend 32))) s

/-- LUI: IMM16 << 16; RA must be zero (R333). -/
def execLui (a : IFmt) (s : State) : Result :=
  aluI a 0x06#6 (a.ra == 0#5) (fun _ imm => imm.setWidth 32 <<< 16) s

/-- SHI: a shift by an immediate; IMM16 bits 15:7 must be zero and bits 6:5 not 3 (R333). -/
def execShi (a : IFmt) (s : State) : Result :=
  aluI a 0x07#6 (bits a.imm.toNat 15 7 == 0 && bits a.imm.toNat 6 5 != 3) (fun x imm => shiftImm x imm) s

/-- A branch: to its own address + 4 * OFF16 if the condition holds (R334). -/
def branch (a : BFmt) (op : BitVec 6) (cond : Word → Word → Bool) (s : State) : Result :=
  .next (s.issue a.tile a.env (a.word op) true fun s c _ =>
    .ok s (if cond (c.sreg a.ra) (c.sreg a.rb) then some (c.pc + a.off * 4) else none))

/-- BEQ (R334). -/
def execBeq (a : BFmt) (s : State) : Result := branch a 0x10#6 (fun x y => x == y) s

/-- BNE (R334). -/
def execBne (a : BFmt) (s : State) : Result := branch a 0x11#6 (fun x y => x != y) s

/-- BLT (R334). -/
def execBlt (a : BFmt) (s : State) : Result := branch a 0x12#6 (fun x y => x.slt y) s

/-- BGE (R334). -/
def execBge (a : BFmt) (s : State) : Result := branch a 0x13#6 (fun x y => !x.slt y) s

/-- BLTU (R334). -/
def execBltu (a : BFmt) (s : State) : Result := branch a 0x14#6 (fun x y => x.ult y) s

/-- BGEU (R334). -/
def execBgeu (a : BFmt) (s : State) : Result := branch a 0x15#6 (fun x y => !x.ult y) s

/-- JAL: the address after itself to s[RD], then to its own address + 4 * OFF21 (R334). -/
def execJal (a : JFmt) (s : State) : Result :=
  .next (s.issue a.tile a.env (a.word 0x16#6) true fun s c _ =>
    .ok (s.modTc a.tile fun c => c.setS a.rd ((c.pc + 4).setWidth 32))
      (some (c.pc + (a.off.signExtend 32 * 4).setWidth 16)))

/-- JALR: to s[RA] + IMM16; a misaligned target raises IFETCH, and s[RD] is not written (R334). -/
def execJalr (a : IFmt) (s : State) : Result :=
  .next (s.issue a.tile a.env (a.word 0x17#6) true fun s c _ =>
    let target := c.sreg a.ra + a.imm.signExtend 32
    if target.toNat % 4 ≠ 0 then .exc s 2
    else .ok (s.modTc a.tile fun c => c.setS a.rd ((c.pc + 4).setWidth 32)) (some (target.setWidth 16)))

/-- The mesh samples NOW between the issue of CSRR and its result, at most 16 tile-core cycles later (R329): when is a free
value (log entry 10). -/
def nowDelay (s : State) : Nat := s.takeFree.1.toNat % 17

/-- A context register (R329); every number not listed reads as zero. -/
def csrValue (s : State) (t n : Nat) (i : Inst) (c : Tc) : Word :=
  match n with
  | 0x000 => BitVec.ofNat 32 t
  | 0x001 => BitVec.ofNat 32 s.grade.code
  | 0x010 => BitVec.ofNat 32 (i.id % 65536)
  | 0x011 => BitVec.ofNat 32 i.job.job
  | 0x012 => BitVec.ofNat 32 i.job.net
  | 0x013 => BitVec.ofNat 32 i.job.cls
  | 0x014 => BitVec.ofNat 32 i.job.stream
  | 0x015 => BitVec.ofNat 32 i.job.extra.length
  | 0x016 => BitVec.ofNat 32 i.slot
  | 0x017 => i.period
  | 0x018 => BitVec.ofNat 32 (i.r.getD i.b - i.b)
  | 0x019 => BitVec.ofNat 32 (i.job.deadlineUs * 1000)
  | 0x020 => BitVec.ofNat 32 c.cyc
  | 0x021 => BitVec.ofNat 32 (s.now + nowDelay s - i.b)
  | 0x030 => BitVec.ofNat 32 (b2n c.fpInvalid + 2 * b2n c.fpOverflow)
  | _ => 0#32

/-- CSRR: RA must be zero; a read of FPFLAGS clears them (R329). -/
def execCsrr (a : IFmt) (s : State) : Result :=
  .next (s.issue a.tile a.env (a.word 0x18#6) (a.ra == 0#5) fun s c i =>
    let n := a.imm.toNat
    let v := csrValue s a.tile n i c
    let s := if n = 0x021 then s.takeFree.2 else s
    .ok (s.modTc a.tile fun c =>
      let c := if n = 0x030 then { c with fpInvalid := false, fpOverflow := false } else c
      c.setS a.rd v) none)

/-- NOP (R332). -/
def execNop (a : RFmt) (s : State) : Result :=
  .next (s.issueReg a.tile a.env (a.word 0x19#6 0x000#11) (a.rd == 0#5 && a.ra == 0#5 && a.rb == 0#5) id)

end Sys2Proof.Machine
end

