-- ==== Sys2Proof/Machine/Vector.lean ====
section
/-!
DEFINITION. The vector, vector-scalar and predicate instructions of the tile core (R339 to R347).
-/

namespace Sys2Proof.Machine

/-- PG is used only with M; unused fields are zero (R331, R332, R340). -/
def pgOk (m : Bool) (pg : BitVec 2) : Bool := m || pg == 0#2

/-- A vector integer operation, element by element (R342). -/
def vInt (a : VFmt) (fn : BitVec 9) (legal : Bool) (f : Nat → Nat → Nat → Nat) (s : State) : Result :=
  let w := (intW a.w).getD 1
  .next (s.issueReg a.tile a.env (a.word 0x30#6 fn) (legal && a.w != 3#2 && pgOk a.m a.pg) fun c =>
    c.setV a.vd (vmap a.m (c.pred a.pg.toNat) w (c.vreg a.vd) fun k =>
      f w (vget w (c.vreg a.va) k) (vget w (c.vreg a.vb) k)))

/-- The sticky flags of the active elements' results (R341). -/
def Tc.raise (c : Tc) (l : List FRes) : Tc :=
  { c with fpInvalid := c.fpInvalid || l.any (·.inv), fpOverflow := c.fpOverflow || l.any (·.ovf) }

/-- A vector floating-point operation: element results from d, a and b, rounded once, with FPFLAGS of the active ones
(R341, R342). -/
def vFloat (a : VFmt) (fn : BitVec 9) (legal : Bool) (f : FFmt → Nat → Nat → Nat → FRes) (s : State) : Result :=
  let ft := (floatW a.w).getD fp16
  let w := ft.width / 8
  .next (s.issueReg a.tile a.env (a.word 0x31#6 fn) (legal && a.w != 3#2 && pgOk a.m a.pg) fun c =>
    let r := fun k => f ft (vget w (c.vreg a.vd) k) (vget w (c.vreg a.va) k) (vget w (c.vreg a.vb) k)
    let act := (List.range (vcount w)).filter (active a.m (c.pred a.pg.toNat) w)
    (c.setV a.vd (vmap a.m (c.pred a.pg.toNat) w (c.vreg a.vd) fun k => (r k).bits)).raise (act.map r))

/-- VADD (R342). -/
def execVadd (a : VFmt) (s : State) : Result := vInt a 0x00#9 true eAdd s

/-- VSUB (R342). -/
def execVsub (a : VFmt) (s : State) : Result := vInt a 0x01#9 true eSub s

/-- VMUL (R342). -/
def execVmul (a : VFmt) (s : State) : Result := vInt a 0x02#9 true eMul s

/-- VMULH (R342). -/
def execVmulh (a : VFmt) (s : State) : Result := vInt a 0x03#9 true eMulh s

/-- VMIN (R342). -/
def execVmin (a : VFmt) (s : State) : Result := vInt a 0x04#9 true eMin s

/-- VMAX (R342). -/
def execVmax (a : VFmt) (s : State) : Result := vInt a 0x05#9 true eMax s

/-- VMINU (R342). -/
def execVminu (a : VFmt) (s : State) : Result := vInt a 0x06#9 true eMinu s

/-- VMAXU (R342). -/
def execVmaxu (a : VFmt) (s : State) : Result := vInt a 0x07#9 true eMaxu s

/-- VAND (R342). -/
def execVand (a : VFmt) (s : State) : Result := vInt a 0x08#9 true eAnd s

/-- VOR (R342). -/
def execVor (a : VFmt) (s : State) : Result := vInt a 0x09#9 true eOr s

/-- VXOR (R342). -/
def execVxor (a : VFmt) (s : State) : Result := vInt a 0x0A#9 true eXor s

/-- VSLL (R342). -/
def execVsll (a : VFmt) (s : State) : Result := vInt a 0x0B#9 true eSll s

/-- VSRA (R342). -/
def execVsra (a : VFmt) (s : State) : Result := vInt a 0x0C#9 true eSra s

/-- VSRL (R342). -/
def execVsrl (a : VFmt) (s : State) : Result := vInt a 0x0D#9 true eSrl s

/-- VADDS (R342). -/
def execVadds (a : VFmt) (s : State) : Result := vInt a 0x0E#9 true eAdds s

/-- VSUBS (R342). -/
def execVsubs (a : VFmt) (s : State) : Result := vInt a 0x0F#9 true eSubs s

/-- VABS: saturating; VB zero (R342). -/
def execVabs (a : VFmt) (s : State) : Result := vInt a 0x10#9 (a.vb == 0#4) eAbs s

/-- VSEL: a where the predicate element is 1, otherwise b; M must be 1, and every element is written (R342). -/
def execVsel (a : VFmt) (s : State) : Result :=
  let w := (intW a.w).getD 1
  .next (s.issueReg a.tile a.env (a.word 0x30#6 0x11#9) (a.m && a.w != 3#2) fun c =>
    c.setV a.vd (vof w ((List.range (vcount w)).map fun k =>
      if active true (c.pred a.pg.toNat) w k then vget w (c.vreg a.va) k else vget w (c.vreg a.vb) k)))

/-- VRSRA (R342). -/
def execVrsra (a : VFmt) (s : State) : Result := vInt a 0x12#9 true eRsra s

/-- VFADD (R342). -/
def execVfadd (a : VFmt) (s : State) : Result := vFloat a 0x00#9 true (fun f _ x y => fadd f x y) s

/-- VFSUB (R342). -/
def execVfsub (a : VFmt) (s : State) : Result := vFloat a 0x01#9 true (fun f _ x y => fsub f x y) s

/-- VFMUL (R342). -/
def execVfmul (a : VFmt) (s : State) : Result := vFloat a 0x02#9 true (fun f _ x y => fmul f x y) s

/-- VFMA: d + a * b (R342). -/
def execVfma (a : VFmt) (s : State) : Result := vFloat a 0x03#9 true (fun f d x y => ffma f d x y) s

/-- VFMIN (R342). -/
def execVfmin (a : VFmt) (s : State) : Result := vFloat a 0x04#9 true (fun f _ x y => fminmax f false x y) s

/-- VFMAX (R342). -/
def execVfmax (a : VFmt) (s : State) : Result := vFloat a 0x05#9 true (fun f _ x y => fminmax f true x y) s

/-- VFRCP: VB zero (R342). -/
def execVfrcp (a : VFmt) (s : State) : Result := vFloat a 0x06#9 (a.vb == 0#4) (fun f _ x _ => frcp f x) s

/-- VFEXP2: VB zero (R342). -/
def execVfexp2 (a : VFmt) (s : State) : Result := vFloat a 0x07#9 (a.vb == 0#4) (fun f _ x _ => fexp2 f x) s

/-- Is FN a comparison of R343 that W admits? -/
def cmpLegal (a : VFmt) : Bool := decide (a.vd.toNat < 4) && a.w != 3#2 && pgOk a.m a.pg &&
  (decide (a.fn.toNat ≤ 5) || (decide (8 ≤ a.fn.toNat) && decide (a.fn.toNat ≤ 10)))

/-- VCMP: predicate VD bits 1:0, every lane bit of an element from its comparison, 0 for an inactive one (R340, R343). -/
def execVcmp (a : VFmt) (s : State) : Result :=
  .next (s.issueReg a.tile a.env (a.word 0x32#6 a.fn) (cmpLegal a) fun c =>
    let p := c.pred a.pg.toNat
    if a.fn.toNat ≤ 5 then
      let w := (intW a.w).getD 1
      c.setP a.vd.toNat (predOf w fun k => active a.m p w k &&
        (cmpInt a.fn.toNat w (vget w (c.vreg a.va) k) (vget w (c.vreg a.vb) k)).getD false)
    else
      let ft := (floatW a.w).getD fp16
      let w := ft.width / 8
      let r := fun k => (cmpFloat ft a.fn.toNat (vget w (c.vreg a.va) k) (vget w (c.vreg a.vb) k)).getD (false, false)
      let c' := c.setP a.vd.toNat (predOf w fun k => active a.m p w k && (r k).1)
      { c' with fpInvalid := c.fpInvalid || ((List.range (vcount w)).filter (active a.m p w)).any fun k => (r k).2 })

/-- Does the conversion use VB: only the packs do (R344)? -/
def cvtUsesB (fn : Nat) : Bool := fn == 4 || fn == 5 || fn == 10 || fn == 13

/-- VCVT: W must be zero; inactive elements of the result's width keep their value (R340, R344). -/
def execVcvt (a : VFmt) (s : State) : Result :=
  .next (s.issueReg a.tile a.env (a.word 0x33#6 a.fn)
      (a.w == 0#2 && decide (a.fn.toNat ≤ 15) && pgOk a.m a.pg && (cvtUsesB a.fn.toNat || a.vb == 0#4)) fun c =>
    match convert a.fn.toNat (c.vreg a.va) (c.vreg a.vb) with
    | none => c
    | some (w, l) =>
      let p := c.pred a.pg.toNat
      let act := (List.range (vcount w)).filter (active a.m p w)
      (c.setV a.vd (vmap a.m p w (c.vreg a.vd) fun k => (l.getD k { bits := 0 }).bits)).raise
        (act.map fun k => l.getD k { bits := 0 }))

/-- VSHUF: W zero (R345). -/
def execVshuf (a : VFmt) (s : State) : Result :=
  .next (s.issueReg a.tile a.env (a.word 0x34#6 0x0#9) (a.w == 0#2 && pgOk a.m a.pg) fun c =>
    let r := vshuf (c.vreg a.va) (c.vreg a.vb)
    c.setV a.vd (vmap a.m (c.pred a.pg.toNat) 1 (c.vreg a.vd) (vget 1 r)))

/-- VCOMP: M must be 1; VB zero (R345). -/
def execVcomp (a : VFmt) (s : State) : Result :=
  let w := (intW a.w).getD 1
  .next (s.issueReg a.tile a.env (a.word 0x34#6 0x1#9) (a.m && a.w != 3#2 && a.vb == 0#4) fun c =>
    c.setV a.vd (vcomp (c.pred a.pg.toNat) w (c.vreg a.va)))

/-- A sort result of 8 INT32 elements; W must be 2 (R345). -/
def sortOp (a : VFmt) (fn : BitVec 9) (legal : Bool) (f : List Nat → List Nat → List Nat) (s : State) : Result :=
  .next (s.issueReg a.tile a.env (a.word 0x34#6 fn) (legal && a.w == 2#2 && pgOk a.m a.pg) fun c =>
    let l := f (velems 4 (c.vreg a.va)) (velems 4 (c.vreg a.vb))
    c.setV a.vd (vmap a.m (c.pred a.pg.toNat) 4 (c.vreg a.vd) fun k => l.getD k 0))

/-- VSORT: descending signed order; VB zero (R345). -/
def execVsort (a : VFmt) (s : State) : Result := sortOp a 0x2#9 (a.vb == 0#4) (fun x _ => sortDesc x) s

/-- VMRGH: the highest 8 of 16, descending (R345). -/
def execVmrgh (a : VFmt) (s : State) : Result := sortOp a 0x3#9 true (fun x y => (sortDesc (x ++ y)).take 8) s

/-- VMRGL: the lowest 8 of 16, descending (R345). -/
def execVmrgl (a : VFmt) (s : State) : Result := sortOp a 0x4#9 true (fun x y => (sortDesc (x ++ y)).drop 8) s

/-- VBCAST: every active element from the low bits of s[RS]; V2 zero (R346). -/
def execVbcast (a : XFmt) (s : State) : Result :=
  let w := (intW a.w).getD 1
  .next (s.issueReg a.tile a.env (a.word 0x35#6 0x00#8) (a.w != 3#2 && a.v2 == 0#4 && pgOk a.m a.pg) fun c =>
    c.setV a.v1 (vmap a.m (c.pred a.pg.toNat) w (c.vreg a.v1) fun _ => (c.sreg a.rs).toNat % 2 ^ (8 * w)))

/-- VEXT: element 0 sign-extended; V2 and M zero (R346). -/
def execVext (a : XFmt) (s : State) : Result :=
  let w := (intW a.w).getD 1
  .next (s.issueReg a.tile a.env (a.word 0x35#6 0x01#8) (a.w != 3#2 && a.v2 == 0#4 && !a.m && a.pg == 0#2) fun c =>
    c.setS a.rs (toWord (sgn w (vget w (c.vreg a.v1) 0))))

/-- A reduction of the active elements into s[RS]; V2 zero (R346). -/
def reduce (a : XFmt) (fn : BitVec 8) (f : Nat → List (Nat × Nat) → Word) (s : State) : Result :=
  let w := (intW a.w).getD 1
  .next (s.issueReg a.tile a.env (a.word 0x35#6 fn) (a.w != 3#2 && a.v2 == 0#4 && pgOk a.m a.pg) fun c =>
    c.setS a.rs (f w (activeElems a.m (c.pred a.pg.toNat) w (c.vreg a.v1))))

/-- VRMAX (R346). -/
def execVrmax (a : XFmt) (s : State) : Result := reduce a 0x02#8 (fun w l => toWord (reduceMax w l)) s

/-- VRMIN (R346). -/
def execVrmin (a : XFmt) (s : State) : Result := reduce a 0x03#8 (fun w l => toWord (reduceMin w l)) s

/-- VRADD (R346). -/
def execVradd (a : XFmt) (s : State) : Result := reduce a 0x04#8 (fun w l => toWord (reduceAdd w l)) s

/-- VRARGMAX (R346). -/
def execVrargmax (a : XFmt) (s : State) : Result := reduce a 0x05#8 (fun w l => BitVec.ofNat 32 (argMax w l)) s

/-- VCNT: M must be 1; V1 and V2 zero (R346). -/
def execVcnt (a : XFmt) (s : State) : Result :=
  let w := (intW a.w).getD 1
  .next (s.issueReg a.tile a.env (a.word 0x35#6 0x06#8) (a.m && a.w != 3#2 && a.v1 == 0#4 && a.v2 == 0#4) fun c =>
    c.setS a.rs (BitVec.ofNat 32 (activeElems true (c.pred a.pg.toNat) w 0#256).length))

/-- The scratchpad words in which the looked-up bytes of a VLUT8 lie (R266, R346). -/
def lutWords (s : State) (a : XFmt) (i : Inst) (h : Half) (base : Nat) (c : Tc) : List Nat :=
  match access s a.tile i h base 256 false with
  | .ok addrs => wordsAt (((List.range 32).filter (active a.m (c.pred a.pg.toNat) 1)).map fun k =>
      addrs.getD (vget 1 (c.vreg a.v2) k) 0)
  | .error _ => []

/-- VLUT8: bytes of the 256-byte table at s[RS] & 0xFFFF_FF00 of binding s[RS] bits 2:0; s[RS] bits 7:3 and W zero (R346). -/
def execVlut8 (a : XFmt) (s : State) : Result :=
  .next (s.issue a.tile a.env (a.word 0x35#6 0x07#8) (a.w == 0#2 && pgOk a.m a.pg) fun s c i =>
    let r := (c.sreg a.rs).toNat
    if bits r 7 3 ≠ 0 then .exc s 1 else
    let h := (c.bind (BitVec.ofNat 3 r)).1
    let ws := lutWords s a i h (r / 256 * 256) c
    loadBytes s a.tile i h (r / 256 * 256) 256 a.env fun s tab =>
      .ok ((s.modSpm a.tile fun p => p.conflictC ws).modTc a.tile fun c => c.setV a.v1 (vmap a.m (c.pred a.pg.toNat) 1 (c.vreg a.v1) fun k =>
        (tab.getD (vget 1 (c.vreg a.v2) k) 0#8).toNat)) none)

/-- A predicate field: bits 4:2 zero (R347). -/
def pOk (r : BitVec 5) : Bool := decide (r.toNat < 4)

/-- A predicate operation on two predicates (R347). -/
def predOp (a : RFmt) (fn : BitVec 11) (legal : Bool) (f : Word → Word → Word) (s : State) : Result :=
  .next (s.issueReg a.tile a.env (a.word 0x36#6 fn) (legal && pOk a.rd && pOk a.ra) fun c =>
    c.setP a.rd.toNat (f (c.pred a.ra.toNat) (c.pred a.rb.toNat)))

/-- PAND (R347). -/
def execPand (a : RFmt) (s : State) : Result := predOp a 0#11 (pOk a.rb) (fun x y => x &&& y) s

/-- POR (R347). -/
def execPor (a : RFmt) (s : State) : Result := predOp a 1#11 (pOk a.rb) (fun x y => x ||| y) s

/-- PXOR (R347). -/
def execPxor (a : RFmt) (s : State) : Result := predOp a 2#11 (pOk a.rb) (fun x y => x ^^^ y) s

/-- PNOT: of RA; RB zero (R347). -/
def execPnot (a : RFmt) (s : State) : Result := predOp a 3#11 (a.rb == 0#5) (fun x _ => ~~~x) s

/-- PSET: predicate RD from s[RA] (R347). -/
def execPset (a : RFmt) (s : State) : Result :=
  .next (s.issueReg a.tile a.env (a.word 0x36#6 4#11) (pOk a.rd && a.rb == 0#5) fun c =>
    c.setP a.rd.toNat (c.sreg a.ra))

/-- PGET: s[RD] from predicate RA (R347). -/
def execPget (a : RFmt) (s : State) : Result :=
  .next (s.issueReg a.tile a.env (a.word 0x36#6 5#11) (pOk a.ra && a.rb == 0#5) fun c =>
    c.setS a.rd (c.pred a.ra.toNat))

end Sys2Proof.Machine
end

