-- ==== Sys2Proof/Machine/Dispatch.lean ====
section
/-!
DEFINITION. What each command does: one arm per constructor, one meaning per arm.
-/

namespace Sys2Proof.Machine

/-- The effect of a command on everything but the queue of waiting commands. -/
def exec (i : Instr) (s : State) : Host.Outcome State Fault Refusal :=
  match i with
  | .coldStart => Sys2Proof.Machine.execColdStart s
  | .brownout => Sys2Proof.Machine.execBrownout s
  | .pinReset => Sys2Proof.Machine.execPinReset s
  | .softReset path value => Sys2Proof.Machine.execSoftReset path value s
  | .softResetHoldExpiry => Sys2Proof.Machine.execSoftResetHoldExpiry s
  | .internalResetRelease straps => Sys2Proof.Machine.execInternalResetRelease straps s
  | .pllLock => Sys2Proof.Machine.execPllLock s
  | .pwrFailNFall => Sys2Proof.Machine.execPwrFailNFall s
  | .flushDone => Sys2Proof.Machine.execFlushDone s
  | .flashOpAbandon => Sys2Proof.Machine.execFlashOpAbandon s
  | .recorderRearm => Sys2Proof.Machine.execRecorderRearm s
  | .slotEraseDone blank => Sys2Proof.Machine.execSlotEraseDone blank s
  | .eventEntryWrite upsets => Sys2Proof.Machine.execEventEntryWrite s upsets
  | .wakeRise passed => Sys2Proof.Machine.execWakeRise passed s
  | .standbyRequest path value => Sys2Proof.Machine.execStandbyRequest path value s
  | .supplyMonitorCross bit t a => Sys2Proof.Machine.execSupplyMonitorCross bit t a s
  | .supplyConditionClear t => Sys2Proof.Machine.execSupplyConditionClear t s
  | .pllLockLoss pll t a => Sys2Proof.Machine.execPllLockLoss pll t a s
  | .pllFreqWindowEnd off t a => Sys2Proof.Machine.execPllFreqWindowEnd off t a s
  | .referenceLoss t a => Sys2Proof.Machine.execReferenceLoss t a s
  | .clockConditionClear t => Sys2Proof.Machine.execClockConditionClear t s
  | .ddrPllLockLoss chan t a => Sys2Proof.Machine.execDdrPllLockLoss chan t a s
  | .pcieSerdesPllLoss => Sys2Proof.Machine.execPcieSerdesPllLoss s
  | .courseTxPllLoss link => Sys2Proof.Machine.execCourseTxPllLoss link s
  | .tempSample milliC t a => Sys2Proof.Machine.execTempSample milliC t a s
  | .prdAbort path value t a => Sys2Proof.Machine.execPrdAbort path value t a s
  | .lockWaitExpiry => Sys2Proof.Machine.execLockWaitExpiry s
  | .boundary a => Sys2Proof.Machine.execBoundary a s
  | .capoRelease => Sys2Proof.Machine.execCapoRelease s
  | .scrubFretDone tile => Sys2Proof.Machine.execScrubFretDone tile s
  | .jobBind job => Sys2Proof.Machine.execJobBind job s
  | .admissionDecision t => Sys2Proof.Machine.execAdmissionDecision t s
  | .latestStartRetest job => Sys2Proof.Machine.execLatestStartRetest job s
  | .dispatch gang t => Sys2Proof.Machine.execDispatch gang t s
  | .overrunStart job => Sys2Proof.Machine.execOverrunStart job s
  | .deadlineKill job => Sys2Proof.Machine.execDeadlineKill job s
  | .csiFs port vc frame t h => Sys2Proof.Machine.execCsiFs port vc frame t h s
  | .csiFe port vc frame t h => Sys2Proof.Machine.execCsiFe port vc frame t h s
  | .csiLs port vc line h => Sys2Proof.Machine.execCsiLs port vc line h s
  | .csiLe port vc line h => Sys2Proof.Machine.execCsiLe port vc line h s
  | .csiLongPacket a => Sys2Proof.Machine.execCsiLongPacket a s
  | .csiDiscardPacket port kind hdr => Sys2Proof.Machine.execCsiDiscardPacket port kind s hdr
  | .ethFrame a => Sys2Proof.Machine.execEthFrame a s
  | .segment => Sys2Proof.Machine.execSegment s
  | .t1sFrame a => Sys2Proof.Machine.execT1sFrame a s
  | .plcaOpportunityExpiry port => Sys2Proof.Machine.execPlcaOpportunityExpiry port s
  | .plcaRecovery port collision => Sys2Proof.Machine.execPlcaRecovery port collision s
  | .plcaRecoverySilenceEnd port => Sys2Proof.Machine.execPlcaRecoverySilenceEnd port s
  | .ethLinkUp port rate => Sys2Proof.Machine.execEthLinkUp port rate s
  | .ethLinkDown port => Sys2Proof.Machine.execEthLinkDown port s
  | .dphyCalibrationDone port ok => Sys2Proof.Machine.execDphyCalibrationDone port ok s
  | .frameWindowEnd stream => Sys2Proof.Machine.execFrameWindowEnd stream s
  | .lineCheck stream waited ecc => Sys2Proof.Machine.execLineCheck stream waited ecc s
  | .bandBuild stream level band => Sys2Proof.Machine.execBandBuild stream level band s
  | .frameCompletion stream t => Sys2Proof.Machine.execFrameCompletion stream t s
  | .frameStoreReserve => Sys2Proof.Machine.execFrameStoreReserve s
  | .gptpSync a => Sys2Proof.Machine.execGptpSync a s
  | .gptpAnnounce domain gm => Sys2Proof.Machine.execGptpAnnounce domain gm s
  | .pdelayReqTimer => Sys2Proof.Machine.execPdelayReqTimer s
  | .pdelayReqReceived domain seq source t1 t2 => Sys2Proof.Machine.execPdelayReqReceived domain seq source t1 t2 s
  | .pdelayRespReceived seq t1 t2 t3 t4 => Sys2Proof.Machine.execPdelayRespReceived seq t1 t2 t3 t4 s
  | .syncReceiptTimeout announce => Sys2Proof.Machine.execSyncReceiptTimeout announce s
  | .passStart tile => Sys2Proof.Machine.execPassStart tile s
  | .passComplete a => Sys2Proof.Machine.execPassComplete a s
  | .memopComplete tile ecc => Sys2Proof.Machine.execMemopComplete tile ecc s
  | .allocRequestDecision tile t => Sys2Proof.Machine.execAllocRequestDecision tile t s
  | .spillComplete tile ecc => Sys2Proof.Machine.execSpillComplete tile ecc s
  | .restoreComplete tile => Sys2Proof.Machine.execRestoreComplete tile s
  | .fretAgeTick => Sys2Proof.Machine.execFretAgeTick s
  | .pageStaged net page busy damaged => Sys2Proof.Machine.execPageStaged net page busy damaged s
  | .pageInject net page => Sys2Proof.Machine.execPageInject net page s
  | .pageUsable tile net page lane => Sys2Proof.Machine.execPageUsable tile net page lane s
  | .pageFree tile page next => Sys2Proof.Machine.execPageFree tile page next s
  | .partReadDone tile busy => Sys2Proof.Machine.execPartReadDone tile busy s
  | .dramRefresh chan hits => Sys2Proof.Machine.execDramRefresh chan hits s
  | .dramTrainingDone ok capacityMiB => Sys2Proof.Machine.execDramTrainingDone ok capacityMiB s
  | .dramUncorrError who => Sys2Proof.Machine.execDramUncorrError who s
  | .msgArrive src dst mbox ecc => Sys2Proof.Machine.execMsgArrive src dst mbox s ecc
  | .msgRetry tile => Sys2Proof.Machine.execMsgRetry tile s
  | .wdogExpire tile => Sys2Proof.Machine.execWdogExpire tile s
  | .recordTake t => Sys2Proof.Machine.execRecordTake t s
  | .recordCommit ring t credit => Sys2Proof.Machine.execRecordCommit ring t s credit
  | .pagePublish ring => Sys2Proof.Machine.execPagePublish ring s
  | .summaryPlace ring t => Sys2Proof.Machine.execSummaryPlace ring t s
  | .writeStallBegin t => Sys2Proof.Machine.execWriteStallBegin t s
  | .writeStallEnd t => Sys2Proof.Machine.execWriteStallEnd t s
  | .hdmaDone => Sys2Proof.Machine.execHdmaDone s
  | .pcieReset kind => Sys2Proof.Machine.execPcieReset kind s
  | .pcieLinkL0 => Sys2Proof.Machine.execPcieLinkL0 s
  | .pcieLinkLeaveL0 => Sys2Proof.Machine.execPcieLinkLeaveL0 s
  | .pcieConfigRequest a => Sys2Proof.Machine.execPcieConfigRequest a s
  | .pcieUnsupportedRequest posted => Sys2Proof.Machine.execPcieUnsupportedRequest s posted
  | .registerWrite path addr value bytes => Sys2Proof.Machine.execRegisterWrite path addr value bytes s
  | .w1cWrite path addr value setNow => Sys2Proof.Machine.execW1cWrite path addr value setNow s
  | .rcRead path addr bytes => Sys2Proof.Machine.execRcRead path addr s bytes
  | .rslLowRead path addr bytes => Sys2Proof.Machine.execRslLowRead path addr s bytes
  | .spiRead mosi done => Sys2Proof.Machine.execSpiRead mosi done s
  | .spiWrite mosi done => Sys2Proof.Machine.execSpiWrite mosi done s
  | .spiUnknownCmd mosi => Sys2Proof.Machine.execSpiUnknownCmd mosi s
  | .prdDigSelWrite path value => Sys2Proof.Machine.execPrdDigSelWrite path value s
  | .prdDigLayerWrite path value => Sys2Proof.Machine.execPrdDigLayerWrite path value s
  | .ringRunStart path ring value => Sys2Proof.Machine.execRingRunStart path ring value s
  | .ringRunStop path ring value => Sys2Proof.Machine.execRingRunStop path ring value s
  | .ringBaseWrite path ring hi value => Sys2Proof.Machine.execRingBaseWrite path ring hi value s
  | .ringConsWrite path ring value => Sys2Proof.Machine.execRingConsWrite path ring value s
  | .ringMirrorWrite path hi value => Sys2Proof.Machine.execRingMirrorWrite path hi value s
  | .schClassEnWrite path value => Sys2Proof.Machine.execSchClassEnWrite path value s
  | .schAbsentForceWrite path value => Sys2Proof.Machine.execSchAbsentForceWrite path value s
  | .linkFence path link => Sys2Proof.Machine.execLinkFence path link s
  | .linkUnfence path link => Sys2Proof.Machine.execLinkUnfence path link s
  | .injectionStart path value => Sys2Proof.Machine.execInjectionStart path value s
  | .injectionCancel path value => Sys2Proof.Machine.execInjectionCancel path value s
  | .injectionApply t silent a => Sys2Proof.Machine.execInjectionApply t silent a s
  | .injectionLimitExpiry t => Sys2Proof.Machine.execInjectionLimitExpiry t s
  | .safReadmitWrite path value => Sys2Proof.Machine.execSafReadmitWrite path value s
  | .diagEnter path tile value => Sys2Proof.Machine.execDiagEnter path tile value s
  | .diagExit path tile value => Sys2Proof.Machine.execDiagExit path tile value s
  | .evrMarkWrite path value => Sys2Proof.Machine.execEvrMarkWrite path value s
  | .ethAddrWrite path port hi value => Sys2Proof.Machine.execEthAddrWrite path port hi value s
  | .hdmaStart path value => Sys2Proof.Machine.execHdmaStart path value s
  | .hdmaAbort path value => Sys2Proof.Machine.execHdmaAbort path value s
  | .sectionReadDone a => Sys2Proof.Machine.execSectionReadDone a s
  | .xspiDiscoveryDone a => Sys2Proof.Machine.execXspiDiscoveryDone a s
  | .emmcBringupDone hs400 => Sys2Proof.Machine.execEmmcBringupDone hs400 s
  | .bringupBoundExpiry which => Sys2Proof.Machine.execBringupBoundExpiry which s
  | .flitIdle link f => Sys2Proof.Machine.execFlitIdle link f s
  | .hello link f => Sys2Proof.Machine.execHello link f s
  | .crsStartFlit link f => Sys2Proof.Machine.execCrsStartFlit link f s
  | .share link f => Sys2Proof.Machine.execShare link f s
  | .planinfo link f => Sys2Proof.Machine.execPlaninfo link f s
  | .boundaryFlit link f => Sys2Proof.Machine.execBoundaryFlit link f s
  | .digestFlit link f => Sys2Proof.Machine.execDigestFlit link f s
  | .endFlit link f => Sys2Proof.Machine.execEndFlit link f s
  | .msgPair link f g => Sys2Proof.Machine.execMsgPair link f g s
  | .pageReq link f => Sys2Proof.Machine.execPageReq link f s
  | .pageHead link f => Sys2Proof.Machine.execPageHead link f s
  | .pageData link f => Sys2Proof.Machine.execPageData link f s
  | .flitCrcFail link crcBad t => Sys2Proof.Machine.execFlitCrcFail link crcBad t s
  | .replayTimerExpiry link => Sys2Proof.Machine.execReplayTimerExpiry link s
  | .linkSilenceTimeout link => Sys2Proof.Machine.execLinkSilenceTimeout link s
  | .laneLockLoss link => Sys2Proof.Machine.execLaneLockLoss link s
  | .linkRetrainTimer link => Sys2Proof.Machine.execLinkRetrainTimer link s
  | .helloTimer link => Sys2Proof.Machine.execHelloTimer link s
  | .startWaitTimeout t => Sys2Proof.Machine.execStartWaitTimeout t s
  | .skipInsert link => Sys2Proof.Machine.execSkipInsert link s
  | .remoteMsgReoffer link => Sys2Proof.Machine.execRemoteMsgReoffer link s
  | .sharedPageFallback net page => Sys2Proof.Machine.execSharedPageFallback net page s
  | .add a => Sys2Proof.Machine.execAdd a s
  | .sub a => Sys2Proof.Machine.execSub a s
  | .and a => Sys2Proof.Machine.execAnd a s
  | .or a => Sys2Proof.Machine.execOr a s
  | .xor a => Sys2Proof.Machine.execXor a s
  | .sll a => Sys2Proof.Machine.execSll a s
  | .srl a => Sys2Proof.Machine.execSrl a s
  | .sra a => Sys2Proof.Machine.execSra a s
  | .slt a => Sys2Proof.Machine.execSlt a s
  | .sltu a => Sys2Proof.Machine.execSltu a s
  | .min a => Sys2Proof.Machine.execMin a s
  | .max a => Sys2Proof.Machine.execMax a s
  | .minu a => Sys2Proof.Machine.execMinu a s
  | .maxu a => Sys2Proof.Machine.execMaxu a s
  | .mul a => Sys2Proof.Machine.execMul a s
  | .mulh a => Sys2Proof.Machine.execMulh a s
  | .mulhu a => Sys2Proof.Machine.execMulhu a s
  | .div a => Sys2Proof.Machine.execDiv a s
  | .divu a => Sys2Proof.Machine.execDivu a s
  | .rem a => Sys2Proof.Machine.execRem a s
  | .remu a => Sys2Proof.Machine.execRemu a s
  | .clz a => Sys2Proof.Machine.execClz a s
  | .popc a => Sys2Proof.Machine.execPopc a s
  | .addi a => Sys2Proof.Machine.execAddi a s
  | .andi a => Sys2Proof.Machine.execAndi a s
  | .ori a => Sys2Proof.Machine.execOri a s
  | .xori a => Sys2Proof.Machine.execXori a s
  | .slti a => Sys2Proof.Machine.execSlti a s
  | .lui a => Sys2Proof.Machine.execLui a s
  | .shi a => Sys2Proof.Machine.execShi a s
  | .lb a => Sys2Proof.Machine.execLb a s
  | .lbu a => Sys2Proof.Machine.execLbu a s
  | .lh a => Sys2Proof.Machine.execLh a s
  | .lhu a => Sys2Proof.Machine.execLhu a s
  | .lw a => Sys2Proof.Machine.execLw a s
  | .sb a => Sys2Proof.Machine.execSb a s
  | .sh a => Sys2Proof.Machine.execSh a s
  | .sw a => Sys2Proof.Machine.execSw a s
  | .beq a => Sys2Proof.Machine.execBeq a s
  | .bne a => Sys2Proof.Machine.execBne a s
  | .blt a => Sys2Proof.Machine.execBlt a s
  | .bge a => Sys2Proof.Machine.execBge a s
  | .bltu a => Sys2Proof.Machine.execBltu a s
  | .bgeu a => Sys2Proof.Machine.execBgeu a s
  | .jal a => Sys2Proof.Machine.execJal a s
  | .jalr a => Sys2Proof.Machine.execJalr a s
  | .csrr a => Sys2Proof.Machine.execCsrr a s
  | .nop a => Sys2Proof.Machine.execNop a s
  | .halt a => Sys2Proof.Machine.execHalt a s
  | .wdarm a => Sys2Proof.Machine.execWdarm a s
  | .wdkick a => Sys2Proof.Machine.execWdkick a s
  | .wdoff a => Sys2Proof.Machine.execWdoff a s
  | .bind a => Sys2Proof.Machine.execBind a s
  | .bindd a => Sys2Proof.Machine.execBindd a s
  | .alloc a => Sys2Proof.Machine.execAlloc a s
  | .free a => Sys2Proof.Machine.execFree a s
  | .pagerSub a => Sys2Proof.Machine.execPagerSub a s
  | .retire a => Sys2Proof.Machine.execRetire a s
  | .adv a => Sys2Proof.Machine.execAdv a s
  | .pread a => Sys2Proof.Machine.execPread a s
  | .hread a => Sys2Proof.Machine.execHread a s
  | .apass a => Sys2Proof.Machine.execApass a s
  | .mop a => Sys2Proof.Machine.execMop a s
  | .waitc a => Sys2Proof.Machine.execWaitc a s
  | .rpub a => Sys2Proof.Machine.execRpub a s
  | .send a => Sys2Proof.Machine.execSend a s
  | .recv a => Sys2Proof.Machine.execRecv a s
  | .mcount a => Sys2Proof.Machine.execMcount a s
  | .rldv a => Sys2Proof.Machine.execRldv a s
  | .rstv a => Sys2Proof.Machine.execRstv a s
  | .gen a => Sys2Proof.Machine.execGen a s
  | .claim a => Sys2Proof.Machine.execClaim a s
  | .init a => Sys2Proof.Machine.execInit a s
  | .feedb a => Sys2Proof.Machine.execFeedb a s
  | .feedh a => Sys2Proof.Machine.execFeedh a s
  | .feedw a => Sys2Proof.Machine.execFeedw a s
  | .feedv a => Sys2Proof.Machine.execFeedv a s
  | .cvRead a => Sys2Proof.Machine.execCvRead a s
  | .cvRelease a => Sys2Proof.Machine.execCvRelease a s
  | .dopen a => Sys2Proof.Machine.execDopen a s
  | .dclose a => Sys2Proof.Machine.execDclose a s
  | .dreadl a => Sys2Proof.Machine.execDreadl a s
  | .dreadh a => Sys2Proof.Machine.execDreadh a s
  | .vadd a => Sys2Proof.Machine.execVadd a s
  | .vsub a => Sys2Proof.Machine.execVsub a s
  | .vmul a => Sys2Proof.Machine.execVmul a s
  | .vmulh a => Sys2Proof.Machine.execVmulh a s
  | .vmin a => Sys2Proof.Machine.execVmin a s
  | .vmax a => Sys2Proof.Machine.execVmax a s
  | .vminu a => Sys2Proof.Machine.execVminu a s
  | .vmaxu a => Sys2Proof.Machine.execVmaxu a s
  | .vand a => Sys2Proof.Machine.execVand a s
  | .vor a => Sys2Proof.Machine.execVor a s
  | .vxor a => Sys2Proof.Machine.execVxor a s
  | .vsll a => Sys2Proof.Machine.execVsll a s
  | .vsra a => Sys2Proof.Machine.execVsra a s
  | .vsrl a => Sys2Proof.Machine.execVsrl a s
  | .vadds a => Sys2Proof.Machine.execVadds a s
  | .vsubs a => Sys2Proof.Machine.execVsubs a s
  | .vabs a => Sys2Proof.Machine.execVabs a s
  | .vsel a => Sys2Proof.Machine.execVsel a s
  | .vrsra a => Sys2Proof.Machine.execVrsra a s
  | .vfadd a => Sys2Proof.Machine.execVfadd a s
  | .vfsub a => Sys2Proof.Machine.execVfsub a s
  | .vfmul a => Sys2Proof.Machine.execVfmul a s
  | .vfma a => Sys2Proof.Machine.execVfma a s
  | .vfmin a => Sys2Proof.Machine.execVfmin a s
  | .vfmax a => Sys2Proof.Machine.execVfmax a s
  | .vfrcp a => Sys2Proof.Machine.execVfrcp a s
  | .vfexp2 a => Sys2Proof.Machine.execVfexp2 a s
  | .vcmp a => Sys2Proof.Machine.execVcmp a s
  | .vcvt a => Sys2Proof.Machine.execVcvt a s
  | .vshuf a => Sys2Proof.Machine.execVshuf a s
  | .vcomp a => Sys2Proof.Machine.execVcomp a s
  | .vsort a => Sys2Proof.Machine.execVsort a s
  | .vmrgh a => Sys2Proof.Machine.execVmrgh a s
  | .vmrgl a => Sys2Proof.Machine.execVmrgl a s
  | .vbcast a => Sys2Proof.Machine.execVbcast a s
  | .vext a => Sys2Proof.Machine.execVext a s
  | .vrmax a => Sys2Proof.Machine.execVrmax a s
  | .vrmin a => Sys2Proof.Machine.execVrmin a s
  | .vradd a => Sys2Proof.Machine.execVradd a s
  | .vrargmax a => Sys2Proof.Machine.execVrargmax a s
  | .vcnt a => Sys2Proof.Machine.execVcnt a s
  | .vlut8 a => Sys2Proof.Machine.execVlut8 a s
  | .pand a => Sys2Proof.Machine.execPand a s
  | .por a => Sys2Proof.Machine.execPor a s
  | .pxor a => Sys2Proof.Machine.execPxor a s
  | .pnot a => Sys2Proof.Machine.execPnot a s
  | .pset a => Sys2Proof.Machine.execPset a s
  | .pget a => Sys2Proof.Machine.execPget a s
  | .vld a => Sys2Proof.Machine.execVld a s
  | .vst a => Sys2Proof.Machine.execVst a s
  | .vldt a => Sys2Proof.Machine.execVldt a s
  | .vlds a => Sys2Proof.Machine.execVlds a s
  | .canFrameDiscard ident frame => Sys2Proof.Machine.execCanFrameDiscard ident frame s
  | .heartbeat frame => Sys2Proof.Machine.execHeartbeat frame s
  | .scLost => Sys2Proof.Machine.execScLost s
  | .statusBroadcast => Sys2Proof.Machine.execStatusBroadcast s
  | .uartIdleGap => Sys2Proof.Machine.execUartIdleGap s
  | .setEndpointId eid => Sys2Proof.Machine.execSetEndpointId eid s
  | .getEndpointId => Sys2Proof.Machine.execGetEndpointId s
  | .getMctpVersionSupport => Sys2Proof.Machine.execGetMctpVersionSupport s
  | .getMessageTypeSupport => Sys2Proof.Machine.execGetMessageTypeSupport s
  | .getVendorMessageSupport => Sys2Proof.Machine.execGetVendorMessageSupport s
  | .getStatus a => Sys2Proof.Machine.execGetStatus a s
  | .getSensors a => Sys2Proof.Machine.execGetSensors a s
  | .getLog a => Sys2Proof.Machine.execGetLog a s
  | .moduleOut a => Sys2Proof.Machine.execModuleOut a s
  | .moduleIn a => Sys2Proof.Machine.execModuleIn a s
  | .moduleCycle a => Sys2Proof.Machine.execModuleCycle a s
  | .moduleReset a => Sys2Proof.Machine.execModuleReset a s
  | .moduleKill a => Sys2Proof.Machine.execModuleKill a s
  | .shed a => Sys2Proof.Machine.execShed a s
  | .fence a => Sys2Proof.Machine.execFence a s
  | .forceAbsent a => Sys2Proof.Machine.execForceAbsent a s
  | .pviewRead a spi => Sys2Proof.Machine.execPviewRead a spi s
  | .pviewWrite a spiOk => Sys2Proof.Machine.execPviewWrite a spiOk s
  | .hold a => Sys2Proof.Machine.execHold a s
  | .holdRelease a => Sys2Proof.Machine.execHoldRelease a s
  | .holdExpiry slot => Sys2Proof.Machine.execHoldExpiry slot s
  | .interlockClear a => Sys2Proof.Machine.execInterlockClear a s
  | .latchRelease a => Sys2Proof.Machine.execLatchRelease a s
  | .clearContest a => Sys2Proof.Machine.execClearContest a s
  | .leak rope => Sys2Proof.Machine.execLeak rope s
  | .mainOc => Sys2Proof.Machine.execMainOc s
  | .shdn slot => Sys2Proof.Machine.execShdn slot s
  | .moduleOc slot => Sys2Proof.Machine.execModuleOc slot s
  | .yanked slot => Sys2Proof.Machine.execYanked slot s
  | .railSample a => Sys2Proof.Machine.execRailSample a s
  | .linkPinSample a => Sys2Proof.Machine.execLinkPinSample a s
  | .coolantSample tin tout flow tmod => Sys2Proof.Machine.execCoolantSample tin tout flow tmod s
  | .ropeSample ohmA ohmB => Sys2Proof.Machine.execRopeSample ohmA ohmB s
  | .moduleRegisterPoll reads => Sys2Proof.Machine.execModuleRegisterPoll reads s
  | .examinationPoint reads => Sys2Proof.Machine.execExaminationPoint reads s
  | .hoistStart a reads => Sys2Proof.Machine.execHoistStart a reads s
  | .headerAndDirectoryRead a => Sys2Proof.Machine.execHeaderAndDirectoryRead a s
  | .pmeTurnOff => Sys2Proof.Machine.execPmeTurnOff s
  | .alwaysOnReset => Sys2Proof.Machine.execAlwaysOnReset s
  | .aonOscillatorStop => Sys2Proof.Machine.execAonOscillatorStop s
  | .refresh2xChange on => Sys2Proof.Machine.execRefresh2xChange on s
  | .csiClockLaneChange port on => Sys2Proof.Machine.execCsiClockLaneChange port on s
  | .pwrEnMainRise => Sys2Proof.Machine.execPwrEnMainRise s

end Sys2Proof.Machine
end

