-- ==== Sys2Proof/Safety.lean ====
section
/-!
DEFINITION. What counts as a sound state and a safe run, and the words the statements use: when a core issues, what an
instruction leaves of its tile, what a command leaves alone.
-/

namespace Sys2Proof.Safety

open Sys2Proof.Machine

/-- The recorder's queue holds at most its 64 entries (R495). -/
def queueBounded (s : State) : Prop := s.evr.queue.length ≤ 64

/-- The byte memories outside the tiles are in canonical form. -/
def memoryCanonical (s : State) : Prop :=
  Memory.wf 0#8 s.dram.mem = true ∧ Memory.wf 0#8 s.ring.hostMem = true ∧ Memory.wf 0xFF#8 s.evr.flash = true

/-- A run of `n` steps that ends in a next state. -/
def runs : Nat → State → State → Prop
  | 0, s, t => s = t
  | n + 1, s, t => ∃ u, step s = .next u ∧ runs n u t

/-! ## Resets -/

/-- The main domain is held in reset: every block of it is as at reset; the recorder's retention SRAM, the host's
memory, the Hoist, the grade and the queue of commands are those of `s`, and so is the flash where no flush and no erase is cut
(R93, R493, R499, R505). -/
def heldInReset (s t : State) : Prop :=
  t.aon.mainReset = true ∧ t.aon.pllLocked = false ∧ t.dev = 0 ∧ t.tiles = [] ∧ t.flight = [] ∧ t.pathBar0 = {} ∧
  t.pathBar2 = {} ∧ t.pathSpi = {} ∧ t.sys = {} ∧ t.rdy = {} ∧ t.img = {} ∧ t.prd = {} ∧ t.pen = {} ∧ t.sch = {} ∧
  t.tb = {} ∧ t.strm = {} ∧ t.dram = {} ∧ t.hdma = {} ∧ t.saf = {} ∧ t.crs = {} ∧ t.pcie = {} ∧
  t.ring = { hostMem := s.ring.hostMem } ∧ t.evr.queue = [] ∧ t.evr.arm = .unarmed ∧ t.evr.flushing = false ∧
  (s.evr.flushing = false → s.evr.arm ≠ .erasing → t.evr.flash = s.evr.flash) ∧ t.hoist = s.hoist ∧ t.grade = s.grade ∧ t.pending = s.pending

/-- What a reset that is no cold start keeps of the always-on domain and the retention SRAM: the event ring, its next SEQ
and STARTS, the THERM_SHDN_N latch and the oscillator (R84, R93, R111, R493, R494). -/
def retained (s t : State) : Prop :=
  t.evr.ring = s.evr.ring ∧ t.evr.upset = s.evr.upset ∧ t.evr.next = s.evr.next ∧ t.evr.starts = s.evr.starts ∧
  t.aon.thermShdnN = s.aon.thermShdnN ∧ t.aon.oscRunning = s.aon.oscRunning ∧ t.aon.pwrEnMain = s.aon.pwrEnMain

/-- The target slot of `t` lies between that of `s` and a blank one, and no byte outside it differs (R505). -/
def erasedPartly (s t : State) : Prop :=
  ∀ k, if slotBase s.evr.target ≤ k ∧ k < slotBase s.evr.target + 65536 then
      tget 0xFF#8 t.evr.flash k &&& tget 0xFF#8 s.evr.flash k = tget 0xFF#8 s.evr.flash k
    else tget 0xFF#8 t.evr.flash k = tget 0xFF#8 s.evr.flash k

/-! ## The tile core -/

/-- The core of tile `t` issues its next instruction for the instance `i`: the tile is of the grade, runs a thread of
`i`, waits for no answer of the allocator, its fetch address lies in the watchdog window and in a code block of the
network, and the word there is no reserved one (R326, R332, R334, R353, R364). -/
def issues (s : State) (t : Nat) (i : Inst) : Prop :=
  s.grade.hasTile t = true ∧ (s.tile t).tc.inst = some i.id ∧ s.inst i.id = some i ∧
    (s.tile t).tc.allocRd = none ∧ fetchCause s i t (s.tile t).tc = none ∧
    reservedWord (s.wordAtPc t) = false

/-- The core's command finds a place in its tile core → mesh queue, and is read from it without an error (R310, R354, R445). -/
def meshTakes (s : State) (t : Nat) (e : TEnv) : Prop := meshFull s t e = false ∧ e.queueEcc = 0

/-- The core with the stalled cycles of the issue counted. -/
def stalled (c : Tc) (e : TEnv) : Tc := { c with stallC := c.stallC + BitVec.ofNat 64 e.stall, cyc := c.cyc + e.stall }

/-- The core once an instruction has completed: TC_RETIRED and the cycle count count it, the PC moves past it or to a target. -/
def retired (c : Tc) (dest : Option Half) : Tc :=
  { c with pc := dest.getD (c.pc + 4), retired := c.retired + 1, stall := 0, cyc := c.cyc + 1 }

/-- A tile whose core has run an instruction that changes the core by `f`. -/
def tileDone (x : Tile) (e : TEnv) (f : Tc → Tc) (dest : Option Half := none) : Tile :=
  { x with tc := retired (f (stalled x.tc e)) dest }

/-- The tile after a load: the touched frets' age is reset and the core holds what `f` made of it. -/
def loadDone (x : Tile) (e : TEnv) (addrs : List Nat) (f : Tc → Tc) : Tile :=
  { tileDone x e f with spm := x.spm.touch addrs }

/-- The tile after a gather: a load whose words count their bank conflicts (R266). -/
def gatherDone (x : Tile) (e : TEnv) (addrs words : List Nat) (f : Tc → Tc) : Tile :=
  { tileDone x e f with spm := (x.spm.touch addrs).conflictC words }

/-- Everything but the tiles. -/
def sansTiles (s : State) : State := { s with tiles := [] }

/-- Only tile `t` differs, and it is `x`. -/
def onlyTile (s s' : State) (t : Nat) (x : Tile) : Prop :=
  (∀ u, s'.tile u = if u = t then x else s.tile u) ∧ sansTiles s' = sansTiles s

/-- The instruction `c` of tile `t` completes and changes the core by `f`, all else unchanged. -/
def coreResult (c : Instr) (t : Nat) (e : TEnv) (f : Tc → Tc) : Prop :=
  ∀ s i, issues s t i → e.ecc = 0 → ∃ s', exec c s = .next s' ∧ onlyTile s s' t (tileDone (s.tile t) e f)

/-- The instruction `c` of tile `t` raises the exception `cause` (R365): the state in which its handling begins. -/
def raises (c : Instr) (t : Nat) (e : TEnv) (word : Word) (cause : Nat) : Prop :=
  ∀ s i, issues s t i → e.ecc = 0 →
    exec c s = .next ((s.modTc t fun x => stalled x e).raiseExc t i.id e cause word 0)

/-- A state in which the core of `t` has run an instruction: `s` is the state after the instruction's own effect on what
`f` made of the state at its issue. -/
def coreNext (s : State) (t : Nat) (e : TEnv) (f : State → State) (dest : Option Half := none) : State :=
  (f (s.modTc t fun x => stalled x e)).modTc t fun c => retired c dest

/-! ## The Hoist's command bodies -/

/-- A command body is taken from its path: a new COUNTER on CAN FD, an endpoint ID set on MCTP (R526, R527). -/
def hTakes (s : State) (a : HCmd) : Prop :=
  (a.path = .sc → s.hoist.canCmd ≠ some a.counter) ∧ (a.path = .host → s.hoist.eid ≠ 0#8)

/-- The state once a command body is taken. -/
def hTaken (s : State) (a : HCmd) : State :=
  if a.path = .sc then { s with hoist := { s.hoist with canCmd := some a.counter } } else s

end Sys2Proof.Safety
end

