-- ==== Sys2Proof/Certificates/Slice0/Obligations.lean ====
section
/-!
DEFINITION. The statements about this model: one definition of a proposition each, with the rules of spec/ it rests on. The
words they use are those of Sys2Proof/Safety.lean and of the meanings themselves.
-/

open Sys2Proof Sys2Proof.Machine Sys2Proof.Safety

/-- A step runs the command at the front of the queue on the queue's rest; on an empty queue the device clock ticks, the
Course links send IDLE flits and what a bound on time brings about happens, the model's choice of log entry 3; no word of the table spells a command, and every step answers a next state. -/
def Obligations.StepRunsTheFrontCommand : Prop :=
  (∀ (c : Instr) (l : List Instr) (s : State), step { s with pending := c :: l } = exec c { s with pending := l }) ∧
  (∀ s : State, s.pending = [] → step s = .next (s.tick.idleFlits s.now).timeDue) ∧
  (∀ (n w : Nat) (s : State), decodeTableWord n w = none ∧ s.withFetchWord n w = s) ∧
  (∀ s : State, ∃ t, step s = .next t)

/-- R93, R94, R97, R104, R493, R494: the state right after the internal reset release of a cold start. The values that
the spec does not give are the model's (log entries 5 to 9, 13 to 15). -/
def Obligations.ResetState : Prop :=
  State.reset.pending = [] ∧ State.reset.dev = 0 ∧ State.reset.aon.mainReset = false ∧ State.reset.aon.pllLocked = false ∧
  State.reset.aon.thermShdnN = true ∧ State.reset.aon.oscRunning = true ∧ State.reset.rdy.status = 0#32 ∧
  State.reset.prd.gen = .idle ∧ State.reset.prd.started = false ∧ State.reset.prd.count = 0#32 ∧
  State.reset.sys.rstCause = 1#32 ∧ State.reset.evr.starts = 1#32 ∧ State.reset.evr.ring = [] ∧ State.reset.evr.next = 0#32 ∧
  (∃ e, State.reset.evr.queue = [e] ∧ e.code = 0x0101#16) ∧ State.reset.ring.posted = [] ∧
  (∀ k, State.reset.ringOf k = {}) ∧ (∀ t, State.reset.tile t = {}) ∧ State.reset.sch.insts = [] ∧
  State.reset.tb.state = .free ∧ State.reset.saf.injState = .idle ∧
  queueBounded State.reset ∧ memoryCanonical State.reset

/-- R5, R23: whatever runs, a part keeps its grade; and a step consumes exactly the command at the front of the queue.
-/
def Obligations.StepKeepsGradeAndQueue : Prop :=
  ∀ s t : State, queueBounded s → memoryCanonical s → step s = .next t → t.grade = s.grade ∧ t.pending = s.pending.tail

/-- R495: every step keeps the recorder's queue within its 64 entries, and the byte memories in canonical form; so
does every run. -/
def Obligations.StepKeepsBoundsAndMemories : Prop :=
  (∀ s t : State, queueBounded s → memoryCanonical s → step s = .next t → queueBounded t ∧ memoryCanonical t) ∧
  (∀ (n : Nat) (s t : State), queueBounded s → memoryCanonical s → runs n s t → queueBounded t ∧ memoryCanonical t)

/-- R84, R111, R494: no step but a cold start releases THERM_SHDN_N once it is low or starts the oscillator again once
it has stopped, and no step but a cold start or an internal reset release changes STARTS. -/
def Obligations.LatchesUntilAColdStart : Prop :=
  ∀ s t : State, queueBounded s → memoryCanonical s → step s = .next t → s.pending.head? ≠ some .coldStart →
    (s.aon.thermShdnN = false → t.aon.thermShdnN = false) ∧ (s.aon.oscRunning = false → t.aon.oscRunning = false) ∧
    ((∀ x, s.pending.head? ≠ some (.internalResetRelease x)) → t.evr.starts = s.evr.starts)

/-- R96: the U-view's writes to SYS_RST_CTRL and SYS_PWR_CTRL are ignored. -/
def Obligations.ResetControlsIgnoreTheUView : Prop :=
  ∀ (v : Word) (d : DWord) (n : Nat) (s : State),
    exec (.softReset .bar0 v) s = .next s ∧ exec (.standbyRequest .bar0 v) s = .next s ∧
    exec (.registerWrite .bar0 0x0000C d n) s = .next s ∧ exec (.registerWrite .bar0 0x00010 d n) s = .next s

/-- R332, R333: the scalar instructions write s[RD] (s0 ignores it) and nothing else: registers, multiplication and
division with its corners, immediates, NOP. -/
def Obligations.ScalarResults : Prop :=
  (let r (mk : RFmt → Instr) (f : Word → Word → Word) : Prop :=
    ∀ a, coreResult (mk a) a.tile a.env fun c => c.setS a.rd (f (c.sreg a.ra) (c.sreg a.rb))
  r .add (fun x y => BitVec.ofNat 32 (x.toNat + y.toNat)) ∧
  r .sub (fun x y => BitVec.ofInt 32 ((x.toNat : Int) - y.toNat)) ∧
  r .and (fun x y => x &&& y) ∧ r .or (fun x y => x ||| y) ∧ r .xor (fun x y => x ^^^ y) ∧
  r .sll (fun x y => x <<< (y.toNat % 32)) ∧ r .srl (fun x y => x >>> (y.toNat % 32)) ∧
  r .sra (fun x y => x.sshiftRight (y.toNat % 32)) ∧
  r .slt (fun x y => if x.toInt < y.toInt then 1 else 0) ∧ r .sltu (fun x y => if x.toNat < y.toNat then 1 else 0) ∧
  r .min (fun x y => if y.toInt < x.toInt then y else x) ∧ r .max (fun x y => if x.toInt < y.toInt then y else x) ∧
  r .minu (fun x y => if y.toNat < x.toNat then y else x) ∧ r .maxu (fun x y => if x.toNat < y.toNat then y else x)) ∧
  (let r (mk : RFmt → Instr) (f : Word → Word → Word) : Prop :=
    ∀ a, coreResult (mk a) a.tile a.env fun c => c.setS a.rd (f (c.sreg a.ra) (c.sreg a.rb))
  let u (mk : RFmt → Instr) (f : Word → Word) : Prop :=
    ∀ a, a.rb = 0#5 → coreResult (mk a) a.tile a.env fun c => c.setS a.rd (f (c.sreg a.ra))
  r .mul (fun x y => BitVec.ofNat 32 (x.toNat * y.toNat)) ∧
  r .mulh (fun x y => BitVec.ofInt 32 (x.toInt * y.toInt / 2 ^ 32)) ∧
  r .mulhu (fun x y => BitVec.ofNat 32 (x.toNat * y.toNat / 2 ^ 32)) ∧
  r .div (fun x y => if y = 0#32 then 0xFFFFFFFF#32 else BitVec.ofInt 32 (x.toInt.tdiv y.toInt)) ∧
  r .divu (fun x y => if y = 0#32 then 0xFFFFFFFF#32 else BitVec.ofNat 32 (x.toNat / y.toNat)) ∧
  r .rem (fun x y => if y = 0#32 then x else BitVec.ofInt 32 (x.toInt.tmod y.toInt)) ∧
  r .remu (fun x y => if y = 0#32 then x else BitVec.ofNat 32 (x.toNat % y.toNat)) ∧
  u .clz (fun x => if x = 0#32 then 32#32 else BitVec.ofNat 32 (31 - Nat.log2 x.toNat)) ∧
  u .popc (fun x => BitVec.ofNat 32 (((List.range 32).filter fun i => x.getLsbD i).length))) ∧
  (let r (mk : IFmt → Instr) (f : Word → Half → Word) : Prop :=
    ∀ a, coreResult (mk a) a.tile a.env fun c => c.setS a.rd (f (c.sreg a.ra) a.imm)
  r .addi (fun x i => x + i.signExtend 32) ∧ r .andi (fun x i => x &&& i.setWidth 32) ∧
  r .ori (fun x i => x ||| i.setWidth 32) ∧ r .xori (fun x i => x ^^^ i.setWidth 32) ∧
  r .slti (fun x i => if x.toInt < i.toInt then 1 else 0) ∧
  (∀ a : IFmt, a.ra = 0#5 → coreResult (.lui a) a.tile a.env fun c => c.setS a.rd (BitVec.ofNat 32 (a.imm.toNat * 65536))) ∧
  (∀ a : IFmt, bits a.imm.toNat 15 5 = 0 →
    coreResult (.shi a) a.tile a.env fun c => c.setS a.rd (c.sreg a.ra <<< (a.imm.toNat % 32))) ∧
  (∀ a : IFmt, bits a.imm.toNat 15 5 = 1 →
    coreResult (.shi a) a.tile a.env fun c => c.setS a.rd (c.sreg a.ra >>> (a.imm.toNat % 32))) ∧
  (∀ a : IFmt, bits a.imm.toNat 15 5 = 2 →
    coreResult (.shi a) a.tile a.env fun c => c.setS a.rd ((c.sreg a.ra).sshiftRight (a.imm.toNat % 32))) ∧
  (∀ a : RFmt, a.rd = 0#5 → a.ra = 0#5 → a.rb = 0#5 → coreResult (.nop a) a.tile a.env id))

/-- R329: CSRR of every context register; NOW is sampled up to 16 ns after the issue, when is a free value of the model (log
entry 10); FPFLAGS reads clear; a number not listed reads zero. R334: branches, JAL and JALR move the PC; JALR to a target that is no
multiple of 4 raises IFETCH (2). -/
def Obligations.ContextReadsAndBranches : Prop :=
  (∀ (a : IFmt) (s : State) (i : Inst), issues s a.tile i → a.env.ecc = 0 → a.ra = 0#5 →
    let c := (s.tile a.tile).tc
    let reads (n : Nat) (v : Word) : Prop := a.imm.toNat = n → ∃ s', exec (.csrr a) s = .next s' ∧
      onlyTile s s' a.tile (tileDone (s.tile a.tile) a.env fun c => c.setS a.rd v)
    reads 0x000 (BitVec.ofNat 32 a.tile) ∧ reads 0x001 (BitVec.ofNat 32 s.grade.code) ∧
    reads 0x010 (BitVec.ofNat 32 (i.id % 65536)) ∧ reads 0x011 (BitVec.ofNat 32 i.job.job) ∧
    reads 0x012 (BitVec.ofNat 32 i.job.net) ∧ reads 0x013 (BitVec.ofNat 32 i.job.cls) ∧
    reads 0x014 (BitVec.ofNat 32 i.job.stream) ∧ reads 0x015 (BitVec.ofNat 32 i.job.extra.length) ∧
    reads 0x016 (BitVec.ofNat 32 i.slot) ∧ reads 0x017 i.period ∧
    reads 0x018 (BitVec.ofNat 32 (i.r.getD i.b - i.b)) ∧ reads 0x019 (BitVec.ofNat 32 (i.job.deadlineUs * 1000)) ∧
    (a.imm.toNat = 0x030 → ∃ s', exec (.csrr a) s = .next s' ∧
      onlyTile s s' a.tile (tileDone (s.tile a.tile) a.env fun x =>
        ({ x with fpInvalid := false, fpOverflow := false }).setS a.rd
          (BitVec.ofNat 32 (b2n c.fpInvalid + 2 * b2n c.fpOverflow)))) ∧
    reads 0x020 (BitVec.ofNat 32 (c.cyc + a.env.stall)) ∧
    (a.imm.toNat = 0x021 → ∃ s' k, k ≤ 16 ∧ exec (.csrr a) s = .next s' ∧
      onlyTile { s with free := s.free + 1 } s' a.tile (tileDone (s.tile a.tile) a.env fun c =>
        c.setS a.rd (BitVec.ofNat 32 (s.now + k - i.b)))) ∧
    (∀ n, 0x030 < n → reads n 0#32)) ∧
  (let br (mk : BFmt → Instr) (p : Word → Word → Prop) : Prop :=
    ∀ (a : BFmt) (s : State) (i : Inst), issues s a.tile i → a.env.ecc = 0 →
      let c := (s.tile a.tile).tc
      (p (c.sreg a.ra) (c.sreg a.rb) → ∃ s', exec (mk a) s = .next s' ∧
        onlyTile s s' a.tile (tileDone (s.tile a.tile) a.env id (some (c.pc + 4 * a.off)))) ∧
      (¬ p (c.sreg a.ra) (c.sreg a.rb) → ∃ s', exec (mk a) s = .next s' ∧
        onlyTile s s' a.tile (tileDone (s.tile a.tile) a.env id))
  br .beq (fun x y => x = y) ∧ br .bne (fun x y => x ≠ y) ∧ br .blt (fun x y => x.toInt < y.toInt) ∧
  br .bge (fun x y => y.toInt ≤ x.toInt) ∧ br .bltu (fun x y => x.toNat < y.toNat) ∧
  br .bgeu (fun x y => y.toNat ≤ x.toNat) ∧
  (∀ (a : JFmt) (s : State) (i : Inst), issues s a.tile i → a.env.ecc = 0 →
    ∃ s', exec (.jal a) s = .next s' ∧ onlyTile s s' a.tile
      (tileDone (s.tile a.tile) a.env (fun c => c.setS a.rd ((c.pc + 4).setWidth 32))
        (some (BitVec.ofInt 16 ((s.tile a.tile).tc.pc.toNat + 4 * a.off.toInt))))) ∧
  (∀ (a : IFmt) (s : State) (i : Inst), issues s a.tile i → a.env.ecc = 0 →
    let target := (s.tile a.tile).tc.sreg a.ra + a.imm.signExtend 32
    (target.toNat % 4 = 0 → ∃ s', exec (.jalr a) s = .next s' ∧ onlyTile s s' a.tile
      (tileDone (s.tile a.tile) a.env (fun c => c.setS a.rd ((c.pc + 4).setWidth 32)) (some (target.setWidth 16)))) ∧
    (target.toNat % 4 ≠ 0 → exec (.jalr a) s =
      .next ((s.modTc a.tile fun x => stalled x a.env).raiseExc a.tile i.id a.env 2 (a.word 0x17#6) 0))))

/-- R341, R342: the vector operations, element by element: the integer ones (VSEL writes every element and needs M =
1) and the floating-point ones, rounded once, with their sticky flags. -/
def Obligations.VectorElementResults : Prop :=
  (let r (mk : VFmt → Instr) (ok : VFmt → Prop) (f : Nat → Nat → Nat → Nat) : Prop :=
    ∀ a : VFmt, a.w ≠ 3#2 → (a.m = true ∨ a.pg = 0#2) → ok a →
      let w := 2 ^ a.w.toNat
      coreResult (mk a) a.tile a.env fun c => c.setV a.vd (vmap a.m (c.pred a.pg.toNat) w (c.vreg a.vd) fun k =>
        f w (vget w (c.vreg a.va) k) (vget w (c.vreg a.vb) k))
  let t (_ : VFmt) : Prop := True
  r .vadd t (fun w x y => (x + y) % 2 ^ (8 * w)) ∧ r .vsub t (fun w x y => uns w ((x : Int) - y)) ∧
  r .vmul t (fun w x y => uns w (sgn w x * sgn w y)) ∧
  r .vmulh t (fun w x y => uns w (sgn w x * sgn w y / 2 ^ (8 * w))) ∧
  r .vmin t (fun w x y => if sgn w x ≤ sgn w y then x else y) ∧
  r .vmax t (fun w x y => if sgn w y ≤ sgn w x then x else y) ∧
  r .vminu t (fun _ x y => if x ≤ y then x else y) ∧ r .vmaxu t (fun _ x y => if y ≤ x then x else y) ∧
  r .vand t (fun _ x y => x &&& y) ∧ r .vor t (fun _ x y => x ||| y) ∧ r .vxor t (fun _ x y => x ^^^ y) ∧
  r .vsll t (fun w x y => x * 2 ^ (y % (8 * w)) % 2 ^ (8 * w)) ∧
  r .vsra t (fun w x y => uns w (sgn w x / 2 ^ (y % (8 * w)))) ∧ r .vsrl t (fun w x y => x / 2 ^ (y % (8 * w))) ∧
  r .vadds t (fun w x y => uns w (max (-(2 ^ (8 * w - 1))) (min (2 ^ (8 * w - 1) - 1) (sgn w x + sgn w y)))) ∧
  r .vsubs t (fun w x y => uns w (max (-(2 ^ (8 * w - 1))) (min (2 ^ (8 * w - 1) - 1) (sgn w x - sgn w y)))) ∧
  r .vabs (fun a => a.vb = 0#4) (fun w x _ => uns w (min (2 ^ (8 * w - 1) - 1) (sgn w x).natAbs)) ∧
  r .vrsra t (fun w x y => if y % (8 * w) = 0 then x
    else uns w ((sgn w x + 2 ^ (y % (8 * w) - 1)) / 2 ^ (y % (8 * w)))) ∧
  (∀ a : VFmt, a.w ≠ 3#2 → a.m = true →
    let w := 2 ^ a.w.toNat
    coreResult (.vsel a) a.tile a.env fun c => c.setV a.vd (vmap false 0#32 w 0#256 fun k =>
      if (c.pred a.pg.toNat).getLsbD (w * k) then vget w (c.vreg a.va) k else vget w (c.vreg a.vb) k))) ∧
  (let r (mk : VFmt → Instr) (ok : VFmt → Prop) (f : FFmt → Nat → Nat → Nat → FRes) : Prop :=
    ∀ (a : VFmt) (ft : FFmt), floatW a.w = some ft → (a.m = true ∨ a.pg = 0#2) → ok a →
      let w := ft.width / 8
      coreResult (mk a) a.tile a.env fun c =>
        let p := c.pred a.pg.toNat
        let e := fun k => f ft (vget w (c.vreg a.vd) k) (vget w (c.vreg a.va) k) (vget w (c.vreg a.vb) k)
        let act := (List.range (32 / w)).filter (active a.m p w)
        { c.setV a.vd (vmap a.m p w (c.vreg a.vd) fun k => (e k).bits) with
          fpInvalid := c.fpInvalid || act.any fun k => (e k).inv
          fpOverflow := c.fpOverflow || act.any fun k => (e k).ovf }
  let t (_ : VFmt) : Prop := True
  let b0 (a : VFmt) : Prop := a.vb = 0#4
  r .vfadd t (fun f _ x y => fadd f x y) ∧ r .vfsub t (fun f _ x y => fsub f x y) ∧
  r .vfmul t (fun f _ x y => fmul f x y) ∧ r .vfma t (fun f d x y => ffma f d x y) ∧
  r .vfmin t (fun f _ x y => fminmax f false x y) ∧ r .vfmax t (fun f _ x y => fminmax f true x y) ∧
  r .vfrcp b0 (fun f _ x _ => frcp f x) ∧ r .vfexp2 b0 (fun f _ x _ => fexp2 f x))

/-- R343, R344: comparisons write a predicate; conversions write v[VD]. R345: permutes and sorts. -/
def Obligations.ComparisonsConversionsAndPermutes : Prop :=
  ((∀ a : VFmt, a.w ≠ 3#2 → (a.m = true ∨ a.pg = 0#2) → a.vd.toNat < 4 → a.fn.toNat ≤ 5 →
    let w := 2 ^ a.w.toNat
    coreResult (.vcmp a) a.tile a.env fun c =>
      c.setP a.vd.toNat (predOf w fun k => active a.m (c.pred a.pg.toNat) w k &&
        (let x := vget w (c.vreg a.va) k
         let y := vget w (c.vreg a.vb) k
         match a.fn.toNat with
         | 0 => x == y
         | 1 => x != y
         | 2 => decide (sgn w x < sgn w y)
         | 3 => decide (sgn w x ≤ sgn w y)
         | 4 => decide (x < y)
         | _ => decide (x ≤ y)))) ∧
  (∀ (a : VFmt) (ft : FFmt), floatW a.w = some ft → (a.m = true ∨ a.pg = 0#2) → a.vd.toNat < 4 →
    8 ≤ a.fn.toNat → a.fn.toNat ≤ 10 →
    let w := ft.width / 8
    coreResult (.vcmp a) a.tile a.env fun c =>
      let p := c.pred a.pg.toNat
      let r := fun k => (cmpFloat ft a.fn.toNat (vget w (c.vreg a.va) k) (vget w (c.vreg a.vb) k)).getD (false, false)
      { c.setP a.vd.toNat (predOf w fun k => active a.m p w k && (r k).1) with
        fpInvalid := c.fpInvalid || ((List.range (32 / w)).filter (active a.m p w)).any fun k => (r k).2 }) ∧
  (∀ (a : VFmt) (w : Nat) (l : VReg → VReg → List FRes), a.w = 0#2 → (a.m = true ∨ a.pg = 0#2) →
    (a.vb = 0#4 ∨ a.fn ∈ [4#9, 5#9, 10#9, 13#9]) →
    (∀ x y, convert a.fn.toNat x y = some (w, l x y)) →
    coreResult (.vcvt a) a.tile a.env fun c =>
      let p := c.pred a.pg.toNat
      let e := fun k => (l (c.vreg a.va) (c.vreg a.vb)).getD k { bits := 0 }
      let act := (List.range (32 / w)).filter (active a.m p w)
      { c.setV a.vd (vmap a.m p w (c.vreg a.vd) fun k => (e k).bits) with
        fpInvalid := c.fpInvalid || act.any fun k => (e k).inv
        fpOverflow := c.fpOverflow || act.any fun k => (e k).ovf })) ∧
  ((∀ a : VFmt, a.w = 0#2 → (a.m = true ∨ a.pg = 0#2) → coreResult (.vshuf a) a.tile a.env fun c =>
    c.setV a.vd (vmap a.m (c.pred a.pg.toNat) 1 (c.vreg a.vd) fun j =>
      vget 1 (vof 1 ((velems 1 (c.vreg a.vb)).map fun b => vget 1 (c.vreg a.va) (b % 32))) j)) ∧
  (∀ a : VFmt, a.w ≠ 3#2 → a.m = true → a.vb = 0#4 →
    let w := 2 ^ a.w.toNat
    coreResult (.vcomp a) a.tile a.env fun c => c.setV a.vd (vcomp (c.pred a.pg.toNat) w (c.vreg a.va))) ∧
  (let r (mk : VFmt → Instr) (ok : VFmt → Prop) (f : List Nat → List Nat → List Nat) : Prop :=
    ∀ a : VFmt, a.w = 2#2 → (a.m = true ∨ a.pg = 0#2) → ok a → coreResult (mk a) a.tile a.env fun c =>
      let l := f (velems 4 (c.vreg a.va)) (velems 4 (c.vreg a.vb))
      c.setV a.vd (vmap a.m (c.pred a.pg.toNat) 4 (c.vreg a.vd) fun k => l.getD k 0)
   r .vsort (fun a => a.vb = 0#4) (fun x _ => sortDesc x) ∧
   r .vmrgh (fun _ => True) (fun x y => (sortDesc (x ++ y)).take 8) ∧
   r .vmrgl (fun _ => True) (fun x y => (sortDesc (x ++ y)).drop 8)))

/-- A sort gives the same elements, in descending signed order (R345). -/
def Obligations.SortOrdersDescending : Prop :=
  ∀ l : List Nat, (sortDesc l).Perm l ∧ (sortDesc l).Pairwise fun x y => sgn 4 y ≤ sgn 4 x

/-- R346: the vector-scalar operations but VLUT8. R347, R335: predicates and bindings. -/
def Obligations.VectorScalarAndPredicateResults : Prop :=
  (let pgOk (a : XFmt) : Prop := a.w ≠ 3#2 ∧ a.v2 = 0#4 ∧ (a.m = true ∨ a.pg = 0#2)
  (∀ a : XFmt, pgOk a →
    let w := 2 ^ a.w.toNat
    coreResult (.vbcast a) a.tile a.env fun c =>
      c.setV a.v1 (vmap a.m (c.pred a.pg.toNat) w (c.vreg a.v1) fun _ => (c.sreg a.rs).toNat % 2 ^ (8 * w))) ∧
  (∀ a : XFmt, a.w ≠ 3#2 → a.v2 = 0#4 → a.m = false → a.pg = 0#2 →
    let w := 2 ^ a.w.toNat
    coreResult (.vext a) a.tile a.env fun c => c.setS a.rs (BitVec.ofInt 32 (sgn w (vget w (c.vreg a.v1) 0)))) ∧
  (let r (mk : XFmt → Instr) (f : Nat → List (Nat × Nat) → Word) : Prop := ∀ a : XFmt, pgOk a →
    let w := 2 ^ a.w.toNat
    coreResult (mk a) a.tile a.env fun c =>
      c.setS a.rs (f w (activeElems a.m (c.pred a.pg.toNat) w (c.vreg a.v1)))
   r .vrmax (fun w l => BitVec.ofInt 32 (l.foldl (fun m e => max m (sgn w e.2)) (-(2 ^ (8 * w - 1))))) ∧
   r .vrmin (fun w l => BitVec.ofInt 32 (l.foldl (fun m e => min m (sgn w e.2)) (2 ^ (8 * w - 1) - 1))) ∧
   r .vradd (fun w l => BitVec.ofInt 32 (l.foldl (fun m e => m + sgn w e.2) 0)) ∧
   r .vrargmax (fun w l => BitVec.ofNat 32 (argMax w l))) ∧
  (∀ a : XFmt, a.w ≠ 3#2 → a.m = true → a.v1 = 0#4 → a.v2 = 0#4 →
    let w := 2 ^ a.w.toNat
    coreResult (.vcnt a) a.tile a.env fun c => c.setS a.rs
      (BitVec.ofNat 32 ((List.range (32 / w)).filter fun k => (c.pred a.pg.toNat).getLsbD (w * k)).length))) ∧
  (let r (mk : RFmt → Instr) (f : Word → Word → Word) : Prop :=
    ∀ a : RFmt, a.rd.toNat < 4 → a.ra.toNat < 4 → a.rb.toNat < 4 → coreResult (mk a) a.tile a.env fun c =>
      c.setP a.rd.toNat (f (c.pred a.ra.toNat) (c.pred a.rb.toNat))
  r .pand (fun x y => x &&& y) ∧ r .por (fun x y => x ||| y) ∧ r .pxor (fun x y => x ^^^ y) ∧
  (∀ a : RFmt, a.rd.toNat < 4 → a.ra.toNat < 4 → a.rb = 0#5 → coreResult (.pnot a) a.tile a.env fun c =>
    c.setP a.rd.toNat (~~~(c.pred a.ra.toNat))) ∧
  (∀ a : RFmt, a.rd.toNat < 4 → a.rb = 0#5 → coreResult (.pset a) a.tile a.env fun c =>
    c.setP a.rd.toNat (c.sreg a.ra)) ∧
  (∀ a : RFmt, a.ra.toNat < 4 → a.rb = 0#5 → coreResult (.pget a) a.tile a.env fun c =>
    c.setS a.rd (c.pred a.ra.toNat)) ∧
  (∀ a : RFmt, a.rd.toNat < 8 → a.rb = 0#5 →
    coreResult (.bind a) a.tile a.env (fun c => { c with b := c.b.set a.rd.toNat ((c.sreg a.ra).setWidth 16, false) }) ∧
    coreResult (.bindd a) a.tile a.env (fun c => { c with b := c.b.set a.rd.toNat ((c.sreg a.ra).setWidth 16, true) })))

/-- R336, R337: a load whose access passes writes the bytes of the region, in little-endian order, to its register; an
offset that is no multiple of the width raises ALIGN (3). -/
def Obligations.LoadResults : Prop :=
  let ld (mk : MFmt → Instr) (op : BitVec 6) (n : Nat) (ok : MFmt → Prop) (put : MFmt → Nat → Tc → Tc) : Prop :=
    ∀ (a : MFmt) (s : State) (i : Inst), issues s a.tile i → a.env.ecc = 0 → a.env.dataEcc = 0 → ok a →
      let c := (s.tile a.tile).tc
      let o := (c.sreg a.ra + a.imm.signExtend 32).toNat
      (∀ addrs, o % n = 0 → access s a.tile i (c.bind a.h).1 o n false = .ok addrs →
        ∃ s', exec (mk a) s = .next s' ∧ onlyTile s s' a.tile
          (loadDone (s.tile a.tile) a.env addrs
            (put a (leNat (addrs.map fun k => tget 0#8 (s.tile a.tile).spm.mem k))))) ∧
      (o % n ≠ 0 → exec (mk a) s =
        .next ((s.modTc a.tile fun x => stalled x a.env).raiseExc a.tile i.id a.env 3 (a.word op) 0))
  let any (_ : MFmt) : Prop := True
  ld .lb 0x08#6 1 any (fun a v c => c.setS a.rd ((BitVec.ofNat 8 v).signExtend 32)) ∧
  ld .lbu 0x09#6 1 any (fun a v c => c.setS a.rd (BitVec.ofNat 32 v)) ∧
  ld .lh 0x0A#6 2 any (fun a v c => c.setS a.rd ((BitVec.ofNat 16 v).signExtend 32)) ∧
  ld .lhu 0x0B#6 2 any (fun a v c => c.setS a.rd (BitVec.ofNat 32 v)) ∧
  ld .lw 0x0C#6 4 any (fun a v c => c.setS a.rd (BitVec.ofNat 32 v)) ∧
  ld .vld 0x38#6 32 (fun a => a.rd.getLsbD 0 = false ∧ bits a.imm.toNat 4 0 = 0)
    (fun a v c => c.setV ((a.rd >>> 1).setWidth 4) (BitVec.ofNat 256 v))

/-- R336, R337: a store whose access passes writes exactly the kept bytes at the addresses of the access: every other
byte of the scratchpad reads as before, and so does every other tile. -/
def Obligations.StoreResults : Prop :=
  let st (mk : MFmt → Instr) (n : Nat) (ok : MFmt → Prop) (off : MFmt → BitVec 13) (keep : MFmt → Tc → Nat → Bool)
      (data : MFmt → Tc → List Byte) : Prop :=
    ∀ (a : MFmt) (s : State) (i : Inst) (addrs : List Nat), issues s a.tile i → a.env.ecc = 0 → a.env.dataEcc = 0 → ok a →
      let c := (s.tile a.tile).tc
      let o := (c.sreg a.ra + (off a).signExtend 32).toNat
      o % n = 0 → access s a.tile i (c.bind a.h).1 o n true = .ok addrs → addrs.Nodup →
        ∃ s', exec (mk a) s = .next s' ∧ sansTiles s' = sansTiles s ∧
          (∀ u, u ≠ a.tile → s'.tile u = s.tile u) ∧
          (∀ k, k ∉ addrs → tget 0#8 (s'.tile a.tile).spm.mem k = tget 0#8 (s.tile a.tile).spm.mem k) ∧
          (∀ j x, addrs[j]? = some x → tget 0#8 (s'.tile a.tile).spm.mem x =
            if keep a c j then (data a c).getD j 0#8 else tget 0#8 (s.tile a.tile).spm.mem x) ∧
          (s'.tile a.tile).tc.s = c.s ∧ (s'.tile a.tile).tc.v = c.v ∧ (s'.tile a.tile).tc.p = c.p ∧
          (s'.tile a.tile).tc.b = c.b ∧ (s'.tile a.tile).tc.pc = c.pc + 4
  let sc (n : Nat) (mk : MFmt → Instr) : Prop :=
    st mk n (fun _ => True) (fun a => a.imm) (fun _ _ _ => true) (fun a c => leBytes n (c.sreg a.rd).toNat)
  sc 1 .sb ∧ sc 2 .sh ∧ sc 4 .sw ∧
  st .vst 32 (fun a => a.rd.getLsbD 0 = false ∧ bits a.imm.toNat 4 3 = 0 ∧
      (a.imm.getLsbD 2 = true ∨ bits a.imm.toNat 1 0 = 0))
    (fun a => a.imm &&& 0x1FE0#13)
    (fun a c k => !a.imm.getLsbD 2 || (c.pred (bits a.imm.toNat 1 0)).getLsbD k)
    (fun a c => leBytes 32 (c.vreg ((a.rd >>> 1).setWidth 4)).toNat)

/-- R338, R346: the gathers and VLUT8. R266: each counts the bank conflicts of the words it reads. -/
def Obligations.GatherResults : Prop :=
  let g (mk : GFmt → Instr) (n stride : Nat → Nat → Nat) (ok : Nat → Nat → Nat → Prop) : Prop :=
    ∀ (a : GFmt) (s : State) (i : Inst) (addrs : List (List Nat)), issues s a.tile i → a.env.ecc = 0 → a.env.dataEcc = 0 →
      a.w ≠ 3#2 →
      let c := (s.tile a.tile).tc
      let w := 2 ^ a.w.toNat
      let ra := (c.sreg a.ra).toNat
      let rb := (c.sreg a.rb).toNat
      ok w ra rb →
      ((List.range (n w rb)).map fun k => (ra + k * stride w rb) % 2 ^ 32).mapM
        (fun o => access s a.tile i (c.bind a.h).1 o w false) = .ok addrs →
        ∃ s', exec (mk a) s = .next s' ∧ onlyTile s s' a.tile
          (gatherDone (s.tile a.tile) a.env addrs.flatten (wordsAt addrs.flatten) fun c => c.setV a.vd
            (vof w (addrs.map fun l => leNat (l.map fun k => tget 0#8 (s.tile a.tile).spm.mem k))))
  g .vldt (fun w _ => if w = 4 then 8 else 16) (fun _ rb => rb) (fun w ra rb => ra % w = 0 ∧ rb % w = 0) ∧
  g .vlds (fun w _ => 32 / w) (fun w rb => rb * w) (fun w ra rb => ra % w = 0 ∧ 1 ≤ rb ∧ rb ≤ 64) ∧
  (∀ (a : XFmt) (s : State) (i : Inst) (addrs : List Nat), issues s a.tile i → a.env.ecc = 0 → a.env.dataEcc = 0 →
    a.w = 0#2 → (a.m = true ∨ a.pg = 0#2) →
    let c := (s.tile a.tile).tc
    let r := (c.sreg a.rs).toNat
    bits r 7 3 = 0 → access s a.tile i (c.bind (BitVec.ofNat 3 r)).1 (r / 256 * 256) 256 false = .ok addrs →
      ∃ s', exec (.vlut8 a) s = .next s' ∧ onlyTile s s' a.tile
        (gatherDone (s.tile a.tile) a.env addrs
          (wordsAt (((List.range 32).filter (active a.m (c.pred a.pg.toNat) 1)).map fun k => addrs.getD (vget 1 (c.vreg a.v2) k) 0))
          fun c => c.setV a.v1
          (vmap a.m (c.pred a.pg.toNat) 1 (c.vreg a.v1) fun j =>
            ((addrs.map fun k => tget 0#8 (s.tile a.tile).spm.mem k).getD (vget 1 (c.vreg a.v2) j) 0#8).toNat)))

/-- R364, R349: WDARM inside the dispatch window, WDKICK, WDOFF (that WDARM and WDOFF start the budget afresh is the
model's choice, log entry 24), and WAITC of a completed ticket. R327, R362: HALT with every ticket complete and no
layer open ends the thread; with a layer open it raises DIGEST (11). -/
def Obligations.WatchdogWaitAndHalt : Prop :=
  ((∀ (a : RFmt) (s : State) (i : Inst), issues s a.tile i → a.env.ecc = 0 →
    let c := (s.tile a.tile).tc
    let lo := (c.sreg a.ra).toNat
    let hi := (c.sreg a.rb).toNat
    let n := if c.sreg a.rd = 0#32 then s.img.wdogMarginUs else (c.sreg a.rd).toNat
    lo < hi → (dispatchWindow s i a.tile).1 ≤ lo → hi ≤ (dispatchWindow s i a.tile).2 →
      ∃ s', exec (.wdarm a) s = .next s' ∧ onlyTile s s' a.tile (tileDone (s.tile a.tile) a.env fun c =>
        { c with wdLow := lo, wdHigh := hi, wdBudget := n, wdLeft := n })) ∧
  (∀ a : RFmt, a.rd = 0#5 → a.ra = 0#5 → a.rb = 0#5 →
    coreResult (.wdkick a) a.tile a.env (fun c => { c with wdLeft := c.wdBudget }) ∧
    (∀ (s : State) (i : Inst), issues s a.tile i → a.env.ecc = 0 →
      let w := dispatchWindow s i a.tile
      ∃ s', exec (.wdoff a) s = .next s' ∧ onlyTile s s' a.tile (tileDone (s.tile a.tile) a.env fun c =>
        { c with wdLow := w.1, wdHigh := w.2, wdBudget := s.img.wdogMarginUs, wdLeft := s.img.wdogMarginUs }))) ∧
  (∀ (a : RFmt) (s : State) (i : Inst), issues s a.tile i → a.env.ecc = 0 → a.rb.toNat ≤ 3 →
    let c := (s.tile a.tile).tc
    let k := (c.sreg a.ra).setWidth 16
    ((c.tk a.rb.toNat).completed - k).toNat < 32768 → (c.tk a.rb.toNat).notIssued k = false →
      ∃ s', exec (.waitc a) s = .next s' ∧ onlyTile s s' a.tile (tileDone (s.tile a.tile) a.env fun c =>
        c.setS a.rd ((c.tk a.rb.toNat).word k)))) ∧
  (∀ (a : RFmt) (s : State) (i : Inst), issues s a.tile i → a.env.ecc = 0 → a.rd = 0#5 → a.ra = 0#5 → a.rb = 0#5 →
    let c := (s.tile a.tile).tc
    (c.digOpen = none → (∀ u ≤ 3, (c.tk u).issued = (c.tk u).completed) →
      exec (.halt a) s = .next ((State.threadEnded (State.endThread
        ((s.modTc a.tile fun x => stalled x a.env).modTc a.tile fun c => { c with retired := c.retired + 1, stall := 0 })
        a.tile i.id false) i.id).pagerRun)) ∧
    (c.digOpen ≠ none → exec (.halt a) s =
      .next ((s.modTc a.tile fun x => stalled x a.env).raiseExc a.tile i.id a.env 0x0B (a.word 0x19#6 0x001#11) 0)))

/-- R328: a thread that ends by HALT leaves its core at the entry point: no instance, no claim, no subscription, and
its instance no longer runs on the tile. -/
def Obligations.ThreadEndFreesTheCore : Prop :=
  ∀ (s : State) (t id : Nat) (kill : Bool),
    let s' := s.endThread t id kill
    let c := (s'.tile t).tc
    c.inst = none ∧ c.wdArmed = false ∧ c.claim0 = false ∧ c.claim1 = false ∧ (c.cv 0).holder ≠ .tile ∧
    (c.cv 1).holder ≠ .tile ∧ (s'.tile t).bow.cur = none ∧ (s'.tile t).bow.nxt = none ∧ (s'.tile t).bow.slots = [] ∧
    (∀ k m, m ∈ tget [] c.mbox k → m.inst ≠ id) ∧
    (kill = true → (∀ r, c.sreg r = 0#32) ∧ (∀ r, c.vreg r = 0#256) ∧ (∀ r, c.pred r = 0#32) ∧ c.digOpen = none) ∧
    (∀ i ∈ s'.sch.insts, i.id = id → t ∉ i.running) ∧ (∀ u, u ≠ t → s'.tile u = s.tile u)

/-- R353, R285: ALLOC and FREE go through the tile core → mesh queue; ALLOC hands its request to the allocator and waits
(TC_STATUS.STALL 5); FREE of a live granted handle
of the instance ends its region. R301 to R304, R354: the pager's commands that have their effect on the tile at once.
-/
def Obligations.AllocatorAndPagerCommands : Prop :=
  ((∀ (a : RFmt) (s : State) (i : Inst), issues s a.tile i → a.env.ecc = 0 → meshTakes s a.tile a.env →
    a.rb = 0#5 →
    let x := s.tile a.tile
    ∃ s', exec (.alloc a) s = .next s' ∧ sansTiles s' = sansTiles s ∧ (∀ u, u ≠ a.tile → s'.tile u = s.tile u) ∧
      (s'.tile a.tile).tc = { stalled x.tc a.env with allocRd := some a.rd.toNat, stall := 5 } ∧
      (s'.tile a.tile).spm = x.spm.addReq (allocRequest s i (x.tc.sreg a.ra).toNat a.rd.toNat)) ∧
  (∀ (a : RFmt) (s : State) (i : Inst), issues s a.tile i → a.env.ecc = 0 → meshTakes s a.tile a.env →
    a.rd = 0#5 → a.rb = 0#5 →
    let h := ((s.tile a.tile).tc.sreg a.ra).setWidth 16
    let e := bits h.toNat 6 0
    let x := (s.tile a.tile).spm.ent e
    33 ≤ e → x.live = true → x.gen = bits h.toNat 15 7 → x.inst = i.id →
      exec (.free a) s = .next (coreNext s a.tile a.env fun u => u.endEntries a.tile [e]))) ∧
  ((∀ (a : RFmt) (s : State) (i : Inst), issues s a.tile i → a.env.ecc = 0 → a.rb = 0#5 →
    let k := ((s.tile a.tile).tc.sreg a.ra).toNat
    let n := s.net i.job.net
    let l := n.layer k
    let b := (s.tile a.tile).bow
    s.closedTile a.tile = false → k < n.layers.length → l.pageCount ≠ 0 → (s.subsTo i k).length < l.tiles →
    b.nxt = none → layerPoisoned s i.job.net l = false →
      exec (.pagerSub a) s = .next (coreNext s a.tile a.env fun u =>
        State.pagerRun (State.modTc
          ((u.dropPrefetch i k).modBow a.tile fun b =>
            if b.cur = none then { b with cur := some { net := i.job.net, layer := k, inst := i.id } }
            else { b with nxt := some { net := i.job.net, layer := k, inst := i.id } })
          a.tile fun c => c.setS a.rd (if b.cur = none then 1#32 else 2#32)))) ∧
  (∀ (a : RFmt) (s : State) (i : Inst), issues s a.tile i → a.env.ecc = 0 → a.rb = 0#5 → s.closedTile a.tile = true →
    ∃ s', exec (.pagerSub a) s = .next s' ∧ (s'.tile a.tile).bow.cur = (s.tile a.tile).bow.cur ∧
      (s'.tile a.tile).bow.nxt = (s.tile a.tile).bow.nxt ∧ (s'.tile a.tile).bow.events.getLsbD 0 = true ∧
      (s'.tile a.tile).tc = (tileDone (s.tile a.tile) a.env fun c => c.setS a.rd 0x80000006#32).tc) ∧
  (∀ (a : RFmt) (s : State) (i : Inst) (sub : BowSub), issues s a.tile i → a.env.ecc = 0 → a.rd = 0#5 → a.rb = 0#5 →
    (s.tile a.tile).bow.cur = some sub →
    let k := ((s.tile a.tile).tc.sreg a.ra).toNat
    let l := (s.net i.job.net).layer sub.layer
    ∃ s', exec (.retire a) s = .next s' ∧ onlyTile s s' a.tile
      { tileDone (s.tile a.tile) a.env id with bow := { (s.tile a.tile).bow with
          cur := some { sub with retired := max sub.retired k }
          slots := (s.tile a.tile).bow.slots.map fun p =>
            if p.next = false ∧ p.ended = false ∧ min ((p.page - l.firstPage + 1) * l.bpp) l.total ≤ k then
              { p with marked := true } else p } }) ∧
  (∀ (a : RFmt) (s : State) (i : Inst) (sub : BowSub), issues s a.tile i → a.env.ecc = 0 → a.rd = 0#5 → a.ra = 0#5 →
    a.rb = 0#5 → (s.tile a.tile).bow.cur = some sub →
      exec (.adv a) s = .next (coreNext s a.tile a.env fun u => (u.modBow a.tile fun b => { b with
        cur := b.nxt, nxt := none, slots := b.slots.map fun p =>
          if p.ended then p else if p.next then { p with next := false }
          else { p with ended := true, marked := true } }).pagerRun)))

/-- R311, R354: a part or head read of a bound frame joins the pager's queue, where the tile core → mesh queue takes it, and
returns a ticket of unit P. R351, R352, R363: APASS, MOP and RPUB queue their command and return a ticket of units A, M and
R; R418: the ring engine holds 64 RPUB records, and a further one waits in its tile's mesh queue. -/
def Obligations.ReadsAndUnitCommands : Prop :=
  (let rd (mk : RFmt → Instr) (len : Nat) (off : Word → Nat) (src : State → Inst → Word → Option Nat) : Prop :=
    ∀ (a : RFmt) (s : State) (i : Inst) (p : Nat), issues s a.tile i → a.env.ecc = 0 → meshTakes s a.tile a.env →
      let c := (s.tile a.tile).tc
      let h : Half := (c.sreg a.rb).setWidth 16
      s.closedTile a.tile = false → src s i (c.sreg a.ra) = some p →
      targetBad s a.tile i h (off (c.sreg a.rb)) len = false →
        ∃ s', exec (mk a) s = .next s' ∧
          s'.dram.reads = s.dram.reads ++ [{ tile := a.tile, inst := i.id, ticket := (c.tkP.issued + 1).toNat, src := p,
                                             len := len, handle := h, off := off (c.sreg a.rb) }] ∧
          (s'.tile a.tile).tc = retired ({ (stalled c a.env).setTk 2 c.tkP.issue with
            readsOut := c.readsOut + 1 }.setS a.rd ((c.tkP.issued + 1).setWidth 32)) none ∧
          (∀ u, u ≠ a.tile → s'.tile u = s.tile u) ∧ s'.sch = s.sch ∧ s'.ring = s.ring
  rd .pread 4096 (fun d => 4096 * bits d.toNat 21 16) (fun s i w => do
    let f ← boundFrame i (bits w.toNat 3 0)
    let base ← s.frameStore f
    let g := s.streamCfg (s.frame f).stream
    if bits w.toNat 31 24 = 0 ∧ g.hasPart (bits w.toNat 6 4) (bits w.toNat 15 7) (bits w.toNat 23 16) = true then
      some (base + 4096 * g.partUnit (bits w.toNat 6 4) (bits w.toNat 15 7) (bits w.toNat 23 16))
    else none) ∧
  rd .hread 64 (fun d => 64 * bits d.toNat 27 16) (fun s i w => do
    let f ← boundFrame i (bits w.toNat 3 0)
    let base ← s.frameStore f
    if w.toNat < 16 then some base else none)) ∧
  ((∀ (a : RFmt) (s : State) (i : Inst), issues s a.tile i → a.env.ecc = 0 → a.env.queueEcc = 0 → vOk a.ra = true →
    a.rb = 0#5 → a.ra.getLsbD 0 = false → (s.tile a.tile).arr.queue.length < 8 →
    let c := (s.tile a.tile).tc
    let d := leBytes 32 (c.vreg (vOf a.ra)).toNat ++ leBytes 32 (c.vreg (vOf a.ra + 1)).toNat
    ∃ s' q, exec (.apass a) s = .next s' ∧ onlyTile s s' a.tile
      { tileDone (s.tile a.tile) a.env (fun c => c.takeTicket 0 a.rd) with
        arr := { (s.tile a.tile).arr with queue := (s.tile a.tile).arr.queue ++ [q] } } ∧
      q.bytes = d ∧ q.inst = i.id ∧ q.ticket = (c.tkA.issued + 1).toNat ∧ q.digest = c.digOpen ∧
      (q.layer, q.ecode) = bindPass s a.tile i d) ∧
  (∀ (a : RFmt) (s : State) (i : Inst), issues s a.tile i → a.env.ecc = 0 → a.env.queueEcc = 0 → vOk a.ra = true →
    a.rb = 0#5 → (s.tile a.tile).spm.memQ.length < 4 →
    let c := (s.tile a.tile).tc
    ∃ s', exec (.mop a) s = .next s' ∧ onlyTile s s' a.tile
      { tileDone (s.tile a.tile) a.env (fun c => c.takeTicket 1 a.rd) with
        spm := { (s.tile a.tile).spm with memQ := (s.tile a.tile).spm.memQ ++
          [{ bytes := leBytes 32 (c.vreg (vOf a.ra)).toNat, inst := i.id, ticket := (c.tkM.issued + 1).toNat }] } }) ∧
  (∀ (a : RFmt) (s : State) (i : Inst) (addrs : List Nat), issues s a.tile i → a.env.ecc = 0 → a.env.dataEcc = 0 →
    vOk a.ra = true → a.rb = 0#5 →
    let c := (s.tile a.tile).tc
    let d := leBytes 32 (c.vreg (vOf a.ra)).toNat
    let u := field d 2 1
    field d 2 1 < 2 → field d 3 1 < 2 → field d 0x0C 20 = 0 → s.isCrc16 a.tile u = false → c.rpubOut < 2 →
    field d 4 4 % 4 = 0 →
    access s a.tile i (BitVec.ofNat 16 (field d 0 2)) (field d 4 4) (field d 8 4) false = .ok addrs →
    (s.ring.rpub.length + s.ring.rpubWait.length < 64 ∨ meshFull s a.tile a.env = false) →
      ∃ s' q, exec (.rpub a) s = .next s' ∧
        (s.ring.rpub.length < 64 ∧ s.ring.rpubWait = [] →
          s'.ring.rpub = s.ring.rpub ++ [q] ∧ s'.ring.rpubWait = []) ∧
        (¬(s.ring.rpub.length < 64 ∧ s.ring.rpubWait = []) →
          s'.ring.rpub = s.ring.rpub ∧ s'.ring.rpubWait = s.ring.rpubWait ++ [q]) ∧ q.tile = a.tile ∧ q.inst = i.id ∧
        q.ticket = (c.tkR.issued + 1).toNat ∧ q.unit = u ∧ q.final = (field d 3 1 == 1) ∧ q.ring = i.job.ring ∧
        q.payload = addrs.map (fun k => tget 0#8 (s.tile a.tile).spm.mem k) ∧
        (s'.tile a.tile).tc.tkR.issued = c.tkR.issued + 1 ∧ (s'.tile a.tile).tc.rpubOut = c.rpubOut + 1 ∧
        (s'.tile a.tile).tc.pc = c.pc + 4 ∧ s'.sch = s.sch ∧ s'.dram = s.dram))

/-- R355, R357: SEND puts its message on the network through the tile core → mesh queue; RECV takes the oldest entry of its instance; MCOUNT counts them.
R358: RLDV and RSTV reach a STATE region on any tile; GEN reads its generation. -/
def Obligations.MessageAndRemoteStateCommands : Prop :=
  ((∀ (a : RFmt) (s : State) (i : Inst), issues s a.tile i → a.env.ecc = 0 → meshTakes s a.tile a.env → a.rd = 0#5 →
    vOk a.rb = true →
    let c := (s.tile a.tile).tc
    let w := (c.sreg a.ra).toNat
    w < 2048 → s.grade.hasTile (bits w 7 0) = true → c.returned.length < 2 →
      ∃ s', exec (.send a) s = .next s' ∧
        s'.flight = s.flight ++ [{ src := a.tile, dst := bits w 7 0, mbox := bits w 10 8, inst := i.id,
                                   data := c.vreg (vOf a.rb) }] ∧
        (∀ u, s'.tile u = if u = a.tile then tileDone (s.tile a.tile) a.env id else s.tile u) ∧
        sansTiles { s' with flight := s.flight } = sansTiles s) ∧
  (∀ (a : RFmt) (s : State) (i : Inst) (m : Msg) (l : List Msg), issues s a.tile i → a.env.ecc = 0 → a.env.dataEcc = 0 →
    vOk a.rb = true →
    let c := (s.tile a.tile).tc
    let k := (c.sreg a.ra).toNat % 8
    (tget [] c.mbox k).filter (fun x => x.inst == i.id) = m :: l →
      ∃ s', exec (.recv a) s = .next s' ∧ onlyTile s s' a.tile (tileDone (s.tile a.tile) a.env fun c =>
        ({ c with mbox := tput [] c.mbox k ((tget [] c.mbox k).erase m) }.setV (vOf a.rb) m.data).setS a.rd
          (BitVec.ofNat 32 (m.src + match m.pos with
            | some p => 256 + 512 * p
            | none => 0)))) ∧
  (∀ a : RFmt, a.rb = 0#5 → ∀ (s : State) (i : Inst), issues s a.tile i → a.env.ecc = 0 →
    ∃ s', exec (.mcount a) s = .next s' ∧ onlyTile s s' a.tile (tileDone (s.tile a.tile) a.env fun c =>
      c.setS a.rd (BitVec.ofNat 32
        ((tget [] c.mbox ((c.sreg a.ra).toNat % 8)).filter fun x => x.inst == i.id).length)))) ∧
  ((∀ (a : RFmt) (s : State) (i : Inst) (t : Nat) (h : Half) (addrs : List Nat), issues s a.tile i → a.env.ecc = 0 →
    a.env.dataEcc = 0 → vOk a.rd = true →
    let c := (s.tile a.tile).tc
    let o := (c.sreg a.rb).toNat
    remoteAddr s (c.sreg a.ra).toNat = .ok (t, h) → o % 32 = 0 → access s t i h o 32 false = .ok addrs →
      ∃ s', exec (.rldv a) s = .next s' ∧ sansTiles s' = sansTiles s ∧
        (s'.tile a.tile).tc = (tileDone (s.tile a.tile) a.env fun c => c.setV (vOf a.rd)
          (BitVec.ofNat 256 (leNat (addrs.map fun k => tget 0#8 (s.tile t).spm.mem k)))).tc ∧
        (∀ u, (s'.tile u).spm.mem = (s.tile u).spm.mem) ∧ (∀ u, u ≠ a.tile → u ≠ t → s'.tile u = s.tile u)) ∧
  (∀ (a : RFmt) (s : State) (i : Inst) (t : Nat) (h : Half) (addrs : List Nat), issues s a.tile i → a.env.ecc = 0 →
    vOk a.rd = true →
    let c := (s.tile a.tile).tc
    let o := (c.sreg a.rb).toNat
    remoteAddr s (c.sreg a.ra).toNat = .ok (t, h) → o % 32 = 0 → access s t i h o 32 true = .ok addrs → addrs.Nodup →
      ∃ s', exec (.rstv a) s = .next s' ∧ sansTiles s' = sansTiles s ∧
        (s'.tile a.tile).tc = (tileDone (s.tile a.tile) a.env id).tc ∧
        (∀ j x, addrs[j]? = some x →
          tget 0#8 (s'.tile t).spm.mem x = (leBytes 32 (c.vreg (vOf a.rd)).toNat).getD j 0#8) ∧
        (∀ k, k ∉ addrs → tget 0#8 (s'.tile t).spm.mem k = tget 0#8 (s.tile t).spm.mem k) ∧
        (∀ u, u ≠ t → (s'.tile u).spm = (s.tile u).spm)) ∧
  (∀ (a : RFmt) (s : State) (i : Inst) (t : Nat) (h : Half) (r : StateReg), issues s a.tile i → a.env.ecc = 0 →
    a.rb = 0#5 →
    remoteAddr s ((s.tile a.tile).tc.sreg a.ra).toNat = .ok (t, h) →
    (s.tile t).spm.states[(bits h.toNat 6 0 - 1) / 2]? = some r →
      ∃ s', exec (.gen a) s = .next s' ∧
        onlyTile s s' a.tile (tileDone (s.tile a.tile) a.env fun c => c.setS a.rd r.gen)))

/-- R359 to R361: the check-value units; a command to a unit that the thread does not hold raises NOCLAIM (8). R362:
the digest unit. -/
def Obligations.CheckValueAndDigestCommands : Prop :=
  (let cv (mk : RFmt → Instr) (fn : BitVec 11) (ok : RFmt → Prop) (f : State → RFmt → Tc → Tc) : Prop :=
    ∀ (a : RFmt) (s : State) (i : Inst), issues s a.tile i → a.env.ecc = 0 → a.rb.toNat < 2 → ok a →
      (((s.tile a.tile).tc.cv a.rb.toNat).holder = .tile →
        ∃ s', exec (mk a) s = .next s' ∧ onlyTile s s' a.tile (tileDone (s.tile a.tile) a.env (f s a))) ∧
      (((s.tile a.tile).tc.cv a.rb.toNat).holder ≠ .tile → exec (mk a) s =
        .next ((s.modTc a.tile fun x => stalled x a.env).raiseExc a.tile i.id a.env 8 (a.word 0x1E#6 fn) 0))
  let run (c : Tc) (u : Nat) : Word := (c.cv u).run
  let feed (n : Nat) (s : State) (a : RFmt) (c : Tc) : Tc :=
    c.setRun a.rb.toNat (s.cvFeed a.tile a.rb.toNat (run c a.rb.toNat) (leBytes n (c.sreg a.ra).toNat))
  cv .init 0x001#11 (fun a => a.rd = 0#5 ∧ a.ra = 0#5) (fun s a c => c.setRun a.rb.toNat
    (if s.isCrc16 a.tile a.rb.toNat then 0xFFFF#32 else 0xFFFFFFFF#32)) ∧
  cv .feedb 0x002#11 (fun a => a.rd = 0#5) (feed 1) ∧ cv .feedh 0x003#11 (fun a => a.rd = 0#5) (feed 2) ∧
  cv .feedw 0x004#11 (fun a => a.rd = 0#5) (feed 4) ∧
  cv .feedv 0x005#11 (fun a => a.rd = 0#5 ∧ vOk a.ra = true) (fun s a c =>
    c.setRun a.rb.toNat (s.cvFeed a.tile a.rb.toNat (run c a.rb.toNat) (leBytes 32 (c.vreg (vOf a.ra)).toNat))) ∧
  cv .cvRead 0x006#11 (fun a => a.ra = 0#5) (fun s a c => c.setS a.rd
    (if s.isCrc16 a.tile a.rb.toNat then run c a.rb.toNat else ~~~(run c a.rb.toNat))) ∧
  (∀ (a : RFmt) (s : State) (i : Inst), issues s a.tile i → a.env.ecc = 0 → a.rb.toNat < 2 → a.rd = 0#5 → a.ra = 0#5 →
    ((s.tile a.tile).tc.cv a.rb.toNat).holder = .none → (s.tile a.tile).tc.waiters a.rb.toNat = [] →
      ∃ s', exec (.claim a) s = .next s' ∧ ((s'.tile a.tile).tc.cv a.rb.toNat).holder = .tile ∧
        (s'.tile a.tile).tc.pc = (s.tile a.tile).tc.pc + 4 ∧ sansTiles s' = sansTiles s ∧
        (∀ u, u ≠ a.tile → s'.tile u = s.tile u)) ∧
  (∀ (a : RFmt) (s : State) (i : Inst), issues s a.tile i → a.env.ecc = 0 → a.rb.toNat < 2 → a.rd = 0#5 → a.ra = 0#5 →
      ∃ s', exec (.cvRelease a) s = .next s' ∧ ((s'.tile a.tile).tc.cv a.rb.toNat).holder ≠ .tile ∧
        (s'.tile a.tile).tc.pc = (s.tile a.tile).tc.pc + 4 ∧ sansTiles s' = sansTiles s ∧
        (∀ u, u ≠ a.tile → s'.tile u = s.tile u))) ∧
  ((∀ (a : RFmt) (s : State) (i : Inst), issues s a.tile i → a.env.ecc = 0 → a.rd = 0#5 → a.rb = 0#5 →
    let k := ((s.tile a.tile).tc.sreg a.ra).toNat
    (s.tile a.tile).tc.digOpen = none → k < (s.net i.job.net).layers.length →
      ∃ s', exec (.dopen a) s = .next s' ∧
        (s'.tile a.tile).tc = (tileDone (s.tile a.tile) a.env fun c => { c with
          digOpen := some k, digArr := 0#64, digArrData := [], digArrAny := false, digCore := 0#64, digCoreN := 0,
          digCoreData := [] }).tc ∧
        (∀ j ∈ s'.sch.insts, j.id = i.id → (k, a.tile) ∈ j.openLayers) ∧ (∀ u, u ≠ a.tile → s'.tile u = s.tile u)) ∧
  (∀ (a : RFmt) (s : State) (i : Inst) (k : Nat), issues s a.tile i → a.env.ecc = 0 → a.rd = 0#5 → a.ra = 0#5 → a.rb = 0#5 →
    let x := s.tile a.tile
    x.tc.digOpen = some k → (∀ q ∈ x.arr.queue ++ x.arr.running, q.inst ≠ i.id) →
      exec (.dclose a) s = .next (State.closeLayer
        ((s.modTc a.tile fun x => stalled x a.env).modTc a.tile fun c => { c with
          digOpen := none, retired := c.retired + 1, stall := 0, pc := c.pc + 4, cyc := c.cyc + 1 }) a.tile i.id k
        (if x.tc.digArrAny = false ∧ x.tc.digCoreN = 0 then none
         else some (crc64 (x.tc.digArrData ++ x.tc.digCoreData))))) ∧
  (∀ a : RFmt, a.ra = 0#5 → a.rb = 0#5 →
    coreResult (.dreadl a) a.tile a.env (fun c => c.setS a.rd (c.digCore.setWidth 32)) ∧
    coreResult (.dreadh a) a.tile a.env (fun c => c.setS a.rd ((c.digCore >>> 32).setWidth 32))))

/-- R331, R332, R365: an instruction with a reserved field that is not zero raises ILLEGAL (1), and a fetch outside
the watchdog window WDOG (7), outside the code blocks IFETCH (2). -/
def Obligations.IllegalFieldsAndBadFetches : Prop :=
  (∀ a : RFmt, a.rb ≠ 0#5 → raises (.clz a) a.tile a.env (a.word 0x00#6 0x020#11) 1 ∧
    raises (.popc a) a.tile a.env (a.word 0x00#6 0x021#11) 1) ∧
  (∀ a : IFmt, a.ra ≠ 0#5 → raises (.lui a) a.tile a.env (a.word 0x06#6) 1 ∧
    raises (.csrr a) a.tile a.env (a.word 0x18#6) 1) ∧
  (∀ a : IFmt, 3 ≤ bits a.imm.toNat 15 5 → raises (.shi a) a.tile a.env (a.word 0x07#6) 1) ∧
  (∀ a : VFmt, a.w = 3#2 → raises (.vadd a) a.tile a.env (a.word 0x30#6 0x00#9) 1 ∧
    raises (.vfadd a) a.tile a.env (a.word 0x31#6 0x00#9) 1) ∧
  (∀ (a : RFmt) (s : State) (i : Inst) (k : Nat), s.grade.hasTile a.tile = true → (s.tile a.tile).tc.inst = some i.id →
    s.inst i.id = some i → (s.tile a.tile).tc.allocRd = none → fetchCause s i a.tile (s.tile a.tile).tc = some k →
      (k = 7 ∨ k = 2) ∧ exec (.add a) s =
        .next ((s.modTc a.tile fun x => stalled x a.env).raiseExc a.tile i.id a.env k (a.word 0x00#6 0x000#11) 0))

/-- R324, R333: s0 reads as zero and ignores writes; another register holds what was written to it, all others
standing. -/
def Obligations.RegisterFileLaws : Prop :=
  ∀ (c : Tc) (r q : BitVec 5) (v : Word), c.s.length = 32 →
    c.sreg 0#5 = 0#32 ∧ c.setS 0#5 v = c ∧ (r ≠ 0#5 → (c.setS r v).sreg r = v) ∧
    (q ≠ r → (c.setS r v).sreg q = c.sreg q) ∧ (c.setS r v).s.length = 32

/-- R80, R93, R95: the resets of the main domain. R93, R97, R494: the internal reset release; R89, R98: the PLLs' lock
starts device time at 0 within 40 µs. R86 to R88, R111, R401: retention standby. -/
def Obligations.ResetsAndStandby : Prop :=
  ((∀ s : State, ∃ t, exec .coldStart s = .next t ∧ heldInReset s t ∧ t.evr.ring = [] ∧ t.evr.next = 0#32 ∧
    t.evr.starts = 0#32 ∧ t.aon.causes = 1#5 ∧ t.aon.thermShdnN = true ∧ t.aon.oscRunning = true) ∧
  (∀ s : State, ∃ t, exec .alwaysOnReset s = .next t ∧ heldInReset s t ∧ t.aon.aonReset = true ∧ t.aon.pwrEnMain = false) ∧
  (∀ s : State, s.awake = true → ∃ t, exec .brownout s = .next t ∧ heldInReset s t ∧ retained s t ∧
    t.aon.causes = setBit s.aon.causes 1) ∧
  (∀ s : State, s.awake = true → s.evr.flushing = false → ∃ t, exec .pinReset s = .next t ∧ heldInReset s t ∧
    retained s t ∧ t.aon.causes = setBit s.aon.causes 2 ∧ t.aon.resetN = false) ∧
  (∀ s : State, s.awake = true → s.evr.flushing = true →
    exec .pinReset s = .next { s with aon := { s.aon with
      resetN := false, pinAfterFlush := true
      resetT := if s.aon.pinAfterFlush || s.aon.softAfterFlush then s.aon.resetT else s.sys.uptimeNs } }) ∧
  (∀ (path : Port) (v : Word) (s : State), s.pview path = true → keyed v = true → s.evr.flushing = false →
    ∃ t, exec (.softReset path v) s = .next t ∧ heldInReset s t ∧ t.aon.softHold = true ∧
      t.aon.causes = setBit s.aon.causes 3) ∧
  (∀ s : State, exec .softResetHoldExpiry s = .next { s with aon := { s.aon with softHold := false } })) ∧
  ((∀ (straps : BitVec 9) (s : State), s.aon.mainReset = true → s.awake = true → s.aon.softHold = false →
    s.aon.pwrEnMain = true → s.evr.queue = [] →
    ∃ t e, exec (.internalResetRelease straps) s = .next t ∧ t.aon.mainReset = false ∧ t.aon.causes = 0#5 ∧
      t.sys.straps = straps.setWidth 32 ∧ t.sys.rstCause = BitVec.ofNat 32 (firstCause s.aon.causes) ∧
      t.evr.starts = s.evr.starts + 1 ∧ t.evr.queue = [e] ∧ e.code = 0x0101#16 ∧ e.source = 0xFFFF#16 ∧
      e.arg = BitVec.ofNat 64 (firstCause s.aon.causes + straps.toNat * 256 + (s.evr.starts + 1).toNat * 2 ^ 32) ∧
      t.evr.ring = s.evr.ring ∧ t.hoist = s.hoist) ∧
  (∀ s : State, s.aon.mainReset = false → s.aon.pllLocked = false →
    ∃ t, exec .pllLock s = .next t ∧ t.aon.pllLocked = true ∧ t.dev = 0 ∧ t.ready 0 = true ∧ t.ready 1 = true ∧
      t.ready 3 = true ∧ t.sys.uptimeNs ≤ 40000 ∧ t.tiles = s.tiles ∧ t.prd = s.prd)) ∧
  ((∀ (path : Port) (v : Word) (s : State), s.pview path = true → keyed v = true → s.aon.standby = .none →
    s.prd.gen ≠ .idle → ∃ t, exec (.standbyRequest path v) s = .next t ∧ t.aon = { s.aon with standby := .requested } ∧
      t.prd = s.prd ∧ t.tiles = s.tiles) ∧
  (∀ s : State, s.aon.aonReset = false → s.aon.oscRunning = true → s.aon.standby = .asleep →
    exec (.wakeRise true) s =
      .next { s with aon := { s.aon with wake := true, standby := .none, pwrEnMain := true, wakeLatched := false } } ∧
    exec (.wakeRise false) s = .next { s with aon := { s.aon with wake := true, wakeLatched := true } }) ∧
  (∀ s : State, s.aon.oscRunning = false → ∀ p, exec (.wakeRise p) s = .next s) ∧
  (∀ s : State, s.aon.standby = .asleep → s.aon.wakeLatched = true → s.aon.oscRunning = true →
    exec .pwrEnMainRise s =
      .next { s with aon := { s.aon with standby := .none, pwrEnMain := true, wakeLatched := false } }) ∧
  (∀ s : State, exec .aonOscillatorStop s = .next { s with aon := { s.aon with oscRunning := false } }) ∧
  (∀ s : State, s.aon.standby = .waitL2 → s.pcie.l0 = true → ∃ t, exec .pmeTurnOff s = .next t ∧ t.aon.standby = .asleep ∧
    t.aon.pwrEnMain = false ∧ t.aon.mainReset = true ∧ t.aon.causes = setBit s.aon.causes 4 ∧ t.evr.ring = s.evr.ring))

/-- R79 to R84, R104: the monitors; a condition that arises is handed to the period generator (`State.condition`).
The moment of HOLDOVER's advisory report is the model's (log entry 49). A temperature sample is taken where no bound on time
falls due by then (R86, R95). -/
def Obligations.MonitorsOfSupplyClockAndTemperature : Prop :=
  (∀ (bit t : Nat) (a : CapoIn) (s : State), s.monitored = true → bit ≤ 11 →
    let u := (s.advanceTo t).monBits (setBit 0#32 bit)
    exec (.supplyMonitorCross bit t a) s =
      .next (State.condition { u with sys := { u.sys with supplyCond := true } } 1 a)) ∧
  (∀ (t : Nat) (s : State), let u := s.advanceTo t
    exec (.supplyConditionClear t) s = .next { u with sys := { u.sys with
      supplyCond := false, monStatus := u.sys.monStatus &&& 0xFFFFF000#32 } }) ∧
  (∀ (pll t : Nat) (a : CapoIn) (s : State), s.monitored = true → pll ≤ 4 →
    let u := ((s.advanceTo t).monBits (setBit 0#32 (16 + pll))).clrRdy 0
    exec (.pllLockLoss pll t a) s = .next (State.condition { u with sys := { u.sys with clockCond := true } } 2 a)) ∧
  (∀ (off : BitVec 5) (t : Nat) (a : CapoIn) (s : State), s.monitored = true → off ≠ 0#5 →
    let u := ((s.advanceTo t).monBits (off.setWidth 32 <<< 16)).clrRdy 0
    exec (.pllFreqWindowEnd off t a) s =
      .next (State.condition { u with sys := { u.sys with clockCond := true } } 2 a)) ∧
  (∀ (t : Nat) (a : CapoIn) (s : State), s.monitored = true → s.aon.oscRunning = true → s.prd.gen = .idle →
    ∃ u, exec (.referenceLoss t a) s = .next u ∧ u.aon.refPresent = false ∧ u.sys.clockCond = true ∧
      u.ready 0 = false ∧ u.sys.monEvents.getLsbD 21 = true ∧ u.pen.acc.holdover = true ∧
      u.saf.faults = setBit s.saf.faults 18) ∧
  (∀ (t : Nat) (s : State), s.monitored = true → s.sys.clockCond = true → s.aon.pllLocked = true →
    ∃ u, exec (.clockConditionClear t) s = .next u ∧ u.sys.clockCond = false ∧ u.aon.refPresent = true ∧
      u.ready 0 = true ∧ u.sys.monStatus = s.sys.monStatus &&& 0xFFC0FFFF#32) ∧
  (∀ (chan t : Nat) (a : CapoIn) (s : State), s.monitored = true → chan < s.grade.channels → s.prd.gen = .idle →
    ∃ u, exec (.ddrPllLockLoss chan t a) s = .next u ∧ u.sys.ddrPllLost = true ∧ chan ∈ u.sys.ddrChanLost ∧
      u.sys.monEvents.getLsbD 22 = true) ∧
  (∀ s : State, s.monitored = true → ∃ u, exec .pcieSerdesPllLoss s = .next u ∧ u.pcie.l0 = false ∧ u.ready 2 = false ∧
    u.sys.monEvents.getLsbD 23 = true ∧ u.tiles = s.tiles) ∧
  (∀ (k : Nat) (s : State), s.monitored = true → k < s.grade.links → (s.link k).st = .up →
    s.sch.insts = [] → ∃ u, exec (.courseTxPllLoss k) s = .next u ∧ (u.link k).st = .down ∧ (u.link k).cause = 4 ∧
      (u.link k).downs = (s.link k).downs + 1 ∧ u.sys.monEvents.getLsbD 23 = true) ∧
  (∀ (x : Int) (l : List Int) (t : Nat) (a : CapoIn) (s : State), s.monitored = true → s.prd.gen = .idle →
    (x :: l).length ≤ s.grade.sensors → (∀ m ∈ x :: l, s.grade.tLimit < m ∧ m < s.grade.tLimit + 10000) →
    s.sys.monStatus.getLsbD 24 = false → (s.advanceTo t).timeDue = s.advanceTo t →
      ∃ u, exec (.tempSample (x :: l) t a) s = .next u ∧ u.sys.thermCond = true ∧
        u.sys.monEvents.getLsbD 24 = true ∧ u.sys.monStatus.getLsbD 25 = true ∧ u.aon = s.aon ∧
        u.sys.tempMax = BitVec.ofInt 16 (((x :: l).map tempRound).foldl max (tempRound x)))

/-- R493, R495, R497: an event is held in the 64-entry queue or lost; EVENT_ENTRY_WRITE, whatever errors have arisen in the
retention SRAM, writes the oldest one, or suppresses a repeat of the period. R510: an uncorrectable entry is read as a DAMAGED
one with the sequence number its index implies, and ECC_UNCORR is raised. -/
def Obligations.EventsAreQueuedAndWritten : Prop :=
  (∀ (s : State) (code src arg : Nat) (inj : Bool), s.evr.queue.length < 64 →
    (s.logEv code src arg inj) =
      { s with evr := { s.evr with queue := s.evr.queue ++ [mkEntry s code src arg inj] } }) ∧
  (∀ (s : State) (code src arg : Nat) (inj : Bool), 64 ≤ s.evr.queue.length →
    (s.logEv code src arg inj).evr.queue = s.evr.queue ∧ (s.logEv code src arg inj).evr.lost = s.evr.lost + 1 ∧
    (s.logEv code src arg inj).evr.events = setBit s.evr.events 0) ∧
  (∀ (s : State) (e : EvrEntry) (l : List EvrEntry) (ups : List (Nat × Nat)), s.aon.mainReset = false →
    s.evr.queue = e :: l → s.evr.lostPend = 0 →
    (alwaysCodes.contains e.code.toNat = true ∨ s.evr.seen.contains (entryKey e) = false →
      ∃ t, exec (.eventEntryWrite ups) s = .next t ∧ t.evr.queue = l ∧ t.evr.next = s.evr.next + 1 ∧
        tget 0 t.evr.upset (s.evr.next.toNat % 4096) = 0 ∧
        tget {} t.evr.ring (s.evr.next.toNat % 4096) = { e with seq := s.evr.next } ∧
        (∀ k, k ≠ s.evr.next.toNat % 4096 → tget {} t.evr.ring k = tget {} s.evr.ring k) ∧ t.hoist = s.hoist ∧
        t.tiles = s.tiles) ∧
    (alwaysCodes.contains e.code.toNat = false → s.evr.seen.contains (entryKey e) = true →
      exec (.eventEntryWrite ups) s = .next { s with evr := { s.evr with
        upset := (s.upsetRing ups).evr.upset
        queue := l, suppressed := s.evr.suppressed + 1, suppPend := s.evr.suppPend + 1 } })) ∧
  (∀ (s : State) (i : Nat), i < 4096 →
    (tget 0 s.evr.upset i = 0 → s.readEntry i = (tget {} s.evr.ring i, s)) ∧
    (tget 0 s.evr.upset i = 1 → s.readEntry i = (tget {} s.evr.ring i, s.reportEccCorr)) ∧
    (2 ≤ tget 0 s.evr.upset i →
      (s.readEntry i).1.code = 0xFFFE#16 ∧ (s.readEntry i).1.seq.toNat % 4096 = i ∧
      (s.evr.next - 1 - (s.readEntry i).1.seq).toNat < 4096 ∧
      (s.readEntry i).2.saf.faults = setBit s.saf.faults 1 ∧ (s.readEntry i).2.tiles = s.tiles)) ∧
  (∀ (path : Port) (v : Word) (s : State), s.pview path = true →
    exec (.evrMarkWrite path v) s = .next (s.logEv 0x0702 (pathSource path) v.toNat)) ∧
  (∀ (path : Port) (v : Word) (s : State), s.pview path = false → exec (.evrMarkWrite path v) s = .next s)

/-- R78, R500 to R509, R514: the power-fail flush and what follows it. R501: the programs of a flush and their order; each only
clears bits of the flash. R505, R514: an erase that is cut leaves any state between the slot as it was and a blank one. -/
def Obligations.PowerFailFlush : Prop :=
  (∀ s : State, s.aon.mainReset = false → s.aon.standby = .none → s.evr.flushing = false → s.evr.arm = .armed →
    s.evr.queue = [] →
    ∃ t, exec .pwrFailNFall s = .next t ∧ t.aon.pwrFailN = false ∧ t.evr.flushing = true ∧ t.evr.arm = .flushing ∧
      t.sys.monEvents.getLsbD 26 = true ∧ t.evr.next = s.evr.next + 1 ∧
      (tget {} t.evr.ring (s.evr.next.toNat % 4096)).code = 0x0106#16 ∧ t.tiles = s.tiles ∧ t.prd = s.prd ∧
      t.evr.flash = s.evr.flash ∧ (∃ h bs, h.length = 256 ∧ t.evr.todo = flushPrograms h bs)) ∧
  (∀ s : State, s.aon.mainReset = false → s.aon.standby ≠ .asleep → s.evr.flushing = true →
    ∃ t, exec .pwrFailNFall s = .next t ∧ t.evr = { s.evr with events := setBit s.evr.events 5 } ∧ t.tiles = s.tiles) ∧
  (∀ s : State, s.evr.flushing = true → s.aon.pinAfterFlush = false → s.aon.softAfterFlush = false →
    s.aon.standby = .none →
    ∃ t, exec .flushDone s = .next t ∧ t.evr.arm = .spent ∧ t.evr.flushing = false ∧
      t.evr.flushes = s.evr.flushes + 1 ∧ (t.evrSlot s.evr.target).st = 4 ∧ t.aon = s.aon ∧
      (∀ k, tget 0xFF#8 t.evr.flash k = s.evr.todo.foldl (fun b p =>
        let a := slotBase s.evr.target + p.1
        if a ≤ k ∧ k < a + p.2.length then b &&& p.2.getD (k - a) 0#8 else b) (tget 0xFF#8 s.evr.flash k))) ∧
  (∀ s : State, s.evr.arm = .erasing → s.evr.flushing = false → Memory.wf 0xFF#8 s.evr.flash = true →
    (∃ t, exec .flashOpAbandon s = .next t ∧ erasedPartly s t ∧ t.evr.arm = .unarmed ∧ t.evr.faulty = true ∧
      t.evr.events = setBit s.evr.events 6 ∧ t.tiles = s.tiles ∧ t.prd = s.prd ∧ t.hoist = s.hoist) ∧
    (∃ t, exec (.slotEraseDone false) s = .next t ∧ erasedPartly s t ∧ t.evr.arm = .unarmed ∧ t.evr.faulty = true ∧
      t.evr.events = setBit s.evr.events 6 ∧ t.tiles = s.tiles ∧ t.prd = s.prd ∧ t.hoist = s.hoist) ∧
    ∃ t, exec (.slotEraseDone true) s = .next t ∧ t.evr.arm = .armed ∧ (t.evrSlot s.evr.target) = {} ∧
      (∀ k, tget 0xFF#8 t.evr.flash k =
        if slotBase s.evr.target ≤ k ∧ k < slotBase s.evr.target + 65536 then 0xFF#8
        else tget 0xFF#8 s.evr.flash k)) ∧
  (∀ s : State, s.evr.arm ≠ .spent → exec .recorderRearm s = .next { s with aon := { s.aon with pwrFailN := true } }) ∧
  (∀ s : State, s.evr.arm = .spent → s.evr.faulty = false →
    ∃ t, exec .recorderRearm s = .next t ∧ t.evr.target = 1 - s.evr.target ∧ t.aon.pwrFailN = true ∧
      t.evr.arm = (if s.slotErased (1 - s.evr.target) then .armed else .erasing) ∧ t.evr.flash = s.evr.flash)

/-- R416, R417, R418, R425: a record is taken into the open page, committed to the host, or queued where the host grants
no credit, its page published; a STALLED ring gets its summary and runs again once that is published. R402, R412, R426, R427: a posted write goes out at once or waits in order; the
write stall begins and ends. The order of arrival between own records and RPUB records, and INDEX of an own record, are the
model's (log entry 36). -/
def Obligations.RecordsPagesAndPostedWrites : Prop :=
  ((∀ (t : Nat) (s : State) (q : RecReq) (l : List RecReq) (p : RingPage), s.ring.own = q :: l → q.own = true →
    s.ring.rings.any (fun x => x.2.xfer.isSome) = false → (s.ringOf q.ring).run = true →
    (s.ringOf q.ring).stalled = false → s.ring.writeStall = false → (s.ringOf q.ring).openP = some p →
    p.used + recSize q.payload.length ≤ 4032 →
    let v := (s.advanceTo t).admitRpub
    (∀ x, v.nextRpub = some x → q.arrival < x.arrival) →
    ∃ u, exec (.recordTake t) s = .next u ∧ u.ring.own = l ∧
      (u.ringOf q.ring).xfer = some { item := q, firstPage := p.num, off := p.used, size := recSize q.payload.length,
                                      index := q.place, tTake := (s.advanceTo t).now,
                                      close := (s.ringOf q.ring).close } ∧
      u.ring.hostMem = s.ring.hostMem ∧ u.sch = s.sch ∧ u.tiles = v.tiles) ∧
  (∀ (k t : Nat) (s : State) (x : Xfer) (p : RingPage), s.ring.posted = [] → s.hostOpen = true →
    (s.ringOf k).xfer = some x → x.item.own = true → x.fresh = 0 → (s.ringOf k).openP = some p → x.close = 0 →
    let bs := recBytes (s.advanceTo t) x.item x.index x.tTake
    (∃ u, exec (.recordCommit k t false) s = .next u ∧ (u.ringOf k).xfer = none ∧ u.ring.hostMem = s.ring.hostMem ∧
      (u.ringOf k).records = (s.ringOf k).records + 1 ∧
      u.ring.posted = splitWrite s.maxPayload bs.length (pageAddr s k x.firstPage + 64 + x.off) bs) ∧
    ∃ u, exec (.recordCommit k t true) s = .next u ∧ (u.ringOf k).xfer = none ∧
      (u.ringOf k).records = (s.ringOf k).records + 1 ∧
      (u.ringOf k).openP.map (fun p => (p.records, p.used)) = some (p.records + 1, p.used + bs.length) ∧
      (∀ j b, bs[j]? = some b → tget 0#8 u.ring.hostMem (pageAddr s k x.firstPage + 64 + x.off + j) = b) ∧
      (∀ a, (a < pageAddr s k x.firstPage + 64 + x.off ∨ pageAddr s k x.firstPage + 64 + x.off + bs.length ≤ a) →
        tget 0#8 u.ring.hostMem a = tget 0#8 s.ring.hostMem a) ∧ u.sch = s.sch ∧ u.tiles = s.tiles) ∧
  (∀ (k : Nat) (s : State) (p : RingPage), (s.ringOf k).closed = [p] → p.pend = [] → p.spanNext = false →
    s.mirrorOn = false → s.ring.posted = [] → s.hostOpen = true →
    ∃ u, exec (.pagePublish k) s = .next u ∧ (u.ringOf k).prod = (s.ringOf k).prod + 1 ∧ (u.ringOf k).closed = [] ∧
      u.ring.hostMem = memWrite 0#8 s.ring.hostMem (pageAddr s k p.num) (pageHead k p) ∧ u.tiles = s.tiles) ∧
  (∀ (k t : Nat) (s : State), (s.ringOf k).run = true → (s.ringOf k).stalled = true → (s.ringOf k).summary = true →
    s.ring.writeStall = false → (s.ringOf k).held < s.ringPages k → (s.ringOf k).closed.any RingPage.isSummary = false →
    ∃ u, exec (.summaryPlace k t) s = .next u ∧
      ((s.ringOf k).closed = [] → (s.ringOf k).openP = none → (u.ringOf k).stalled = false ∧ (u.ringOf k).summary = false) ∧
      (∀ p l, (s.ringOf k).closed = p :: l → p.pend ≠ [] → (u.ringOf k).stalled = true ∧ (u.ringOf k).summary = true) ∧
      (u.ringOf k).records = (s.ringOf k).records + 1 ∧ (u.ringOf k).next = (s.ringOf k).next + 1 ∧
      (u.ringOf k).sumDropped = 0 ∧ (u.ringOf k).sumAbandoned = 0 ∧ u.tiles = s.tiles ∧ u.sch = s.sch)) ∧
  ((∀ (s : State) (a : Nat) (bs : List Byte),
    (s.hostOpen = true → s.ring.posted = [] →
      (s.post a bs) = { s with ring := { s.ring with hostMem := memWrite 0#8 s.ring.hostMem a bs } }) ∧
    (s.hostOpen = false ∨ s.ring.posted ≠ [] →
      (s.post a bs) = { s with ring := { s.ring with 
        posted := s.ring.posted ++ splitWrite s.maxPayload bs.length a bs } })) ∧
  (∀ (m n a : Nat) (bs : List Byte), 0 < m → bs.length ≤ n → ∀ x ∈ splitWrite m n a bs,
    ∃ b c, x = .write b c ∧ 0 < c.length ∧ c.length ≤ m ∧ b % 4096 + c.length ≤ 4096) ∧
  (∀ (t : Nat) (s : State), s.ring.posted ≠ [] → s.hostOpen = false → s.ring.writeStall = false →
    ∃ u, exec (.writeStallBegin t) s = .next u ∧ u.ring.writeStall = true ∧ u.ring.stalls = s.ring.stalls + 1) ∧
  (∀ (t : Nat) (s : State), s.ring.writeStall = true → s.pcie.l0 = true → s.pcie.command.getLsbD 2 = true →
    s.pcie.dstate = 0 → ∃ u, exec (.writeStallEnd t) s = .next u ∧ u.ring.writeStall = false ∧ u.ring.posted = [] ∧
      u.ring.resyncs = s.ring.resyncs + 1 ∧ u.tiles = s.tiles ∧ u.sch = s.sch))

/-- R411, R413, R431, R432: the RING block's registers. R428: host DMA starts, ends, and is refused or aborted. How
much an aborted transfer wrote is a free value of the model (log entry 10). -/
def Obligations.RingRegistersAndHostDma : Prop :=
  ((∀ (path : Port) (k : Nat) (v : Word) (s : State), s.ringWritable path k = true → v.getLsbD 0 = true →
    (s.ringOf k).run = false → ∃ u, exec (.ringRunStart path k v) s = .next u ∧ (u.ringOf k).run = true ∧
      (u.ringOf k).prod = 0#32 ∧ (u.ringOf k).cons = 0#32 ∧ (u.ringOf k).next = 0#32 ∧ (u.ringOf k).stalled = false ∧
      (u.ringOf k).summary = false ∧ (u.ringOf k).openP = none ∧ (u.ringOf k).closed = [] ∧
      (u.ringOf k).close = closeMode (s.ringOf k).close v ∧ (u.ringOf k).base = (s.ringOf k).base ∧
      (∀ j, j ≠ k → u.ringOf j = s.ringOf j) ∧ u.tiles = s.tiles) ∧
  (∀ (path : Port) (k : Nat) (v : Word) (s : State), s.ringWritable path k = true → v.getLsbD 0 = false →
    (s.ringOf k).run = true → (s.ringOf k).xfer = none →
      ∃ u, exec (.ringRunStop path k v) s = .next u ∧ (u.ringOf k).run = false ∧ (u.ringOf k).openP = none ∧
      (u.ringOf k).prod = (s.ringOf k).prod ∧ (u.ringOf k).cons = (s.ringOf k).cons ∧
      (∀ j, j ≠ k → u.ringOf j = s.ringOf j) ∧ u.tiles = s.tiles) ∧
  (∀ (path : Port) (k : Nat) (v : Word) (s : State), s.ringWritable path k = true → (s.ringOf k).run = false →
    exec (.ringBaseWrite path k false v) s = .next (s.modRing k fun r =>
      { r with base := BitVec.ofNat 64 (r.base.toNat / 2 ^ 32 * 2 ^ 32 + v.toNat / 4096 * 4096) }) ∧
    exec (.ringBaseWrite path k true v) s = .next (s.modRing k fun r =>
      { r with base := BitVec.ofNat 64 (v.toNat * 2 ^ 32 + r.base.toNat % 2 ^ 32) })) ∧
  (∀ (path : Port) (k : Nat) (hi : Bool) (v : Word) (s : State), s.ringWritable path k = true →
    (s.ringOf k).run = true → exec (.ringBaseWrite path k hi v) s = .next (s.modRing k fun r =>
      { r with events := setBit r.events 5 })) ∧
  (∀ (path : Port) (k : Nat) (v : Word) (s : State), s.ringWritable path k = true → (s.ringOf k).run = true →
    ((v - (s.ringOf k).cons).toNat ≤ ((s.ringOf k).prod - (s.ringOf k).cons).toNat →
      exec (.ringConsWrite path k v) s = .next (s.modRing k fun r => { r with cons := v })) ∧
    (((s.ringOf k).prod - (s.ringOf k).cons).toNat < (v - (s.ringOf k).cons).toNat →
      exec (.ringConsWrite path k v) s = .next (s.modRing k fun r => { r with events := setBit r.events 2 }))) ∧
  (∀ (path : Port) (v : Word) (s : State), s.reach path = true →
    (v.getLsbD 0 = false → exec (.ringMirrorWrite path false v) s =
      .next { s with ring := { s.ring with mirrorLo := v &&& 0xFFFFF001#32 } }) ∧
    (s.ring.mirrorLo.getLsbD 0 = false → exec (.ringMirrorWrite path true v) s =
      .next { s with ring := { s.ring with mirrorHi := v } }) ∧
    (v.getLsbD 0 = true → exec (.ringMirrorWrite path false v) s =
      .next (State.fullRewrite { s with ring := { s.ring with mirrorLo := v &&& 0xFFFFF001#32 } })) ∧
    (s.ring.mirrorLo.getLsbD 0 = true → exec (.ringMirrorWrite path true v) s =
      .next (State.fullRewrite { s with ring := { s.ring with mirrorHi := v } })))) ∧
  ((∀ (path : Port) (v : Word) (s : State), s.pview path = true → v.getLsbD 0 = true → s.hdma.state ≠ 1 →
    s.dram.trained = true → s.hdma.src.toNat % 64 = 0 → s.hdma.dst.toNat % 64 = 0 → s.hdma.len.toNat % 64 = 0 →
    64 ≤ s.hdma.len.toNat → s.hdma.len.toNat ≤ 2 ^ 24 →
    s.hdma.src.toNat + s.hdma.len.toNat ≤ s.dram.capacityMiB * 2 ^ 20 →
      exec (.hdmaStart path v) s = .next { s with hdma := { s.hdma with
        state := 1, code := 0, bytes := 0#32
        curSrc := s.hdma.src.toNat, curDst := s.hdma.dst.toNat, curLen := s.hdma.len.toNat } }) ∧
  (∀ (path : Port) (v : Word) (s : State), s.pview path = true → v.getLsbD 0 = true → s.hdma.state ≠ 1 →
    s.dram.trained = false →
      exec (.hdmaStart path v) s = .next { s with hdma := { s.hdma with state := 3, code := 2 } }) ∧
  (∀ (s : State), s.hdma.state = 1 → s.hostOpen = true → s.ring.writeStall = false → s.ring.posted = [] →
    s.dramLost s.hdma.curSrc s.hdma.curLen = false →
    ∃ u, exec .hdmaDone s = .next u ∧ u.hdma.state = 2 ∧ u.hdma.code = 0 ∧ u.hdma.bytes = BitVec.ofNat 32 s.hdma.curLen ∧
      (∀ j, j < s.hdma.curLen → tget 0#8 u.ring.hostMem (s.hdma.curDst + j) =
        tget 0#8 s.dram.mem (s.hdma.curSrc + j)) ∧
      (∀ a, (a < s.hdma.curDst ∨ s.hdma.curDst + s.hdma.curLen ≤ a) →
        tget 0#8 u.ring.hostMem a = tget 0#8 s.ring.hostMem a) ∧ u.dram.mem = s.dram.mem) ∧
  (∀ (path : Port) (v : Word) (s : State), s.pview path = true → v.getLsbD 1 = true → s.hdma.state = 1 →
    ∃ u, exec (.hdmaAbort path v) s = .next u ∧ u.hdma.state = 3 ∧ u.hdma.code = 4 ∧
      u.hdma.bytes.toNat ≤ s.hdma.curLen ∧ u.dram.mem = s.dram.mem ∧ u.tiles = s.tiles))

/-- R154 to R158, R170, R608: CSI-2 packets at a port that takes frames. That a frame end which finds no frame open is an
orphan is the model's reading (log entry 49). -/
def Obligations.CsiPackets : Prop :=
  (∀ (port vc n t : Nat) (h : CsiHdr) (s : State), s.portTakes 0 port = true → h.full = false →
    let u := (s.advanceTo t).csiHeader port h
    exec (.csiFs port vc n t h) s = .next ((u.vcStreams port vc).foldl (fun x k => x.openFrame k n (u.stamp t)) u) ∧
    let w := (u.vcStreams port vc).foldl (fun x k => x.expire k (u.stamp t) true) u
    (u.vcStreams port vc ≠ [] → (∀ k ∈ u.vcStreams port vc, w.openFid k = none) →
      exec (.csiFe port vc n t h) s = .next (w.csiOrphan port)) ∧
    (u.vcStreams port vc = [] ∨ (∃ k ∈ u.vcStreams port vc, w.openFid k ≠ none) → exec (.csiFe port vc n t h) s =
      .next ((u.vcStreams port vc).foldl (fun x k => x.endFrame k true (u.stamp t)) w))) ∧
  (∀ (k raw t : Nat) (s : State), (s.stream k).openF = none → s.streamReady k = true →
    let u := s.openFrame k raw t
    u.openFid k = some s.strm.nextF ∧ u.strm.nextF = s.strm.nextF + 1 ∧ (u.stream k).startT = BitVec.ofNat 64 t ∧
      u.frame s.strm.nextF = { stream := k, start := t, raw := raw, windowEnd := s.windowEndOf k t } ∧
      (u.stream k).ring = (s.stream k).ring ++ [.opened s.strm.nextF] ∧ (∀ j, j ≠ k → u.stream j = s.stream j) ∧
      (∀ f, f ≠ s.strm.nextF → u.frame f = s.frame f)) ∧
  (∀ (k f t : Nat) (s : State), (s.stream k).openF = some f →
    let u := s.endFrame k true t
    let full := s.streamReady k = false ∧ 16 ≤ ((s.stream k).ring.filter LandItem.isEvent).length
    u.openFid k = none ∧ (u.frame f).hasEof = true ∧ (u.frame f).portOpen = false ∧
      (¬full → (u.stream k).ring = (s.stream k).ring ++ [.eofEv f t]) ∧
      (full → (u.stream k).ring = dropFirst LandItem.isEvent (s.stream k).ring ++ [.eofEv f t]) ∧
      (∀ j, j ≠ k → u.stream j = s.stream j)) ∧
  (∀ (port vc n : Nat) (h : CsiHdr) (s : State), s.portTakes 0 port = true → h.full = false →
    ∃ u, exec (.csiLs port vc n h) s = .next u ∧ (∀ k, k ∈ s.vcStreams port vc → (u.stream k).lsNum = some n) ∧
      (∀ k, k ∉ s.vcStreams port vc → u.stream k = s.stream k) ∧ u.tiles = s.tiles ∧ u.sch = s.sch) ∧
  (∀ (port vc n : Nat) (h : CsiHdr) (s : State), s.portTakes 0 port = true →
    exec (.csiLe port vc n h) s = .next (s.csiHeader port h)) ∧
  (∀ (port : Nat) (h : CsiHdr) (s : State), s.portTakes 0 port = true →
    (∀ k ∈ [CsiDiscard.generic, .null, .blanking], exec (.csiDiscardPacket port k h) s = .next (s.csiHeader port h)) ∧
    (s.csiHeader port h).csiPort port = { s.csiPort port with
      pkts := (s.csiPort port).pkts + 1, eccCorr := (s.csiPort port).eccCorr + (if h.corr then 1 else 0)
      dropFull := (s.csiPort port).dropFull + (if h.full then 1 else 0)
      events := if h.full then setBit (s.csiPort port).events 3 else (s.csiPort port).events } ∧
    exec (.csiDiscardPacket port .headerError h) s = .next (s.modCsi port fun x =>
      { x with pkts := x.pkts + 1, hdrErr := x.hdrErr + 1, events := setBit x.events 0 })) ∧
  (∀ (a : CsiPkt) (s : State), s.portTakes 0 a.port = true → a.hdr.full = false → a.dt ≠ 0x10 → a.dt ≠ 0x11 →
    let u := (s.advanceTo a.t).csiHeader a.port a.hdr
    ((u.vcStreams a.port a.vc).find? (fun k => ((u.streamCfg k).key.getD 1 0#8).toNat == a.dt) = none →
      a.crcOk = true → exec (.csiLongPacket a) s =
        .next (u.modCsi a.port fun x => { x with unmatched := x.unmatched + 1 })) ∧
    (∀ k f, (u.vcStreams a.port a.vc).find? (fun k => ((u.streamCfg k).key.getD 1 0#8).toNat == a.dt) = some k →
      (a.crcOk = false → exec (.csiLongPacket a) s =
        .next ((u.modStream k fun x => { x with lsNum := none }).modCsi a.port fun x =>
          { x with crcErr := x.crcErr + 1, events := setBit x.events 1 })) ∧
      (a.crcOk = true → (u.stream k).openF = none → exec (.csiLongPacket a) s =
        .next ((u.modStream k fun x => { x with lsNum := none }).csiOrphan a.port)) ∧
      (a.crcOk = true → (u.stream k).openF = some f → (∀ e, (u.frame f).windowEnd = some e → u.stamp a.t < e) →
        (u.streamCfg k).lineNum = false → (u.streamCfg k).cvScope = 0 → a.data.length = (u.streamCfg k).lineBytes →
        (u.frame f).nextRow < (u.streamCfg k).height → (u.frame f).nextRow ∉ (u.frame f).placed →
        ∀ x, u.freeSlotOf k = some x → ∃ w, exec (.csiLongPacket a) s = .next w ∧ (w.frame f).nextRow = (u.frame f).nextRow + 1 ∧
          (w.frame f).placed = (u.frame f).nextRow :: (u.frame f).placed ∧
          (w.stream k).ring = (u.stream k).ring ++ [.line f (u.frame f).nextRow a.data x] ∧ w.tiles = u.tiles))) ∧
  (∀ (port : Nat) (s : State), s.named 0 port = true → s.ready 0 = true →
    exec (.csiClockLaneChange port true) s = .next (s.modCsi port fun x => { x with clkLane := true }) ∧
    ((s.csiPort port).clkLane = true → exec (.csiClockLaneChange port false) s =
      .next ((s.modCsi port fun x => { x with clkLane := false, events := setBit x.events 4 }).logEv 0x0503 port 0))) ∧
  (∀ (port : Nat) (ok : Bool) (s : State), s.aon.pllLocked = true → port < s.grade.csi → (s.csiPort port).calibrated = false →
    (s.csiPort port).calFail = false → exec (.dphyCalibrationDone port ok) s =
      .next (State.refreshPorts (s.modCsi port fun x => { x with calibrated := ok, calFail := !ok })) ∧
    (s.ready 9 = false → State.refreshPorts s = s))

/-- R160 to R168, R184, R185, R188: Ethernet and 10BASE-T1S. -/
def Obligations.EthernetAndT1s : Prop :=
  (∀ (a : EthIn) (s : State), s.portTakes 1 a.port = true →
    let u := (s.advanceTo a.t).modEth a.port fun x => { x with frames := x.frames + 1 }
    (a.full = false → a.fcsOk = true → 60 ≤ a.data.length → a.data.length ≤ 9212 →
      exec (.ethFrame a) s = .next (u.ethTake a.port (u.stamp a.t) (ethVerdict a.port a.data))) ∧
    (a.full = false → a.fcsOk = false → exec (.ethFrame a) s = .next (u.modEth a.port fun x =>
      { x with fcsErr := x.fcsErr + 1, events := setBit x.events 0 })) ∧
    (a.full = true → exec (.ethFrame a) s = .next (u.modEth a.port fun x =>
      { x with dropFull := x.dropFull + 1, events := setBit x.events 3 }))) ∧
  (∀ (port k t : Nat) (id p : List Byte) (q : Byte) (s : State),
    (s.ethStream port 1 id = some k →
      s.ethTake port t (.avtp id q p) = (if s.streamReady k then s.noteSeq k q else s).handSegment 1 port k t p) ∧
    (s.ethStream port 1 id = none → s.ethTake port t (.avtp id q p) =
      s.modEth port fun x => { x with unmatched := x.unmatched + 1 }) ∧
    (s.ethStream port 2 id = some k → s.ethTake port t (.udp id p) = s.handSegment 1 port k t p)) ∧
  (∀ (port rate : Nat) (s : State), port < s.grade.eth → 1 ≤ rate → rate ≤ 4 → exec (.ethLinkUp port rate) s =
    .next (State.refreshPorts (s.modEth port fun x => { x with link := true, rate := rate }))) ∧
  (∀ (port : Nat) (s : State), (s.ethPort port).link = true →
    let u := ((State.clrPort (s.modEth port fun x => { x with link := false, events := setBit x.events 4 })
      (portBit 1 port)).refreshStreams).logEv 0x0503 (256 + port) 0
    exec (.ethLinkDown port) s = .next (if port = 0 then u.setCapable false else u)) ∧
  (∀ (path : Port) (port : Nat) (v : Word) (s : State), s.pview path = true → port < s.grade.eth →
    (∃ u, exec (.ethAddrWrite path port false v) s = .next u ∧
      ((u.ethPort port).addrXor ^^^ ethAddrReset s port).toNat =
        ((s.ethPort port).addrXor ^^^ ethAddrReset s port).toNat / 2 ^ 32 * 2 ^ 32 + v.toNat ∧
      (u.ethPort port).txXor = (s.ethPort port).txXor ∧ u.tiles = s.tiles) ∧
    (∃ u, exec (.ethAddrWrite path port true v) s = .next u ∧
      ((u.ethPort port).addrXor ^^^ ethAddrReset s port).toNat =
        v.toNat % 2 ^ 16 * 2 ^ 32 + ((s.ethPort port).addrXor ^^^ ethAddrReset s port).toNat % 2 ^ 32 ∧
      (u.ethPort port).txXor = (s.ethPort port).txXor ∧ u.tiles = s.tiles)) ∧
  (∀ (path : Port) (port : Nat) (hi : Bool) (v : Word) (s : State), s.pview path = false →
    exec (.ethAddrWrite path port hi v) s = .next s) ∧
  (∀ (a : T1sIn) (k : Nat) (s : State), s.portTakes 3 a.port = true → a.fcsOk = true → 60 ≤ a.data.length →
    a.data.length ≤ 1514 → (s.t1sPort a.port).recovering = false → (s.t1sPort a.port).opp ≠ 0 →
    (s.portStreams 3 a.port).find? (fun k => ((s.streamCfg k).key.headD 0#8).toNat == (s.t1sPort a.port).opp) = some k →
    exec (.t1sFrame a) s = .next (State.nextOpp (State.handSegment ((s.advanceTo a.t).modT1s a.port fun x =>
      { x with frames := x.frames + 1 }) 3 a.port k ((s.advanceTo a.t).stamp a.t) (a.data.drop 14)) a.port)) ∧
  (∀ (port : Nat) (s : State), (s.t1sPort port).plca = true → (s.t1sPort port).recovering = false →
    exec (.plcaOpportunityExpiry port) s = .next (s.modT1s port fun x =>
      if x.opp + 1 < s.nodes port then { x with opp := x.opp + 1 } else { x with opp := 0, cycles := x.cycles + 1 })) ∧
  (∀ (port : Nat) (c : Bool) (s : State), (s.t1sPort port).plca = true → exec (.plcaRecovery port c) s =
    .next ((s.modT1s port fun x => { x with
      recovering := true, recoveries := x.recoveries + 1, events := setBit x.events 4
      collisions := if c then x.collisions + 1 else x.collisions }).logEv 0x0503 (0x300 + port) 1)) ∧
  (∀ (port : Nat) (s : State), (s.t1sPort port).recovering = true → exec (.plcaRecoverySilenceEnd port) s =
    .next (s.modT1s port fun x => { x with recovering := false, opp := 0 })) ∧
  (∀ (q : SegReq) (l : List SegReq) (s : State), s.strm.stopped = false → s.strm.segQ = q :: l → (s.streamCfg q.stream).cvScope = 0 →
    let u : State := { s with strm := { s.strm with segQ := l } }
    (q.data.length ≠ 8 + (q.data.getD 1 0#8).toNat * (s.streamCfg q.stream).lineBytes →
      exec .segment s = .next (u.segMalformed q)) ∧
    (q.data.length = 8 + (q.data.getD 1 0#8).toNat * (s.streamCfg q.stream).lineBytes →
      ((q.data.getD 0 0#8).getLsbD 7 = true → exec .segment s =
        .next ((u.openFrame q.stream (segFrame (s.streamCfg q.stream) q.data) q.t).segLines q)) ∧
      ((q.data.getD 0 0#8).getLsbD 7 = false → (s.stream q.stream).openF = none →
        exec .segment s = .next (u.segOrphan q))))

/-- R174, R175, R176, R195, R197, R202 to R218, R226, R227: windows, lines, bands, completion and the stores, in every state in
which intake has not stopped. A frame still open when its window ends completes without an EOF; the line at the head of a
stream's ring is stored, fails its check, or leaves without effect where its frame is dropped; a band is built once its rows
are present; a frame whose completing event has been taken out settles; the stores are reserved from the bottom of the spill
area. -/
def Obligations.FramesAndLines : Prop :=
  (∀ (k f e : Nat) (s : State), s.strm.stopped = false → (s.stream k).openF = some f → (s.frame f).windowEnd = some e →
    let full := s.streamReady k = false ∧ 16 ≤ ((s.stream k).ring.filter LandItem.isEvent).length
    (s.now < e → exec (.frameWindowEnd k) s = .next s) ∧
    (e ≤ s.now → ∃ u, exec (.frameWindowEnd k) s = .next u ∧ u.openFid k = none ∧ (u.frame f).hasEof = false ∧
      (u.frame f).portOpen = false ∧ (¬full → (u.stream k).ring = (s.stream k).ring ++ [.endEv f e]) ∧
      (full → (u.stream k).ring = dropFirst LandItem.isEvent (s.stream k).ring ++ [.endEv f e]) ∧
      (∀ j, j ≠ k → u.stream j = s.stream j) ∧ (∀ g, g ≠ f → u.frame g = s.frame g) ∧ u.tiles = s.tiles)) ∧
  (∀ (k w f row : Nat) (ecc : Option Nat) (data : List Byte) (x : LandSlot) (l : List LandItem) (s : State),
    (s.stream k).wasReady = true → s.strm.stopped = false → (s.stream k).ring = .line f row data x :: l →
    (s.frame f).pre = false → (l = [] ∨ ∃ i j d y m, l = .line i j d y :: m ∧ (s.frame i).pre = false) →
    let c := s.streamCfg k
    let stored (u : State) : Prop := (u.stream k).ring = l ∧ u.strm.lines = s.strm.lines + 1 ∧
      tget [] (u.frame f).rows row = convertLine c (data.take c.lineBytes) ∧
      (∀ r, r ≠ row → tget [] (u.frame f).rows r = tget [] (s.frame f).rows r) ∧ (u.frame f).placed = (s.frame f).placed
    let failed (u : State) : Prop := (u.stream k).ring = l ∧ u.strm.lines = s.strm.lines ∧
      (u.frame f).rows = (s.frame f).rows ∧ (u.frame f).placed = (s.frame f).placed.filter (fun r => r != row) ∧
      (u.frame f).guard.getLsbD 1 = true ∧ u.strm.cvFailC = s.strm.cvFailC + 1
    ((s.frame f).dropped = true → ∃ u, exec (.lineCheck k w ecc) s = .next u ∧ (u.stream k).ring = l ∧
      u.strm.lines = s.strm.lines ∧ (u.frame f).rows = (s.frame f).rows) ∧
    ((s.frame f).dropped = false → ∀ e, ecc = some e → ∃ u, exec (.lineCheck k w ecc) s = .next u ∧ failed u ∧
      u.saf.faults = setBit s.saf.faults 1) ∧
    ((s.frame f).dropped = false → ecc = none → c.cvScope = 0 → ∃ u, exec (.lineCheck k w ecc) s = .next u ∧ stored u) ∧
    ((s.frame f).dropped = false → ecc = none → c.cvScope = 1 → s.unitLost k = true →
      ∃ u, exec (.lineCheck k w ecc) s = .next u ∧ failed u ∧ (u.frame f).guard.getLsbD 5 = true) ∧
    (∀ t, (s.frame f).dropped = false → ecc = none → c.cvScope = 1 → s.cvTile k = some t → s.excluded t = false →
      ((s.tile t).tc.cv c.cvUnit).holder = .none → (s.tile t).tc.waiters c.cvUnit = [] →
      let v := s.cvFinal t c.cvUnit (s.cvFeed t c.cvUnit (s.cvInit t c.cvUnit) (data.take c.lineBytes))
      let got := data.drop c.lineBytes
      (leBytes got.length v.toNat = got → ∃ u, exec (.lineCheck k w ecc) s = .next u ∧ stored u) ∧
      (leBytes got.length v.toNat ≠ got → ∃ u, exec (.lineCheck k w ecc) s = .next u ∧ failed u))) ∧
  (∀ (k level band fid a : Nat) (f : Frame) (s : State), s.strm.stopped = false →
    s.strm.frm.find? (fun x => x.2.stream == k && x.2.engaged && x.2.state == .opened && !x.2.dropped &&
      s.buildable x.1 level band) = some (fid, f) → s.frameStore fid = some a →
    let c := s.streamCfg (s.frame fid).stream
    let n := c.bandParts level band
    let tag := a + 64 + 16 * (s.frame fid).parts
    ∃ u, exec (.bandBuild k level band) s = .next u ∧ (u.frame fid).built = (level, band) :: (s.frame fid).built ∧
      (u.frame fid).parts = (s.frame fid).parts + (if c.produced level then n else 0) ∧
      u.strm.partsC = s.strm.partsC + BitVec.ofNat 64 n ∧
      (∀ x, ¬(c.bandAddr a level band ≤ x ∧ x < c.bandAddr a level band + 4096 * n) → ¬(tag ≤ x ∧ x < tag + 16 * n) →
        tget 0#8 u.dram.mem x = tget 0#8 s.dram.mem x) ∧
      (∀ g, g ≠ fid → u.frame g = s.frame g) ∧ u.tiles = s.tiles) ∧
  (∀ (k t : Nat) (x : Nat × Frame) (s : State), s.strm.stopped = false →
    let v := s.drainFrameEvents k
    v.strm.frm.find? (fun x => x.2.stream == k && x.2.closing && x.2.state == .opened) = some x →
    exec (.frameCompletion k t) s = .next (((v.advanceTo t).settleFrame k x.1).drainFrameEvents k)) ∧
  (∀ (k fid : Nat) (s : State), (∀ i ∈ s.sch.insts, fid ∉ i.bound) →
    let u := s.settleFrame k fid
    (u.frame fid).state ≠ .opened ∧ (u.frame fid).settled = s.now ∧
      (u.frame fid).missing = (s.streamCfg k).height - (s.frame fid).placed.length ∧
      (u.stream k).frames = (s.stream k).frames + 1 ∧ (u.stream k).lastFrame = (s.frame fid).ext ∧
      (∀ g, g ≠ fid → u.frame g = s.frame g)) ∧
  (∀ (c : StreamCfg) (f : Frame),
    (f.dropped = true → outcome c f = .dropped) ∧
    (f.dropped = false → f.guard.getLsbD 6 = false → f.hasEof = true → c.height ≤ f.placed.length → f.excess = 0 →
      f.intervalBad = false → outcome c f = .delivered) ∧
    (f.dropped = false → f.guard.getLsbD 6 = false → (f.hasEof = false ∨ f.placed.length < c.height) →
      outcome c f = if c.dropShort = true ∨ c.cvScope = 2 then .dropped else .degraded)) ∧
  (∀ (s : State), s.ready 14 = true → s.img.step6Done = true → s.dram.spillFixed = true → s.dram.storesDone = false →
    let top := (s.dram.spillBase + s.dram.spillMiB) * 2 ^ 20
    ∃ u, exec .frameStoreReserve s = .next u ∧ u.dram.storesDone = true ∧ u.tiles = s.tiles ∧
      s.dram.spillBase * 2 ^ 20 ≤ u.dram.slotBase ∧ (u.dram.slotBase ≤ top) ∧
      u.dram.slotCount = min ((top - u.dram.slotBase) / 4096) (127 * s.grade.tiles.length) ∧
      (s.img.streams = [] → u.dram.slotBase = s.dram.spillBase * 2 ^ 20) ∧
      (∀ k ∈ s.img.streams.map (·.1), (u.stream k).storeBase ≠ none ∨ (u.stream k).noStore = true) ∧ u.dram.mem = s.dram.mem)

/-- R179 to R183: the timebase's messages, its states and its step. -/
def Obligations.TimebaseMessages : Prop :=
  (∀ (a : SyncIn) (s : State), (s.advanceTo a.t).gptpUp = true → a.domain = 0 →
    let u := s.advanceTo a.t
    (a.oneStep = true → exec (.gptpSync a) s = .next { u with tb := { u.tb with onestep := u.tb.onestep + 1 } }) ∧
    (a.oneStep = false → s.tb.asCapable = true → s.tb.gmPresent = false → exec (.gptpSync a) s = .next u) ∧
    (a.oneStep = false → s.tb.asCapable = true → s.tb.gmPresent = true → s.tb.state = .free →
      let w := (u.acquire (a.origin + s.tb.pdelay) (u.stamp a.t)).noteSync a (a.origin + s.tb.pdelay) (u.stamp a.t)
      exec (.gptpSync a) s = .next (if 8 ≤ w.tb.goodSyncs then w.gainLock else w)) ∧
    (a.oneStep = false → s.tb.asCapable = true → s.tb.gmPresent = true → s.tb.state = .locked → s.tb.acquiring = false →
      let w := u.noteSync a (a.origin + s.tb.pdelay) (u.stamp a.t)
      exec (.gptpSync a) s = .next (if 2 ≤ w.tb.badSyncs then w.loseLock else w))) ∧
  (∀ (a : SyncIn) (g t : Nat) (s : State), let u := s.noteSync a g t
    u.tb.offset = (t : Int) + s.tb.epoch - g ∧ u.tb.syncs = s.tb.syncs + 1 ∧
      u.tb.badSyncs = (if 1000 < ((t : Int) + s.tb.epoch - g).natAbs then s.tb.badSyncs + 1 else 0) ∧
      u.tb.goodSyncs = (if ((t : Int) + s.tb.epoch - g).natAbs ≤ 100 then s.tb.goodSyncs + 1 else 0) ∧
      (u.tb.ratePpb - a.ppb).natAbs ≤ 100000 ∧ u.dev = s.dev) ∧
  (∀ s : State, s.tb.state = .locked → let u := s.loseLock
    u.tb.state = .holdover ∧ u.tb.holdovers = s.tb.holdovers + 1 ∧ u.ready 4 = false ∧
      u.tb.ratePpb = avgRate s.tb.rates ∧ u.dev = s.dev ∧ u.pen.acc.holdover = true) ∧
  (∀ (gm : DWord) (s : State), s.gptpUp = true →
    exec (.gptpAnnounce 0 gm) s = .next { s with tb := { s.tb with gm := gm, gmPresent := true } }) ∧
  (∀ (s : State), s.portReady 1 0 = true → s.tb.state ≠ .locked →
    ∃ u, exec .pdelayReqTimer s = .next u ∧ u.tb.reqSeq = s.tb.reqSeq + 1 ∧ u.tb.reqOpen = true ∧
      u.tb.tx.length = s.tb.tx.length + 1 ∧ u.tiles = s.tiles ∧
      u.tb.asCapable = (s.tb.asCapable && !(s.tb.reqOpen && decide (9 ≤ s.tb.lostResp)) && !(!s.tb.reqOpen && decide (9 < s.tb.lostResp)))) ∧
  (∀ (seq : Half) (src : List Byte) (t1 t2 : Nat) (s : State), s.gptpUp = true →
    ∃ u, exec (.pdelayReqReceived 0 seq src t1 t2) s = .next u ∧ u.tb.tx.length = s.tb.tx.length + 2 ∧
      u.tb.asCapable = s.tb.asCapable ∧ u.tiles = s.tiles ∧ u.dev = s.dev) ∧
  (∀ (t1 t2 t3 t4 : Nat) (s : State), s.gptpUp = true → s.tb.reqOpen = true → (t4 - t1 - (t3 - t2)) / 2 ≤ 800 →
    exec (.pdelayRespReceived s.tb.reqSeq t1 t2 t3 t4) s = .next { s with tb := { s.tb with
      pdelay := (t4 - t1 - (t3 - t2)) / 2, lostResp := 0, reqOpen := false, asCapable := true } }) ∧
  (∀ s : State, s.tb.state = .locked →
    exec (.syncReceiptTimeout false) s = .next s.loseLock ∧
    exec (.syncReceiptTimeout true) s =
      .next (State.loseLock { s with tb := { s.tb with gmPresent := false } })) ∧
  (∀ s : State, s.tb.state ≠ .locked →
    let u : State := { s with tb := { s.tb with acquiring := true, goodSyncs := 0 } }
    (s.tb.state = .free ∧ s.tb.gmPresent = false → exec (.syncReceiptTimeout false) s = .next u.nominalRate) ∧
    (¬(s.tb.state = .free ∧ s.tb.gmPresent = false) → exec (.syncReceiptTimeout false) s = .next u) ∧
    (s.tb.state = .free → exec (.syncReceiptTimeout true) s =
      .next (State.nominalRate { s with tb := { s.tb with gmPresent := false, acquiring := true, goodSyncs := 0 } })))

/-- R31, R34, R35, R43: a boundary begins the capo of the next period: its counters, its time and its slot. -/
def Obligations.BoundaryCounters : Prop :=
  ∀ (a : CapoIn) (s : State), s.prd.started = true → s.crs.startWait = false → s.prd.gen ≠ .capo →
    s.aon.mainReset = false → s.aon.standby ≠ .requested →
    ∃ t, exec (.boundary a) s = .next t ∧ t.prd.gen = .capo ∧ t.prd.started = true ∧ t.prd.anyBoundary = true ∧
      t.prd.boundary = BitVec.ofNat 64 s.prd.next ∧ t.prd.next = s.prd.next + s.prd.pUs * 1000 ∧
      t.prd.count = (if s.prd.anyBoundary then s.prd.count + 1 else 0#32) ∧
      t.prd.slot = (if s.prd.anyBoundary then (s.prd.slot + 1) % s.prd.n else 0) ∧
      t.prd.pUs = s.prd.pUs ∧ t.prd.n = s.prd.n ∧ t.prd.aborts = s.prd.aborts ∧ t.grade = s.grade ∧ t.pending = s.pending

/-- R43, R56, R446: the release makes the period run, or aborts it where a condition stands. -/
def Obligations.ReleaseOfThePeriod : Prop :=
  (∀ s : State, s.prd.gen = .capo → s.standing = 0 →
    ∃ t, exec .capoRelease s = .next t ∧ t.prd.gen = .run ∧ t.prd.count = s.prd.count ∧
      t.prd.boundary = s.prd.boundary ∧ t.prd.next = s.prd.next ∧ t.prd.aborts = s.prd.aborts ∧
      t.prd.digSelEff = s.prd.digSel ∧
      t.sch.classEff = (if s.dev < (s.boundaryNs + 12000) * 2 ^ 32 then s.sch.classEn else s.seen.classEn) ∧
      (s.prd.switched = false → s.crs.adoptSlot = none → t.prd.slot = s.prd.slot ∧ t.sch.plan = s.sch.plan)) ∧
  (∀ s : State, s.prd.gen = .capo → s.standing ≠ 0 →
    ∃ t, exec .capoRelease s = .next t ∧ t.prd.gen = .hold ∧ t.prd.aborts = satW s.prd.aborts ∧
      t.prd.lastAbort = BitVec.ofNat 32 (s.standing + s.prd.count.toNat % 2 ^ 24 * 256) ∧
      t.prd.count = s.prd.count ∧ t.prd.next = s.prd.next ∧ t.sch.insts = [])

/-- R54 to R58: an abort ends the period in ABORT_HOLD until the next boundary; outside RUN a request is discarded. -/
def Obligations.AbortOfThePeriod : Prop :=
  (∀ (reason : Nat) (a : CapoIn) (s : State), let t := s.abort reason a
    t.prd.gen = .hold ∧ t.prd.aborts = satW s.prd.aborts ∧
      t.prd.lastAbort = BitVec.ofNat 32 (reason + s.prd.count.toNat % 2 ^ 24 * 256) ∧ t.prd.count = s.prd.count ∧
      t.prd.boundary = s.prd.boundary ∧ t.prd.next = s.prd.next ∧ t.prd.slot = s.prd.slot ∧ t.sch.insts = []) ∧
  (∀ (path : Port) (v : Word) (t : Nat) (a : CapoIn) (s : State), s.pview path = true → v.getLsbD 0 = true →
    let u := (s.advanceTo t).logEv 0x0703 (pathSource path) (0x20000 + v.toNat * 2 ^ 32)
    s.prd.gen = .run → exec (.prdAbort path v t a) s = .next (u.abort 3 a)) ∧
  (∀ (path : Port) (v : Word) (t : Nat) (a : CapoIn) (s : State), s.pview path = false →
    exec (.prdAbort path v t a) s = .next s) ∧
  (∀ (reason : Nat) (a : CapoIn) (s : State),
    (s.prd.gen = .run → (s.condition reason a).prd.gen = .hold ∧ (s.condition reason a).prd.aborts = satW s.prd.aborts) ∧
    (s.prd.gen = .hold → s.condition reason a = s.report 3 0xFF 0) ∧ (s.prd.gen = .idle → s.condition reason a = s) ∧
    (s.prd.gen = .capo → (s.condition reason a).prd = s.prd ∧ (s.condition reason a).sch = s.sch))

/-- R57: a write of 1 to PRD_CTRL.ABORT outside RUN is discarded and sets ABORT_DISCARD; nothing aborts, now or later.
-/
def Obligations.AbortRequestsOutsideRun : Prop :=
  ∀ (path : Port) (v : Word) (t : Nat) (a : CapoIn) (s : State), s.pview path = true → v.getLsbD 0 = true →
    s.prd.gen ≠ .run → ∃ u, exec (.prdAbort path v t a) s = .next u ∧ u.prd = { s.prd with abortDiscard := true } ∧
      u.sch = s.sch ∧ u.pen = s.pen ∧ u.tiles = s.tiles

/-- R68: a write to PRD_DIG_SEL or PRD_DIG_LAYER clears VALID at once and takes effect at the next release. -/
def Obligations.DigestSelectionTakesEffectAtTheRelease : Prop :=
  (∀ (path : Port) (v : Word) (s : State), s.pview path = true →
    exec (.prdDigSelWrite path v) s = .next { s with prd := { s.prd with digSel := v &&& 0x81FF0FFF#32, digValid := false } } ∧
    exec (.prdDigLayerWrite path v) s = .next { s with prd := { s.prd with digLayer := v &&& 0xFFFF#32, digValid := false } }) ∧
  (∀ s : State, s.prd.gen = .capo → ∃ t, exec .capoRelease s = .next t ∧ t.prd.digSelEff = s.prd.digSel ∧
    t.prd.digLayerEff = s.prd.digLayer ∧ t.prd.digSel = s.prd.digSel ∧ t.prd.digLayer = s.prd.digLayer)

/-- R31, R32, R475: the first boundary. -/
def Obligations.FirstBoundary : Prop :=
  (∀ phase p t : Nat, 0 < p → t ≤ gridFrom phase p t ∧ gridFrom phase p t < t + p ∧
    ((p : Int) ∣ (gridFrom phase p t : Int) - phase)) ∧
  (∀ (t : Nat) (s : State), s.prd.lockWaitEnd = some t → s.prd.started = false → s.prd.gen ≠ .capo →
    let u := (s.advanceTo t).fixFirst
    exec .lockWaitExpiry s = .next { u with prd := { u.prd with lockTimeout := true } } ∧ u.prd.started = true ∧
      u.prd.lockWaitEnd = none) ∧
  (∀ s : State, s.upLinks = [] → s.fixFirst.prd.next = gridFrom s.prd.phase.toNat (s.prd.pUs * 1000) (s.now + 100000)) ∧
  (∀ (t : Nat) (s : State), s.crs.startWait = true → s.prd.gen = .idle → s.prd.next + 1000000000 ≤ t →
    ∃ u, exec (.startWaitTimeout t) s = .next u ∧ u.crs.startWait = false ∧ t ≤ u.now ∧ u.prd.next = u.gridPoint u.now ∧
      u.prd.started = s.prd.started ∧ u.tiles = s.tiles)

/-- R41, R43, R399: no instance outlives its period: a boundary leaves none. -/
def Obligations.NoInstanceOutlivesItsPeriod : Prop :=
  ∀ (a : CapoIn) (s : State), s.prd.started = true → s.crs.startWait = false → s.prd.gen ≠ .capo →
    s.aon.mainReset = false → ∃ t, exec (.boundary a) s = .next t ∧ t.sch.insts = []

/-- R375 to R381, R388, R389: binding, and the decisions of the admission engine. -/
def Obligations.BindingAndAdmission : Prop :=
  (∀ (job : Nat) (i : Inst) (s : State), s.jobInst job = some i → i.st = .created →
    let t := i.b + i.job.releaseUs * 1000
    let u := s.advanceTo t
    let bound := i.job.inputs.map fun k => u.newestBefore k t
    t ≤ u.now → exec (.jobBind job) s = .next (State.examineInputs (u.modInst i.id fun j =>
      { j with st := .waitInput, bound := bound, again := tget 0 u.sch.lastBound job }) i.id)) ∧
  (∀ (id : Nat) (i : Inst) (s : State), s.inst id = some i → i.st = .waitInput → s.lostInput i i.again = none →
    i.bound.all s.frameDone = true → s.now < i.deadline →
    let u := s.examineInputs id
    (∃ q ∈ u.sch.decideQ, q.1 = id) ∧ u.tiles = s.tiles ∧ u.sch.lastBound = (s.noteBound i).sch.lastBound ∧
      ∃ j, u.inst id = some j ∧ j.st = .deciding ∧ j.r = some s.now ∧ j.missing = s.missingOf i.bound ∧
      j.bindCheck = s.bindCheckOf i.bound ∧ j.degraded = i.bound.any fun f => (s.frame f).state == .degraded) ∧
  (∀ (i : Inst) (s : State),
    (i.bound.headD 0 ≠ 0 → tget 0 (s.noteBound i).sch.lastBound i.job.job = i.bound.headD 0) ∧
    (i.bound.headD 0 = 0 → s.noteBound i = s)) ∧
  (∀ (t id at_ : Nat) (l : List (Nat × Nat)) (i : Inst) (s : State), s.sch.decideQ = (id, at_) :: l → s.inst id = some i →
    let u := s.advanceTo t
    let w : State := { u with sch := { u.sch with decideQ := l } }
    (i.deadline ≤ u.now → exec (.admissionDecision t) s = .next (w.killLate i)) ∧
    (u.now < i.deadline → i.st = .deciding → exec (.admissionDecision t) s = .next (w.firstDecide i)) ∧
    (u.now < i.deadline → i.st = .deferred → exec (.admissionDecision t) s = .next (w.takeDecision i))) ∧
  (∀ (i : Inst) (s : State), i.tiles.all (fun t => !s.excluded t && !(s.tile t).spm.diag) = true →
    (i.classOff = false ∨ i.job.cls = 0) → s.gangHeld i.gang < (if i.job.cls = 0 then 64 else 48) →
    s.firstDecide i = (s.modInst i.id fun i => { i with firstDecision := some s.now }).takeDecision
      { i with firstDecision := some s.now }) ∧
  (∀ (i j : Inst) (s : State), s.inst i.id = some j →
    (i.job.cls = 0 ∨ admissionTest s.sch.insts i s.now = true → ∃ k, (s.takeDecision i).inst i.id = some k ∧
      k.st = .admitted ∧ k.admitAt = some s.now ∧ k.testFailed = !admissionTest s.sch.insts i s.now) ∧
    (i.job.cls ≠ 0 → admissionTest s.sch.insts i s.now = false →
      (s.now < i.latestStart → i.st ≠ .deferred → ∃ k, (s.takeDecision i).inst i.id = some k ∧ k.st = .deferred ∧
        k.deferred = true) ∧
      (i.latestStart ≤ s.now → s.takeDecision i = s.endInst i.id 0x11 1#32))) ∧
  (∀ (job : Nat) (i : Inst) (s : State), s.jobInst job = some i → i.st = .deferred →
    exec (.latestStartRetest job) s = .next ((s.advanceTo i.latestStart).queueDecisions [i]))

/-- R326, R328, R378, R382 to R387: dispatch, overruns, kills and endings. -/
def Obligations.DispatchAndDeadlines : Prop :=
  (∀ (g t : Nat) (i : Inst) (s : State), s.prd.gen = .run → s.gangFree g = true →
    let u := s.advanceTo t
    nextDispatch (s.sch.insts.filter fun i => i.gang == g && i.st == .admitted && decide (u.now < i.deadline)) = some i →
    exec (.dispatch g t) s = .next (i.tiles.foldl (fun w x => w.modTc x (startThread w i x)) (u.modInst i.id fun j =>
      { j with st := .running, tStart := u.now, running := j.tiles, status := j.okStatus }))) ∧
  (∀ (l : List Inst) (i : Inst), nextDispatch l = some i → i ∈ l ∧ ∀ j ∈ l, dispatchBefore j i = false) ∧
  (∀ (job : Nat) (i : Inst) (s : State), s.jobInst job = some i → i.st = .running → i.overrun = false →
    let u := (s.advanceTo (i.tStart + i.job.wNs)).modInst i.id fun j => { j with overrun := true }
    exec (.overrunStart job) s = .next { u with sch := { u.sch with
      overruns := u.sch.overruns + 1, events := setBit u.sch.events 5 } }) ∧
  (∀ (job : Nat) (i : Inst) (s : State), s.jobInst job = some i → i.job.deadlineUs ≠ s.prd.pUs →
    i.deadline ≤ (s.advanceTo i.deadline).now →
    exec (.deadlineKill job) s = .next ((s.advanceTo i.deadline).killLate i)) ∧
  (∀ (i : Inst) (s : State),
    (i.st = .deciding ∨ i.st = .admitted → s.killLate i = s.endInst i.id 0x10 2#32) ∧
    (i.st = .deferred → s.killLate i = s.endInst i.id 0x11 1#32) ∧
    (i.st = .running → i.localDone = false → s.killLate i = s.endInst i.id 0x10
      (BitVec.ofNat 32 (1 + 256 * min ((min s.now i.deadline - i.tStart) / 1000) 0xFFFFFF)))) ∧
  (∀ (id : Nat) (i : Inst) (s : State), s.inst id = some i → i.deadline ≤ s.now → s.differs i = none →
    s.settle id = s.killLate i) ∧
  (∀ (id status tile : Nat) (detail : Word) (i : Inst) (s : State), s.inst id = some i →
    let u := s.endInst id status detail tile
    u.inst id = none ∧ u.prd.count = s.prd.count ∧
      tget 0#32 u.sch.jobLast i.job.job = BitVec.ofNat 32 (status + i.period.toNat % 2 ^ 24 * 256) ∧
      tget 0#32 u.sch.jobDetail i.job.job = detail)

/-- R235, R240, R243, R275, R352: passes and memory operations. -/
def Obligations.PassesAndMemoryOperations : Prop :=
  (∀ (t : Nat) (q : PassReq) (l : List PassReq) (i : Inst) (s : State), (s.tile t).arr.queue = q :: l →
    s.inst q.inst = some i → s.excluded t = false → checkDesc s t i q = 0 →
    (startWaits s t (Desc.ofBytes q.bytes) = true → exec (.passStart t) s = .next s) ∧
    (startWaits s t (Desc.ofBytes q.bytes) = false → ∃ u, exec (.passStart t) s = .next u ∧ (u.tile t).arr.queue = l ∧
      (u.tile t).arr.running = (s.tile t).arr.running ++ [q] ∧ (u.tile t).arr.keepBad = false ∧
      (u.tile t).arr.wDomain =
        (if (Desc.ofBytes q.bytes).isTu then (s.tile t).arr.wDomain else (Desc.ofBytes q.bytes).domain) ∧
      (u.tile t).tc = (s.tile t).tc ∧ (u.tile t).spm = (s.tile t).spm ∧ (∀ r, r ≠ t → u.tile r = s.tile r) ∧
      sansTiles u = sansTiles s)) ∧
  (∀ (t : Nat) (q : PassReq) (l : List PassReq) (i : Inst) (s : State), (s.tile t).arr.queue = q :: l →
    s.inst q.inst = some i → s.excluded t = false → (s.tile t).arr.running = [] → checkDesc s t i q = 1 →
    ∃ u, exec (.passStart t) s = .next u ∧ (u.tile t).arr.queue = l ∧ (u.tile t).arr.running = [] ∧
      (u.tile t).arr.events = setBit (s.tile t).arr.events 0 ∧ (u.tile t).arr.acc = (s.tile t).arr.acc ∧
      (u.tile t).arr.lastErr = statusWord 1 (Desc.ofBytes q.bytes).tag ∧ (u.tile t).spm = (s.tile t).spm ∧
      ((s.tile t).tc.inst = some q.inst → (u.tile t).tc =
        (s.tile t).tc.setTk 0 (((s.tile t).tc.tk 0).finish (statusWord 1 (Desc.ofBytes q.bytes).tag)))) ∧
  (∀ (a : PassIn) (q : PassReq) (l : List PassReq) (i : Inst) (bl : List ((Nat → Byte) × Bool)) (inp epi : Nat → Byte)
    (s : State), (s.tile a.tile).arr.running = q :: l → s.inst q.inst = some i → a.accCorr = false → a.accUncorr = false →
    a.spmCorr = false → a.spmUncorr = false →
    let d := Desc.ofBytes q.bytes
    ((List.range d.steps).mapM fun k => passBlock s a.tile i q d k) = some bl → bl.any (·.2) = false →
    regionRead s a.tile i d.hIn false d.inputs = some inp →
    (d.writes = true → (regionRead s a.tile i d.hOut true d.outputs).isSome = true) →
    (if d.needsEpi then regionRead s a.tile i d.hEpi false d.epiRange else some fun _ => 0#8) = some epi →
    let w := (s.addWaits a).passEcc a
    let r := runPass (w.tile a.tile).arr d (fun k o => match bl[k]? with | some b => b.1 o | none => 0#8) inp epi
    (∀ n, a.upTo = some n → exec (.passComplete a) s = .next (w.drainTo a.tile i q l d r n)) ∧
    (a.upTo = none → l = [] → ∃ u, exec (.passComplete a) s = .next u ∧ (u.tile a.tile).arr.running = [] ∧
      (u.tile a.tile).arr.passes = (s.tile a.tile).arr.passes + 1 ∧
      (u.tile a.tile).arr.acc =
        r.acc.foldl (fun m x => tput {} m x.1 { (tget {} m x.1) with val := x.2 }) (s.tile a.tile).arr.acc ∧
      (u.tile a.tile).spm.mem = ((w.drainPass a.tile i q d (r.out.drop q.drained)).tile a.tile).spm.mem ∧
      (∀ t, t ≠ a.tile → u.tile t = s.tile t) ∧ sansTiles u = sansTiles s)) ∧
  (∀ (t : Nat) (i : Inst) (q : PassReq) (d : Desc) (out : List (Nat × Byte)) (x : Nat) (s : State),
    let pl := placesOf s t i d.hOut true
    (∀ y ∈ out, x ≠ 4096 * ((pl.getD (y.1 / 4096) (.fret 0)).fretOf).getD 0 + y.1 % 4096) →
    tget 0#8 ((s.drainPass t i q d out).tile t).spm.mem x = tget 0#8 (s.tile t).spm.mem x) ∧
  (∀ (a : PassIn) (q : PassReq) (l : List PassReq) (i : Inst) (s : State), (s.tile a.tile).arr.running = q :: l →
    s.inst q.inst = some i →
    let d := Desc.ofBytes q.bytes
    ((List.range d.steps).mapM fun k => passBlock s a.tile i q d k) = none →
    exec (.passComplete a) s = .next ((s.addWaits a).askPass a.tile i d)) ∧
  (∀ (t : Nat) (m : MemOp) (l : List MemOp) (i : Inst) (da sa : List Nat) (s : State), (s.tile t).spm.memQ = m :: l →
    s.inst m.inst = some i → memOpCode s t i m.bytes = 0 →
    access s t i (BitVec.ofNat 16 (field m.bytes 4 2)) (field m.bytes 8 4) (field m.bytes 0x10 4) true = .ok da →
    (field m.bytes 0 1 = 1 →
      access s t i (BitVec.ofNat 16 (field m.bytes 6 2)) (field m.bytes 0x0C 4) (field m.bytes 0x10 4) false = .ok sa) →
    let bs := if field m.bytes 0 1 = 1 then (s.tile t).spm.readAt sa
      else (List.range (field m.bytes 0x10 4)).map fun k => (leBytes 4 (field m.bytes 0x14 4)).getD (k % 4) 0#8
    ∃ u, exec (.memopComplete t 0) s = .next u ∧ (u.tile t).spm.memQ = l ∧
      (u.tile t).spm.mem = ((s.tile t).spm.writeAt da bs).mem ∧ (u.tile t).arr = (s.tile t).arr ∧
      (∀ r, r ≠ t → u.tile r = s.tile r) ∧ sansTiles u = sansTiles s) ∧
  (∀ (t ecc : Nat) (m : MemOp) (l : List MemOp) (i : Inst) (s : State), (s.tile t).spm.memQ = m :: l →
    s.inst m.inst = some i → memOpCode s t i m.bytes ≠ 0 →
    ∃ u, exec (.memopComplete t ecc) s = .next u ∧ (u.tile t).spm.memQ = l ∧ (u.tile t).spm.mem = (s.tile t).spm.mem ∧
      (u.tile t).arr = (s.tile t).arr ∧ (∀ r, r ≠ t → u.tile r = s.tile r) ∧ sansTiles u = sansTiles s)

/-- R279 to R286, R314, R315: the scrubber, the allocator, spills, restores and ages. -/
def Obligations.ScratchpadEngines : Prop :=
  (∀ (t f : Nat) (l : List Nat) (s : State), (s.tile t).spm.dirtyQ = f :: l → f < 96 → s.ready 12 = false →
    ∃ u, exec (.scrubFretDone t) s = .next u ∧ (u.tile t).spm.dirtyQ = l ∧ ((u.tile t).spm.fret f).st = .free ∧
      (∀ g, g ≠ f → (u.tile t).spm.fret g = (s.tile t).spm.fret g) ∧
      (∀ a, tget 0#8 (u.tile t).spm.mem a =
        if 4096 * f ≤ a ∧ a < 4096 * f + 4096 then 0#8 else tget 0#8 (s.tile t).spm.mem a) ∧
      (∀ r, r ≠ t → u.tile r = s.tile r)) ∧
  (∀ (tile t : Nat) (s : State), s.prd.gen ≠ .capo →
    exec (.allocRequestDecision tile t) s = .next ((s.advanceTo t).allocOne tile).notePeak) ∧
  (∀ (t : Nat) (r : AllocReq) (i : Inst) (s : State), (s.tile t).spm.reqs = [r] → s.inst r.inst = some i →
    (∀ c, allocDecide s t r i.job.frets = .refuse c → ((s.allocOne t).tile t).spm.reqs = [] ∧
      ((s.allocOne t).tile t).spm.refusals = (s.tile t).spm.refusals + 1 ∧
      ((s.allocOne t).tile t).spm.waitMax = (s.tile t).spm.waitMax ∧
      ((s.allocOne t).tile t).spm.ents = (s.tile t).spm.ents) ∧
    (allocDecide s t r i.job.frets = .grant → s.allocOne t = s.grantReq t r) ∧
    (allocDecide s t r i.job.frets = .keep → s.allocOne t = s)) ∧
  (∀ (t e : Nat) (r : AllocReq) (s : State), r.restore = none → 33 ≤ e → e < 128 → ((s.tile t).spm.ent e).live = false →
    (∀ k, 33 ≤ k → k < e → ((s.tile t).spm.ent k).live = true) →
    let x := ((s.grantReq t r).tile t).spm.ent e
    x.live = true ∧ x.inst = r.inst ∧ x.gen = ((s.tile t).spm.ent e).gen % 511 + 1 ∧
      x.places = (pickFrets (s.tile t).spm r.n r.ring r.spread).map .fret ∧
      (∀ k, k ≠ e → ((s.grantReq t r).tile t).spm.ent k = (s.tile t).spm.ent k)) ∧
  (∀ (t : Nat) (x : Spill) (l : List Spill) (s : State), (s.tile t).spm.spilling = x :: l → x.fret < 96 →
    ((tget none s.dram.slots x.slot).getD {}).bad = false → ((s.tile t).spm.fret x.fret).st = .spilling →
    let bs := memRead 0#8 (s.tile t).spm.mem (4096 * x.fret) 4096
    (s.dramLost (s.dram.slotBase + 4096 * x.slot) 4096 = true → exec (.spillComplete t 0) s = .next s) ∧
    (s.dramLost (s.dram.slotBase + 4096 * x.slot) 4096 = false →
    ∃ u, exec (.spillComplete t 0) s = .next u ∧ (u.tile t).spm.spilling = l ∧
      ((u.tile t).spm.fret x.fret).st = .dirty ∧ (u.tile t).spm.dirtyQ = (s.tile t).spm.dirtyQ ++ [x.fret] ∧
      u.dram.mem = memWrite 0#8 s.dram.mem (s.dram.slotBase + 4096 * x.slot) bs ∧
      tget none u.dram.slots x.slot = some { crc := crc32c bs, tile := t } ∧ (∀ r, r ≠ t → u.tile r = s.tile r))) ∧
  (∀ (t e k slot f : Nat) (x : SpillSlot) (s : State), (s.tile t).spm.restoring = some (e, k, slot, f) →
    tget none s.dram.slots slot = some x → x.bad = false → s.dramLost (s.dram.slotBase + 4096 * slot) 4096 = false →
    let bs := memRead 0#8 s.dram.mem (s.dram.slotBase + 4096 * slot) 4096
    (x.crc = crc32c bs →
    ∃ u, exec (.restoreComplete t) s = .next u ∧ (u.tile t).spm.mem = memWrite 0#8 (s.tile t).spm.mem (4096 * f) bs ∧
      ((u.tile t).spm.ent e).places = ((s.tile t).spm.ent e).places.set k (.fret f) ∧
      tget none u.dram.slots slot = none ∧ (∀ r, r ≠ t → u.tile r = s.tile r)) ∧
    (x.crc ≠ crc32c bs → exec (.restoreComplete t) s = .next ((s.moveBusy 4096).restoreFails t e))) ∧
  (∀ s : State, ∃ u, exec .fretAgeTick s = .next u ∧ sansTiles u = sansTiles s ∧
    ∀ t f, s.grade.hasTile t = true → f < 96 →
      (u.tile t).spm.fret f = { ((s.tile t).spm.fret f) with age := min 255 (((s.tile t).spm.fret f).age + 1) })

/-- R355, R356, R364, R484: messages and the watchdog. -/
def Obligations.MessagesAndWatchdogEvents : Prop :=
  (∀ (src dst mbox : Nat) (m : Msg) (s : State),
    s.flight.find? (fun m => m.src == src && m.dst == dst && m.mbox == mbox) = some m →
    let u : State := { s with flight := s.flight.erase m }
    (∀ ecc, heldBack s m = true → exec (.msgArrive src dst mbox ecc) s = .next s) ∧
    (heldBack s m = false → exec (.msgArrive src dst mbox 0) s = .next (u.deliver m) ∧
      exec (.msgArrive src dst mbox 1) s = .next (u.reportEccCorr.deliver m) ∧
      (∀ i, s.inst m.inst = some i → exec (.msgArrive src dst mbox 2) s =
        .next ((u.report 1 m.dst 0).faultInst m.inst m.dst 0)))) ∧
  (∀ (m : Msg) (i : Inst) (s : State), s.inst m.inst = some i →
    (∀ k, fencedLink s m.dst m.mbox = some k → s.deliver m = s.linkDiscard k) ∧
    (fencedLink s m.dst m.mbox = none → remoteLink s m.dst m.mbox = none → i.running.contains m.dst = true →
     let box := tget [] (s.tile m.dst).tc.mbox m.mbox
     (box.length < 4 → s.deliver m = s.modTc m.dst fun c => { c with mbox := tput [] c.mbox m.mbox (box ++ [m]) }) ∧
     (4 ≤ box.length → s.deliver m = s.returnMsg m))) ∧
  (∀ (m : Msg) (s : State), s.inst m.inst = none → s.deliver m = s.discardMsg m.dst) ∧
  (∀ (t : Nat) (m : Msg) (l : List Msg) (s : State), (s.tile t).tc.returned = m :: l →
    ∃ u, exec (.msgRetry t) s = .next u ∧ (u.tile t).tc = { (s.tile t).tc with returned := l } ∧
      u.flight = m :: s.flight ∧ (∀ r, r ≠ t → u.tile r = s.tile r)) ∧
  (∀ (t id : Nat) (s : State), (s.tile t).tc.inst = some id → (s.tile t).tc.wdArmed = true →
    exec (.wdogExpire t) s = .next ((s.modTc t fun c => { c with wdLeft := 0 }).tcException t id 7 (s.wordAtPc t) 0))

/-- R82, R299, R300, R304, R305, R311, R319, R320: pages and part reads. -/
def Obligations.PagesAndPartReads : Prop :=
  (∀ (net page busy : Nat) (damaged : Bool) (e : Staged) (s : State),
    s.dram.staging.find? (fun e => e.isPage net page && !e.whole && !e.remote) = some e → s.dram.trained = true →
    let data := memRead 0#8 s.dram.mem ((s.net net).base + 16384 * page) 16384
    (s.dramLost ((s.net net).base + 16384 * page) 16384 = true → exec (.pageStaged net page busy damaged) s = .next s) ∧
    (s.dramLost ((s.net net).base + 16384 * page) 16384 = false → exec (.pageStaged net page busy damaged) s =
      .next ((s.dataBusy busy).stagePage e data (!damaged && !e.bad && pageCheckOk data) true))) ∧
  (∀ (e : Staged) (data : List Byte) (s : State),
    (e.retried = false → s.dram.staging = [e] → let u := s.stagePage e data false true
      u.dram.staging = [{ e with retried := true, bad := false }] ∧ u.dram.events = setBit s.dram.events 0 ∧
        u.dram.poisoned = s.dram.poisoned ∧ u.tiles = s.tiles) ∧
    (e.fromPeer = none → e.subs ≠ [] → ∃ w : State, s.stagePage e data true true = w.pagerRun ∧
      w.dram.staging = s.dram.staging.filter (· != e) ++ [{ e with whole := true, ready := true, data := data }] ∧
      w.dram.events = s.dram.events ∧ w.tiles = s.tiles) ∧
    (e.retried = true → e.fromPeer = none → ∃ w : State, s.stagePage e data false true = (w.poisonPage e.net e.page).pagerRun ∧
      w.dram.staging = s.dram.staging.filter (· != e) ∧ w.dram.events = setBit s.dram.events 0 ∧ w.tiles = s.tiles)) ∧
  (∀ (net page : Nat) (e : Staged) (s : State),
    s.dram.staging.find? (fun e => e.isPage net page && e.ready && !e.subs.isEmpty) = some e →
    (mayInject s.dram.staging e = false → exec (.pageInject net page) s = .next s) ∧
    (mayInject s.dram.staging e = true →
    ∃ w : State, exec (.pageInject net page) s = .next w.pagerRun ∧ w.dram.staging = s.dram.staging.erase e ∧
      w.dram.flight = s.dram.flight ++ e.subs.map (fun r =>
        { tile := r.tile, inst := r.inst, net := net, page := page, layer := r.layer, data := e.data }) ∧
      w.sch = s.sch ∧ w.dram.mem = s.dram.mem)) ∧
  (∀ (t net page : Nat) (lane : LaneIn) (x : InFlight) (s : State),
    s.dram.flight.find? (fun x => x.tile == t && x.net == net && x.page == page) = some x →
    (nextOnBand s.dram.flight x = false → exec (.pageUsable t net page lane) s = .next s) ∧
    (nextOnBand s.dram.flight x = true → lane.laneBad = true →
      ∃ u, exec (.pageUsable t net page lane) s = .next u ∧
        ∀ y ∈ u.dram.flight, y.net = net → y.page = page → reachesThrough t y.tile = true → y.bad = true) ∧
    (∀ p : BowPage, nextOnBand s.dram.flight x = true →
    ((s.tile t).bow.cur.toList ++ (s.tile t).bow.nxt.toList).any (fun c => c.inst == x.inst) = true →
    (s.tile t).bow.slots.find? (fun p => p.page == page && !p.usable) = some p →
    ∃ u, exec (.pageUsable t net page {}) s = .next u ∧ u.dram.flight = s.dram.flight.erase x ∧
      (u.tile t).bow = { (s.tile t).bow with
        received := (s.tile t).bow.received + 1,
        events := (if x.bad then setBit (s.tile t).bow.events 3 else (s.tile t).bow.events),
        slots := (s.tile t).bow.slots.map fun y =>
          if y = p then { y with usable := true, fwdDone := true, data := x.data, poisoned := x.bad } else y } ∧
      (u.tile t).tc = (s.tile t).tc ∧ (∀ r, r ≠ t → u.tile r = s.tile r))) ∧
  (∀ (t page : Nat) (next : Bool) (p : BowPage) (s : State),
    (s.tile t).bow.slots.find? (fun p => p.page == page && p.next == next && p.marked && p.fwdDone) = some p →
    (pagePinned s t page = false → ∃ w : State, exec (.pageFree t page next) s = .next w.pagerRun ∧
      (w.tile t).bow = { (s.tile t).bow with slots := (s.tile t).bow.slots.erase p } ∧ (w.tile t).spm = (s.tile t).spm ∧
      (w.tile t).arr.queue = (s.tile t).arr.queue ∧ (∀ r, r ≠ t → w.tile r = s.tile r)) ∧
    (pagePinned s t page = true → exec (.pageFree t page next) s = .next s)) ∧
  (∀ (t busy : Nat) (r : PartRead) (i : Inst) (addrs : List Nat) (s : State), s.firstRead t = some r →
    s.inst r.inst = some i → s.dramLost r.src r.len = false → targetBad s t i r.handle r.off r.len = false →
    access s t i r.handle r.off r.len true = .ok addrs → (s.tile t).tc.inst = some r.inst →
    ∃ u, exec (.partReadDone t busy) s = .next u ∧ u.dram.reads = s.dram.reads.erase r ∧ u.dram.mem = s.dram.mem ∧
      (u.tile t).spm.mem = ((s.tile t).spm.writeAt addrs (memRead 0#8 s.dram.mem r.src r.len)).mem ∧
      (u.tile t).tc.readsOut = (s.tile t).tc.readsOut - 1 ∧
      (u.tile t).tc = Tc.setTk { (s.tile t).tc with readsOut := (s.tile t).tc.readsOut - 1 } 2
        (((s.tile t).tc.tk 2).finish (statusWord 0 0)) ∧
      (∀ r, r ≠ t → u.tile r = s.tile r))

/-- R61, R308, R312, R487, R608, R610: refresh, training, uncorrectable errors and the fallback of a shared page. -/
def Obligations.DramEvents : Prop :=
  (∀ (c hits : Nat) (s : State), s.dram.trained = true → c < s.grade.channels →
    ∃ u, exec (.dramRefresh c hits) s = .next u ∧ tget 0 u.dram.bank c = (tget 0 s.dram.bank c + 1) % dramBanks ∧
      u.dram.refreshHits = s.dram.refreshHits + BitVec.ofNat 32 hits ∧
      u.pen.acc.refreshHits = s.pen.acc.refreshHits + hits ∧ u.dram.mem = s.dram.mem ∧ u.tiles = s.tiles) ∧
  (∀ (on : Bool) (s : State),
    exec (.refresh2xChange on) s = .next { s with dram := { s.dram with refresh2x := on } }) ∧
  (∀ s : State, exec (.dramUncorrError .own) s = .next (s.report 11 0xFF 0)) ∧
  (∀ (net page : Nat) (s : State), ∃ u, exec (.dramUncorrError (.bow net page)) s = .next u ∧
    (∀ e ∈ u.dram.staging, e.isPage net page = true → e.whole = false → e.remote = false → e.bad = true) ∧
    u.dram.mem = s.dram.mem ∧ u.tiles = s.tiles ∧ u.saf.faults = setBit s.saf.faults 11) ∧
  (∀ (ok : Bool) (mib : Nat) (s : State), s.training = true →
    exec (.dramTrainingDone ok mib) s = .next (s.dramEnd ok mib)) ∧
  (∀ (net page k : Nat) (s : State), (s.remoteEntry net page).isSome = true → s.leadLink net = some k →
    (s.link k).pageNet ≠ some (net, page) →
    exec (.sharedPageFallback net page) s = .next (s.fallBack k net page))

/-- R94, R98, R400 to R403, R435: the PCIe endpoint. -/
def Obligations.PcieEndpoint : Prop :=
  (∀ (k : PcieRst) (s : State), s.aon.mainReset = false →
    ∃ u, exec (.pcieReset k) s = .next u ∧ u.pcie =
        { l0 := k == .flr && s.pcie.l0, perstN := k != .perst, speed := s.pcie.speed, width := s.pcie.width,
          credit := s.pcie.credit } ∧
      u.ring.posted = [] ∧ u.ring.hostMem = s.ring.hostMem ∧ u.sys.pcieResets = satW s.sys.pcieResets ∧
      u.ready 2 = (s.ready 2 && (k == .flr && s.pcie.l0)) ∧ u.tiles = s.tiles ∧ u.prd = s.prd ∧ u.sch = s.sch) ∧
  (∀ s : State, s.aon.mainReset = false → ∃ u, exec .pcieLinkL0 s = .next u ∧ u.pcie.l0 = true ∧ u.ready 2 = true ∧
    1 ≤ u.pcie.speed ∧ u.pcie.speed ≤ s.maxSpeed ∧ u.pcie.width ∈ [1, 2, 4, 8] ∧ u.pcie.width ≤ s.maxWidth ∧
    u.ring.posted = (if s.pcie.command.getLsbD 2 && s.pcie.dstate == 0 && s.pcie.credit && !s.ring.writeStall then []
      else s.ring.posted) ∧ u.tiles = s.tiles ∧ u.prd = s.prd) ∧
  (∀ s : State, (s.maxWidth ≤ s.grade.pcieLanes) ∧ (s.sys.straps.getLsbD 5 = true → s.maxSpeed = 3) ∧
    (s.cfgRead .linkCap).1.toNat % 16 = s.maxSpeed ∧ (s.cfgRead .linkCap).1.toNat / 16 % 64 = s.maxWidth ∧
    (s.cfgRead .linkCap).1.toNat / 1024 % 4 = 2) ∧
  (∀ s : State, s.aon.standby ≠ .waitL2 → ∃ u, exec .pcieLinkLeaveL0 s = .next u ∧
    u.pcie = { s.pcie with l0 := false } ∧ u.ready 2 = false ∧ u.ring = s.ring ∧ u.tiles = s.tiles) ∧
  (∀ s : State, s.aon.standby = .waitL2 → exec .pcieLinkLeaveL0 s = .next s.leaveL0.sleep) ∧
  (∀ (a : CfgIn) (s : State), s.aon.mainReset = false → s.pcie.l0 = true →
    (a.write = true → let u := s.cfgWrite a.reg a.value
      exec (.pcieConfigRequest a) s = .next { u with out := { u.out with data := [], status := 0 } }) ∧
    (a.write = false → ∃ u, exec (.pcieConfigRequest a) s = .next u ∧ u.out.data = [(s.cfgRead a.reg).1] ∧
      u.out.status = 0 ∧ u.pcie = s.pcie ∧ u.tiles = s.tiles)) ∧
  (∀ (v : Word) (s : State), (s.cfgWrite .bar0Lo v).cfgRead .bar0Lo = (v &&& 0xFFC00000#32 ||| 4#32, s.cfgWrite .bar0Lo v)) ∧
  (∀ s : State, s.aon.mainReset = false → s.pcie.l0 = true →
    exec (.pcieUnsupportedRequest true) s = .next (s.unsupported true) ∧
    (s.ring.posted = [] → exec (.pcieUnsupportedRequest false) s = .next (let u := s.unsupported false
      { u with out := { u.out with data := [], status := 1 } })) ∧
    (s.ring.posted ≠ [] → ∃ u, exec (.pcieUnsupportedRequest false) s = .next u ∧
      u.ring.posted = s.ring.posted ++ [.completion [] 1] ∧ u.out.data = [] ∧ u.tiles = s.tiles)) ∧
  (∀ (posted : Bool) (s : State), let u := s.unsupported posted
    u.pcie.aerUncSta = setBit s.pcie.aerUncSta 20 ∧ u.ring = s.ring ∧ u.tiles = s.tiles ∧
    (s.pcie.aerUncSev.getLsbD 20 = false → posted = true → u.out.msgs =
      (if s.pcie.devCtl.getLsbD 3 && s.pcie.devCtl.getLsbD 1 && !s.pcie.aerUncMask.getLsbD 20 then 0x31 :: s.out.msgs
       else s.out.msgs)) ∧
    (s.pcie.devCtl.getLsbD 3 = false → u.out.msgs = s.out.msgs))

/-- R17 to R19, R28, R67, R390, R391, R403 to R405, R407, R408, R429, R558: reads and writes of registers. -/
def Obligations.RegisterAccesses : Prop :=
  (∀ (path : Port) (a : Nat) (v : DWord) (n : Nat) (s : State),
    exec (.registerWrite path a v 4) s = .next (s.writeReg path a (v.setWidth 32)) ∧
    exec (.registerWrite path a v 8) s =
      .next ((s.writeReg path a (v.setWidth 32)).writeReg path (a + 4) ((v >>> 32).setWidth 32)) ∧
    (n ≠ 4 → n ≠ 8 → exec (.registerWrite path a v n) s = .next s) ∧
    (s.writes path a = false → exec (.registerWrite path a v 4) s = .next s) ∧
    (a % 4 ≠ 0 → exec (.registerWrite path a v n) s = .next s)) ∧
  (∀ (path : Port) (a : Nat) (v now : Word) (w : W1c) (s : State), s.writes path a = true → s.w1cAt a = some w →
    exec (.w1cWrite path a v now) s = .next (w.write v now)) ∧
  (∀ (path : Port) (v now : Word) (s : State), s.writes path 0x1000C = true → exec (.w1cWrite path 0x1000C v now) s =
    .next { s with
      sch := { s.sch with events := (s.sch.events &&& ~~~(v &&& 0x3F#32)) ||| (v &&& now &&& 0x3F#32) }
      sys := { s.sys with ovlSch := s.sys.ovlSch + BitVec.ofNat 32 (bitCount (v &&& now &&& 0x3F#32)) } }) ∧
  (∀ (path : Port) (a n : Nat) (s : State), let r := s.readBytes path a n
    (s.reach path = true →
      ∃ u, exec (.rcRead path a n) s = .next u ∧ exec (.rslLowRead path a n) s = .next u ∧
      (path = .spi ∨ s.ring.posted = [] → u = { r.2 with out := { r.2.out with data := r.1, status := 0 } }) ∧
      (path ≠ .spi → s.ring.posted ≠ [] → u = { r.2 with
        ring := { r.2.ring with posted := r.2.ring.posted ++ [.completion r.1 0] }
        out := { r.2.out with data := [], status := 3 } })) ∧
    (s.reach path = false → path ≠ .spi → s.aon.mainReset = false → s.pcie.l0 = true →
      exec (.rcRead path a n) s = .next ((s.unsupported false).complete path [] 1) ∧
      exec (.rslLowRead path a n) s = .next ((s.unsupported false).complete path [] 1))) ∧
  (∀ (path : Port) (a n : Nat) (s : State),
    (a % 4 = 0 → s.readBytes path a 4 = ([(s.readReg path a).1], (s.readReg path a).2) ∧
      (s.readBytes path a 8).1 = [(s.readReg path a).1, ((s.readReg path a).2.readReg path (a + 4)).1]) ∧
    (a % 4 + n ≤ 4 → (s.readBytes path a n).2 = (s.readReg path (a / 4 * 4)).2) ∧
    (4 < a % 4 + n → ¬(n = 8 ∧ a % 4 = 0) → (s.readBytes path a n).2 = s)) ∧
  (∀ (path : Port) (t : Nat) (s : State), path ≠ .bar0 → s.grade.hasTile t = true →
    let a := 0x1000000 + 65536 * t
    (let r := s.readReg path (a + 0x9028)
     r.1 = (s.tile t).spm.waitMax ∧ (r.2.tile t).spm.waitMax = 0#32 ∧ (∀ x, x ≠ t → r.2.tile x = s.tile x)) ∧
    (let r := s.readReg path (a + 0xB018)
     r.1 = (s.tile t).tc.retired.setWidth 32 ∧ r.2.tiles = s.tiles ∧
       (r.2.readReg path (a + 0xB01C)).1 = ((s.tile t).tc.retired >>> 32).setWidth 32)) ∧
  (∀ (mosi : List Byte) (n : Nat) (s : State), s.reach .spi = true → (spiParse mosi).len + 2 ≤ mosi.length →
    (spiParse mosi).words ≤ n → (spiParse mosi).status mosi = 0 →
    (field mosi 0 1 = 0x0B → ∃ u, exec (.spiRead mosi n) s = .next u ∧
      u.out.miso = spiAnswer (spiParse mosi) n 0 (wordsBytes (s.spiReads (spiParse mosi).addr (spiParse mosi).words).1)) ∧
    (field mosi 0 1 = 0x02 →
      let u := s.spiWrites (spiParse mosi).addr ((List.range (spiParse mosi).words).map fun i => wordAt mosi (6 + 4 * i))
      exec (.spiWrite mosi n) s =
        .next { u with out := { u.out with miso := spiAnswer (spiParse mosi) n 0 [] } })) ∧
  (∀ (mosi : List Byte) (s : State), field mosi 0 1 ≠ 0x0B → field mosi 0 1 ≠ 0x02 →
    ∃ m, exec (.spiUnknownCmd mosi) s = .next { s with out := { s.out with miso := m } }) ∧
  (∀ (path : Port) (v : Word) (s : State), s.pview path = true →
    exec (.prdDigSelWrite path v) s =
      .next { s with prd := { s.prd with digSel := v &&& 0x81FF0FFF#32, digValid := false } } ∧
    exec (.prdDigLayerWrite path v) s =
      .next { s with prd := { s.prd with digLayer := v &&& 0xFFFF#32, digValid := false } } ∧
    (∃ u, exec (.schClassEnWrite path v) s = .next u ∧ u.sch.classEn = v.setWidth 4 ||| 1#4 ∧
      u.sch.classEff = s.sch.classEff ∧ u.tiles = s.tiles ∧ u.prd = s.prd) ∧
    (∃ u, exec (.schAbsentForceWrite path v) s = .next u ∧ u.sch.force = clrBit ((v >>> 4).setWidth 4) (modPos s) ∧
      u.sch.eff = s.sch.eff ∧ u.tiles = s.tiles ∧ u.prd = s.prd))

/-- R443 to R447: a report, an exclusion, and re-admission. R288: the diagnostic state of a tile. Which of two causes of an
exclusion SAF_EXCL shows is the model's choice (log entry 49). -/
def Obligations.ReportsExclusionsAndDiagnosticState : Prop :=
  ((∀ (bit src cause : Nat) (inj : Bool) (s : State), bit ≤ 12 → let u := s.report bit src cause inj
    u.saf.faults = setBit s.saf.faults bit ∧ u.saf.faultCount = satW s.saf.faultCount ∧
      u.pen.acc.faults = setBit s.pen.acc.faults bit ∧ u.tiles = s.tiles ∧ u.prd = s.prd ∧ u.sch = s.sch) ∧
  (∀ (bit src cause : Nat) (inj : Bool) (s : State), 13 ≤ bit →
    s.report bit src cause inj = { s with saf := { s.saf with faults := setBit s.saf.faults bit } }) ∧
  (∀ (t cause : Nat) (s : State), let u := s.exclude t cause
    (u.tile t).excl = (if exclRank (s.tile t).excl < exclRank cause then cause else (s.tile t).excl) ∧ (u.tile t).exclEff = (s.tile t).exclEff ∧ (∀ r, r ≠ t → u.tile r = s.tile r) ∧
    ((cause = 1 ∨ cause = 3) → (u.tile t).failT = some s.now ∧
      (s.saf.readmitAcc = true → s.saf.readmitTile = t → s.saf.readmitT = s.now →
        u.saf.readmitAcc = false ∧ u.saf.readmitDen = true))) ∧
  (∀ (path : Port) (v : Word) (s : State), s.pview path = true → hasKey v = true →
    let t := bits v.toNat 7 0
    let ok := s.grade.hasTile t && ((s.tile t).excl == 1 || (s.tile t).excl == 3) &&
      decide ((s.tile t).arr.sentHist.toNat % 8 = 7) && (s.tile t).failT != some s.now
    ∃ u, exec (.safReadmitWrite path v) s = .next u ∧ u.saf.readmitTile = t ∧ u.saf.readmitAcc = ok ∧
      u.saf.readmitDen = !ok ∧ 
      (u.tile t).excl = (if ok then (if (s.tile t).spm.diag then 5 else 0) else (s.tile t).excl) ∧
      (∀ r, r ≠ t → u.tile r = s.tile r)) ∧
  (∀ (path : Port) (v : Word) (s : State), (s.pview path = false ∨ hasKey v = false) →
    exec (.safReadmitWrite path v) s = .next s)) ∧
  ((∀ (path : Port) (t : Nat) (v : Word) (s : State), s.pview path = true → hasKey v = true → v.getLsbD 0 = true →
    s.grade.hasTile t = true →
    (s.mayDiag t = true → ∃ u, exec (.diagEnter path t v) s = .next u ∧ (u.tile t).spm.diag = true ∧
      (u.tile t).spm.diagFret = bits v.toNat 14 8 ∧ (u.tile t).spm.mem = (s.tile t).spm.mem ∧
      (u.tile t).excl = (if exclRank (s.tile t).excl = 0 then 5 else (s.tile t).excl) ∧ (∀ r, r ≠ t → u.tile r = s.tile r)) ∧
    (s.mayDiag t = false → exec (.diagEnter path t v) s =
      .next (s.modSpm t fun p => { p with events := setBit p.events 6 }))) ∧
  (∀ (path : Port) (t : Nat) (v : Word) (s : State), s.pview path = true → hasKey v = true → v.getLsbD 0 = false →
    s.grade.hasTile t = true → (s.tile t).spm.diag = true →
    ∃ u, exec (.diagExit path t v) s = .next u ∧ (u.tile t).spm.diag = false ∧
      (∀ f, f < 96 → ((u.tile t).spm.fret f).st =
        if ((s.tile t).spm.fret f).st = .state ∨ ((s.tile t).spm.fret f).st = .landing then ((s.tile t).spm.fret f).st
        else .dirty) ∧
      (u.tile t).excl = (if (s.tile t).excl = 5 then 0 else (s.tile t).excl) ∧ (∀ r, r ≠ t → u.tile r = s.tile r)))

/-- R452 to R457: fault injection. -/
def Obligations.FaultInjection : Prop :=
  (∀ (path : Port) (v : Word) (s : State), s.pview path = true → hasKey v = true → v.getLsbD 0 = true →
    let code := bits s.saf.injSel.toNat 7 0
    let tile := bits s.saf.injSel.toNat 15 8
    let arg := bits s.saf.injSel.toNat 23 16
    (s.injRefusal code tile arg = 0 → exec (.injectionStart path v) s = .next { s with saf := { s.saf with
      injCode := code, injTile := tile, injArg := arg, injRefuse := 0, injSeen := [], injInsts := [], injReal := false,
      injState := .armed } }) ∧
    (s.injRefusal code tile arg = 2 → exec (.injectionStart path v) s =
      .next { s with saf := { s.saf with injRefuse := 2 } })) ∧
  (∀ (c t g : Nat) (s : State), s.injOpen = false → s.injRefusal c t g = 1) ∧
  (∀ (path : Port) (v : Word) (s : State), s.pview path = true → hasKey v = true → v.getLsbD 1 = true →
    s.saf.injState = .armed → exec (.injectionCancel path v) s = .next (s.endInj .cancelled)) ∧
  (∀ (t : Nat) (s : State), s.saf.injState = .applied →
    exec (.injectionLimitExpiry t) s = .next ((s.advanceTo t).endInj .missed).dropInjector) ∧
  (∀ (st : InjSt) (s : State), (s.endInj st).saf.injState = st ∧
    (s.endInj st).saf.injCount = (if st = .detected then s.saf.injCount + 1 else s.saf.injCount) ∧
    (s.endInj st).saf.injLatency = s.latencyNow ∧
    (s.endInj st).tiles = s.tiles ∧ (s.endInj st).prd = s.prd) ∧
  (∀ (t : Nat) (l : List Nat) (a : CapoIn) (s : State), s.saf.injState = .armed →
    let u := (s.advanceTo t).applyInj
    (s.saf.injCode = 0x0C → exec (.injectionApply t [] a) s = .next ((u.report 11 0xFF 0 true).endInj .detected)) ∧
    (s.saf.injCode = 0x0D → exec (.injectionApply t [] a) s = .next ((u.report 5 0xFF 0 true).endInj .detected)) ∧
    (s.saf.injCode = 1 → exec (.injectionApply t l a) s = .next (u.applyTiles 17 l)) ∧
    (s.saf.injCode = 2 → exec (.injectionApply t l a) s = .next (u.applyTiles 1 l)) ∧
    (s.saf.injCode = 4 → exec (.injectionApply t l a) s = .next (u.applyTiles 2 l)) ∧
    (s.saf.injCode = 8 → exec (.injectionApply t l a) s = .next (u.applyCheck l)) ∧
    (s.saf.injCode ∈ [5, 6, 7] → exec (.injectionApply t [] a) s = .next (u.applyAbort a)) ∧
    (s.saf.injCode ∈ [3, 9, 0x0A, 0x0B] → exec (.injectionApply t l a) s = .next s)) ∧
  (∀ (t : Nat) (l : List Nat) (a : CapoIn) (s : State), s.saf.injState = .applied → s.saf.injCode = 8 →
    exec (.injectionApply t l a) s = .next ((s.advanceTo t).applyCheck l))

/-- R488: fencing a Course link and removing the fence. R464, R468 to R472: the link's timers. -/
def Obligations.LinkFencingAndTimers : Prop :=
  ((∀ (path : Port) (k : Nat) (s : State), s.pview path = true → k < s.grade.links → s.crs.fence.getLsbD k = false →
    (s.linkCfg k).mode ≠ 1 → (s.link k).st = .up →
    ∃ u, exec (.linkFence path k) s = .next u ∧ u.crs.fence = setBit s.crs.fence k ∧ (u.link k).st = .fenced ∧
      (u.link k).txQ = [] ∧ (u.link k).held = [] ∧ (u.link k).linked = false ∧ u.pen.acc.fenced = true ∧
      (∀ j, j ≠ k → u.link j = s.link j) ∧ u.tiles = s.tiles) ∧
  (∀ (path : Port) (k : Nat) (s : State), s.pview path = true → s.crs.fence.getLsbD k = true → k < 2 →
    (s.link k).st = .fenced → s.linkUsed k = true →
    ∃ u, exec (.linkUnfence path k) s = .next u ∧ u.crs.fence.getLsbD k = false ∧ (u.link k).st = .training ∧
      (∀ j, j ≠ k → u.link j = s.link j) ∧ u.tiles = s.tiles)) ∧
  ((∀ (k t : Nat) (s : State), s.receives k = true →
    exec (.flitCrcFail k false t) s = .next ((s.advanceTo t).modLink k fun l => { l with nak := true })) ∧
  (∀ (k t : Nat) (s : State), s.receives k = true → (s.link k).crcTimes = [] →
    ∃ u, exec (.flitCrcFail k true t) s = .next u ∧ (u.link k).crcErrs = (s.link k).crcErrs + 1 ∧
      (u.link k).nak = true ∧ (u.link k).events = setBit (s.link k).events 0 ∧ (u.link k).st = (s.link k).st ∧
      (u.link k).crcTimes = [u.now] ∧ u.tiles = s.tiles) ∧
  (∀ (k : Nat) (s : State), s.receives k = true → exec (.replayTimerExpiry k) s = .next (s.rewind k)) ∧
  (∀ (k : Nat) (s : State), (s.link k).held ≠ [] → (s.link k).sameRetries < 7 → let u := s.rewind k
    (u.link k).retries = (s.link k).retries + 1 ∧ (u.link k).sameRetries = (s.link k).sameRetries + 1 ∧
      ((u.link k).held.map fun f => (f.typ, f.seq, f.payload)) = ((s.link k).held.map fun f => (f.typ, f.seq, f.payload)) ∧
      (∀ f ∈ (u.link k).held, f.ack = (s.link k).rxSeq) ∧ (u.link k).st = (s.link k).st ∧
      u.pen.acc.linkRetries = satAdd 16 s.pen.acc.linkRetries 1) ∧
  (∀ (k : Nat) (n : Byte) (s : State), (s.link k).nakFor = some n → s.takeNak k n = s) ∧
  (∀ (k : Nat) (s : State), (s.link k).st = .up → exec (.linkSilenceTimeout k) s = .next (s.linkDown k 3)) ∧
  (∀ (k : Nat) (s : State), (s.link k).st = .up → exec (.laneLockLoss k) s = .next (s.linkDown k 4)) ∧
  (∀ (k : Nat) (s : State), (s.link k).st = .down → s.linkUsed k = true → s.crs.fence.getLsbD k = false →
    ∃ u, exec (.linkRetrainTimer k) s = .next u ∧ (u.link k).st = .training ∧ (u.link k).locked = false ∧
      (∀ j, j ≠ k → u.link j = s.link j) ∧ u.tiles = s.tiles) ∧
  (∀ (k : Nat) (s : State), (s.link k).st = .training → (s.link k).gotHello = false →
    let u := s.modLink k fun l => { l with locked := true, helloZero := !s.ready 12 }
    exec (.helloTimer k) s = .next (u.sendFlit k 1 (u.helloPayload k))) ∧
  (∀ (k : Nat) (s : State),
    ((s.link k).sent.length < 2048 → exec (.skipInsert k) s = .next s) ∧
    (2048 ≤ (s.link k).sent.length →
      exec (.skipInsert k) s = .next (s.modLink k fun l => { l with sent := [], skips := l.skips + 1 }))) ∧
  (∀ (l : Link) (f : Flit),
    (l.sent.length < 2048 → (l.emit f).sent = l.sent ++ [f] ∧ (l.emit f).skips = l.skips) ∧
    (2048 ≤ l.sent.length → (l.emit f).sent = [f] ∧ (l.emit f).skips = l.skips + 1)))

/-- R98, R115 to R118, R142 to R148, R150, R608: bring-up and the loader's steps. -/
def Obligations.BringUpAndLoader : Prop :=
  (∀ (a : SfdpIn) (s : State), s.discovering = true → sfdpBad a = true →
    exec (.xspiDiscoveryDone a) s = .next s.failXspi) ∧
  (∀ (a : SfdpIn) (s : State), s.discovering = true → sfdpBad a = false → s.bootSrc < 2 →
    ∃ u, exec (.xspiDiscoveryDone a) s = .next u ∧ u.ready 5 = true ∧ u.img.densityMiB = a.densityMiB ∧
      u.evr.tpp = a.tppUs ∧ u.evr.tflush = 140 + 67 * (a.tppUs + if s.singleSdr a then 8 else 2) ∧ u.tiles = s.tiles) ∧
  (∀ (ok : Bool) (s : State), s.emmcUnderWay = true → exec (.emmcBringupDone ok) s = .next (s.emmcEnd ok)) ∧
  (∀ s : State, s.emmcUnderWay = true → exec (.bringupBoundExpiry .emmc) s = .next (s.emmcEnd false)) ∧
  (∀ s : State, s.discovering = true → exec (.bringupBoundExpiry .xspi) s = .next s.failXspi) ∧
  (∀ s : State, s.training = true → exec (.bringupBoundExpiry .dram) s = .next (s.dramEnd false 0)) ∧
  (∀ (p : Nat) (s : State), s.aon.pllLocked = true → p < s.grade.csi → (s.csiPort p).calibrated = false →
    (s.csiPort p).calFail = false → exec (.bringupBoundExpiry (.dphy p)) s =
      .next (State.refreshPorts (s.modCsi p fun x => { x with calFail := true }))) ∧
  (∀ (a : HeaderIn) (s : State), s.ready 7 = true → s.bootSrc < 2 → s.img.started = false → s.img.stopped = false →
    s.evr.flushing = false →
    let u := State.addLoadBytes { s with img := { s.img with started := true } }
      [a.primary, a.primaryDir, a.alternate, a.alternateDir]
    let half := s.img.densityMiB * 2 ^ 20 / 2
    (∀ dir, u.copyDir 0 a.primary a.primaryDir = some dir → u.copyDir half a.alternate a.alternateDir = none →
      exec (.headerAndDirectoryRead a) s = .next (u.useCopy 1 0 (a.primary.getD []) dir [] false)) ∧
    (∀ dir, u.copyDir 0 a.primary a.primaryDir = none → u.copyDir half a.alternate a.alternateDir = some dir →
      exec (.headerAndDirectoryRead a) s = .next (u.useCopy 2 half (a.alternate.getD []) dir [] false)) ∧
    (u.copyDir 0 a.primary a.primaryDir = none → u.copyDir half a.alternate a.alternateDir = none →
      exec (.headerAndDirectoryRead a) s = .next (u.failRdy 8).finishLoad) ∧
    (∀ dir x, u.copyDir 0 a.primary a.primaryDir = some dir → u.copyDir half a.alternate a.alternateDir = some x →
      let same := wordAt (a.primary.getD []) 0x14 == wordAt (a.alternate.getD []) 0x14
      exec (.headerAndDirectoryRead a) s =
        .next (u.useCopy 1 0 (a.primary.getD []) dir (if same then x else []) same))) ∧
  (∀ (a : SectionIn) (i : Nat) (s : State), s.img.cur = some i → s.img.stopped = false → s.img.finished = false →
    let e := s.img.dir.getD i {}
    (s.evr.flushing = false ∨ e.onEmmc = true) →
    let u := State.decideSection
      (s.addLoadBytes [a.data, if (s.sectionFault e a.data s.img.dramBad).isSome then a.alt else none]) e a
    exec (.sectionReadDone a) s = .next (State.advanceLoad (State.taskDone
      { u with img := { u.img with cur := none, dramBad := false } } (.entry i)))) ∧
  (∀ (e : DirEntry) (a : SectionIn) (s : State),
    (s.sectionFault e a.data s.img.dramBad = none → s.decideSection e a = s.takeSection e (a.data.getD [])) ∧
    (∀ f, s.sectionFault e a.data s.img.dramBad = some f → s.mayRecover e f.1 = false →
      s.decideSection e a = s.rejectSection e.typ e.inst f (s.entrySource e)) ∧
    (a.data = none → s.sectionFault e a.data s.img.dramBad = some (2, noRec)))

/-- R465, R468, R471, R485: which flits are accepted, and what a link that goes DOWN loses. -/
def Obligations.AcceptedFlits : Prop :=
  (∀ (k typ : Nat) (f : FlitIn) (s : State), s.receives k = true → crcHolds typ f = true → f.lflags.getLsbD 0 = false →
    f.lflags.getLsbD 1 = false →
    (f.seq = (s.link k).rxSeq → ∃ u, s.accept k typ f = (u, true) ∧ (u.link k).rxSeq = (s.link k).rxSeq + 1 ∧
      (u.link k).rxFlits = (s.link k).rxFlits + 1 ∧ (u.link k).nak = false ∧ (u.link k).st = (s.link k).st ∧
      (∀ j, j ≠ k → u.link j = s.link j) ∧ u.tiles = s.tiles ∧ u.sch = s.sch) ∧
    (f.seq ≠ (s.link k).rxSeq → ∃ u, s.accept k typ f = (u, false) ∧ (u.link k).nak = true ∧
      (u.link k).rxSeq = (s.link k).rxSeq ∧ u.tiles = s.tiles ∧ u.sch = s.sch)) ∧
  (∀ (k typ : Nat) (f : FlitIn) (s : State), s.receives k = true → crcHolds typ f = false →
    s.accept k typ f = ((s.advanceTo f.t).discardFlit k true, false)) ∧
  (∀ (k : Nat) (f : FlitIn) (s : State), s.receives k = true → crcHolds 0 f = true → f.lflags.getLsbD 1 = true →
    exec (.flitIdle k f) s = .next ((s.advanceTo f.t).linkDown k 5)) ∧
  (∀ (k : Nat) (f : FlitIn) (s : State), s.receives k = true → crcHolds 0 f = true → f.lflags.getLsbD 0 = false →
    f.lflags.getLsbD 1 = false → ∃ u, exec (.flitIdle k f) s = .next u ∧
      (u.link k).rxSeq = (s.link k).rxSeq ∧ (u.link k).st = (s.link k).st ∧ u.tiles = s.tiles ∧ u.sch = s.sch) ∧
  (∀ (typ : Nat) (f : FlitIn), crcHolds typ f = true ↔ (f.crc = none ∨ f.crc = some (flitAs typ f).crc)) ∧
  (∀ (k cause : Nat) (s : State), (s.linkCfg k).mode ≠ 1 → ((s.link k).st = .up ∨ (s.link k).st = .training) →
    let u := s.linkDown k cause
    (u.link k).st = .down ∧ (u.link k).cause = cause ∧ (u.link k).downs = (s.link k).downs + 1 ∧ (u.link k).txQ = [] ∧
      (u.link k).held = [] ∧ (u.link k).outQ = [] ∧ (u.link k).linked = false ∧ (u.link k).txSeq = 0#8 ∧
      (∀ j, j ≠ k → u.link j = s.link j) ∧ u.tiles = s.tiles ∧ u.sch = s.sch) ∧
  (∀ (k cause : Nat) (s : State), (s.link k).st ≠ .up → (s.link k).st ≠ .training → s.linkDown k cause = s)

/-- R471 to R481, R486: what an accepted control, BOUNDARY, DIGEST or END flit does on its link; `u` is the state once
the flit is accepted (`State.accept`). -/
def Obligations.ControlAndPeriodFlits : Prop :=
  (∀ (k : Nat) (f : FlitIn) (s u : State), s.accept k 1 f = (u, true) →
    ((u.link k).st = .training →
      (u.helloFault k f.payload = 0 → exec (.hello k f) s = .next (u.linkUp k f.payload)) ∧
      (u.helloFault k f.payload ≠ 0 → exec (.hello k f) s =
        .next ((u.modLink k fun l => { l with peerId := wordAt f.payload 6 }).linkFail k (u.helloFault k f.payload)))) ∧
    ((u.link k).st = .up →
      exec (.hello k f) s = .next (u.linkDown k 6) ∧
      exec (.planinfo k f) s = .next ((u.modLink k fun l => { l with
        peerP := field f.payload 0x0A 4, peerPhase := BitVec.ofNat 64 (field f.payload 0x0E 8) }).comparePlan k) ∧
      exec (.crsStartFlit k f) s =
        .next ((u.modLink k fun l => { l with peerFirst := some (field f.payload 4 8) }).coordinate) ∧
      exec (.share k f) s = .next (u.modLink k fun l => { l with peerShare := (tput {} l.peerShare (field f.payload 1 1)
        { pages := field f.payload 2 4, check := wordAt f.payload 6, set := true }) }))) ∧
  (∀ (k : Nat) (f : FlitIn) (s u : State), s.accept k 2 f = (u, true) → (u.link k).st = .up →
    let b := bndInfo f.payload
    let near := u.prd.anyBoundary && decide (tDist b.boundary u.prd.boundary < u.prd.pUs * 500)
    let kept := u.modLink k fun l => { l with peerBnd := some b }
    (u.prd.anyBoundary = false → exec (.boundaryFlit k f) s = .next kept.coordinate) ∧
    (u.prd.anyBoundary = true → near = false → exec (.boundaryFlit k f) s = .next kept) ∧
    (near = true → u.prd.gen = .capo → u.now ≤ u.boundaryNs + 5000 →
      exec (.boundaryFlit k f) s = .next (kept.evalLink k b)) ∧
    (near = true → (u.prd.gen ≠ .capo ∨ u.boundaryNs + 5000 < u.now) → exec (.boundaryFlit k f) s = .next u)) ∧
  (∀ (k : Nat) (f : FlitIn) (s u : State), s.accept k 3 f = (u, true) → (u.link k).st = .up →
    (u.prd.gen ≠ .capo → exec (.digestFlit k f) s = .next (u.takePeer k { typ := 3, payload := f.payload })) ∧
    (u.prd.gen = .capo → exec (.digestFlit k f) s = .next { u with crs := { u.crs with
      early := u.crs.early ++ [{ typ := 3, payload := f.payload }] } })) ∧
  (∀ (k : Nat) (f : FlitIn) (s u : State), s.accept k 4 f = (u, true) → (u.link k).st = .up →
    (u.prd.gen ≠ .capo → exec (.endFlit k f) s = .next (u.takePeer k { typ := 4, payload := f.payload })) ∧
    (u.prd.gen = .capo → exec (.endFlit k f) s = .next { u with crs := { u.crs with
      early := u.crs.early ++ [{ typ := 4, payload := f.payload }] } }))

/-- R484 to R487: messages and pages that a link carries; `u` and `w` are the states once the flits are accepted. -/
def Obligations.MessagesAndPagesAcrossChips : Prop :=
  (∀ (k : Nat) (f g : FlitIn) (s w : State), (w.link k).st = .up →
    let w' := w.modLink k fun l => { l with msgA := none }
    (∀ u, (s.link k).msgA = none → s.accept k 5 f = (u, true) → (u.link k).st = .up →
      (u.modLink k fun l => { l with msgA := some f.payload }).accept k 6 g = (w, true) →
      exec (.msgPair k f g) s = .next (w'.takeMsg k f.payload g.payload)) ∧
    (∀ a, (s.link k).msgA = some a → s.accept k 6 g = (w, true) →
      exec (.msgPair k f g) s = .next (w'.takeMsg k a g.payload))) ∧
  (∀ (k : Nat) (a b : List Byte) (s : State), let m := s.remMsg k a b
    ((s.offer k m).2 = false → s.takeMsg k a b = (s.offer k m).1) ∧
    ((s.offer k m).2 = true → ((s.offer k m).1.link k).hold.length < 8 →
      s.takeMsg k a b = (s.offer k m).1.modLink k fun l => { l with hold := l.hold ++ [m] }) ∧
    ((s.offer k m).2 = true → 8 ≤ ((s.offer k m).1.link k).hold.length →
      s.takeMsg k a b = (s.offer k m).1.linkDiscard k)) ∧
  (∀ (k : Nat) (m : RemMsg) (i : Inst) (s : State), (s.link k).linked = true → s.grade.hasTile m.msg.dst = true →
    s.instOf m.job m.period = some i → i.running.contains m.msg.dst = true →
    let box := tget [] (s.tile m.msg.dst).tc.mbox m.msg.mbox
    let behind := (s.link k).hold.any fun h => h.job == m.job && h.period == m.period && h.msg.src == m.msg.src &&
      h.msg.dst == m.msg.dst && h.msg.mbox == m.msg.mbox
    (behind = false → box.length < 4 → s.offer k m = (s.modTc m.msg.dst fun c =>
      { c with mbox := tput [] c.mbox m.msg.mbox (box ++ [{ m.msg with inst := i.id }]) }, false)) ∧
    ((behind = true ∨ 4 ≤ box.length) → s.offer k m = (s, true))) ∧
  (∀ (k : Nat) (s : State), ∃ u, exec (.remoteMsgReoffer k) s = .next u ∧ u.sch = s.sch ∧ u.dram = s.dram ∧
    (u.link k).hold.length ≤ (s.link k).hold.length ∧ (∀ j, j ≠ k → u.link j = s.link j)) ∧
  (∀ (k : Nat) (m : RemMsg) (s u : State), (s.link k).hold = [m] →
    ((s.modLink k fun l => { l with hold := [] }).offer k m = (u, false) → exec (.remoteMsgReoffer k) s = .next u) ∧
    ((s.modLink k fun l => { l with hold := [] }).offer k m = (u, true) → exec (.remoteMsgReoffer k) s =
      .next (u.modLink k fun l => { l with hold := l.hold ++ [m] }))) ∧
  (∀ (k : Nat) (f : FlitIn) (s u : State), s.accept k 7 f = (u, true) → (u.link k).st = .up →
    let net := field f.payload 0 1
    let page := field f.payload 2 4
    (u.leads k net = false → exec (.pageReq k f) s = .next u) ∧
    (u.leads k net = true → u.dram.poisoned.contains (net, page) = true →
      exec (.pageReq k f) s = .next (u.sendPage k net page true [])) ∧
    (u.leads k net = true → u.dram.poisoned.contains (net, page) = false → exec (.pageReq k f) s =
      .next (State.pagerRun (u.addFetch { net := net, page := page, key := field f.payload 6 8, subs := [], fromPeer := some k }
        none)))) ∧
  (∀ (k : Nat) (f : FlitIn) (s u : State), s.accept k 8 f = (u, true) → (u.link k).st = .up →
    let net := field f.payload 0 1
    let page := field f.payload 2 4
    ((u.remoteEntry net page).isSome = true →
      (bitOf (field f.payload 1 1) 0 = true → exec (.pageHead k f) s = .next (u.fallBack k net page)) ∧
      (bitOf (field f.payload 1 1) 0 = false → exec (.pageHead k f) s =
        .next (u.modLink k fun l => { l with pageNet := some (net, page), pageData := [] }))) ∧
    (u.remoteEntry net page = none → exec (.pageHead k f) s =
      .next (u.modLink k fun l => { l with pageNet := none, pageData := [] }))) ∧
  (∀ (k : Nat) (f : FlitIn) (s u : State), s.accept k 9 f = (u, true) → (u.link k).st = .up →
    ((u.link k).pageNet = none → exec (.pageData k f) s = .next u) ∧
    (∀ net page, (u.link k).pageNet = some (net, page) →
      let d := (u.link k).pageData ++ pad26 f.payload
      let w := u.modLink k fun l => { l with pageNet := none, pageData := [], pagesRx := l.pagesRx + 1 }
      (d.length < 16384 → exec (.pageData k f) s = .next (u.modLink k fun l => { l with pageData := d })) ∧
      (16384 ≤ d.length → w.remoteEntry net page = none → exec (.pageData k f) s = .next w) ∧
      (∀ e, 16384 ≤ d.length → w.remoteEntry net page = some e → exec (.pageData k f) s =
        .next (if pageCheckOk (d.take 16384) then w.stagePage e (d.take 16384) true false
          else (w.stagePage e (d.take 16384) false false).fallBack k net page))))

/-- R526, R527, R529, R531, R533, R534: which command bodies are taken, refused or done, and what is answered and
logged. -/
def Obligations.HoistCommandsTaken : Prop :=
  (∀ (op : Nat) (a : HCmd) (c : Nat) (f : State → State) (s : State), hTakes s a →
    s.hTake op a none f = f (hTaken s a) ∧ s.hTake op a (some c) f = (hTaken s a).hRefuse op a c) ∧
  (∀ (op : Nat) (a : HCmd) (r : Option Nat) (f : State → State) (s : State),
    (a.path = .sc ∧ s.hoist.canCmd = some a.counter ∨ a.path = .host ∧ s.hoist.eid = 0#8) → s.hTake op a r f = s) ∧
  (∀ (op : Nat) (a : HCmd) (ok : Bool) (s : State),
    (hRight op a.path = 0 → s.hRefusal op a ok = some 3) ∧
    (hRight op a.path = 2 → s.hoist.service = false → s.hRefusal op a ok = some 9) ∧
    (hRight op a.path = 1 → ok = false → s.hRefusal op a ok = some 2) ∧
    (hRight op a.path = 1 → ok = true → a.slot < 4 → (s.hslot a.slot).st ≠ .empty → (s.hslot a.slot).holder = 0 →
      (s.hslot a.slot).action = none → s.hRefusal op a ok = none)) ∧
  (∀ (op : Nat) (a : HCmd) (d : List Byte) (s : State), a.slot < 4 →
    let u := s.hDone op a d
    u.hoist.resp = [BitVec.ofNat 8 (op ||| 0x80), a.tag, 0#8, 0#8] ++ d ∧ u.hoist.nextSeq = s.hoist.nextSeq + 1 ∧
      (∀ p, u.hslot p = s.hslot p) ∧ (tget {} u.hoist.log (s.hoist.nextSeq.toNat % 16384)).opcode = op) ∧
  (∀ (op : Nat) (a : HCmd) (c : Nat) (s : State), a.slot < 4 →
    let u := s.hRefuse op a c
    u.hoist.resp = [BitVec.ofNat 8 (op ||| 0x80), a.tag, BitVec.ofNat 8 c, 0#8] ∧ (∀ p, u.hslot p = s.hslot p))

/-- R531, R533, R534, R536 to R538: the commands of the Hoist's paths have their effect on the state in which the body
is taken. -/
def Obligations.HoistCommandEffects : Prop :=
  ∀ (a : HCmd) (s : State), hTakes s a → let t := hTaken s a
    (s.hRefusal 0x01 a (a.len 0) = none → exec (.getStatus a) s = .next (t.hDone 0x01 a t.hoist.status)) ∧
    (s.hRefusal 0x02 a (a.len 0) = none → a.slot < 4 →
      exec (.getSensors a) s = .next (t.hDone 0x02 a (t.hoist.readings a.slot ++ t.hoist.status))) ∧
    (s.hRefusal 0x02 a (a.len 0) = none → let r := t.readingsOf a.slot
      exec (.getSensors a) s = .next (r.2.hDone 0x02 a (r.1 ++ r.2.hoist.status))) ∧
    (∀ r, s.hoist.record (wordAt a.args 0) = some r → s.hRefusal 0x03 a (a.len 5 && decide (a.arg 4 < 2)) = none →
      exec (.getLog a) s = .next (t.hDone 0x03 a (slice r.bytes (32 * a.arg 4) 32))) ∧
    (s.hRefusal 0x10 a (a.len 0) = none → s.oneOut a.slot = false →
      exec (.moduleOut a) s = .next (t.hStart 0x10 a)) ∧
    (s.hRefusal 0x11 a (a.len 0) = none → s.inRefusal a = none → exec (.moduleIn a) s =
      .next ((t.modHSlot a.slot fun x => { x with shdnLatch := false, ocLatch := false }).hStart 0x11 a)) ∧
    (s.hRefusal 0x12 a (a.len 0) = none → s.hoist.trayLatch = false → (s.hslot a.slot).shdnLatch = false →
      (s.hslot a.slot).ocLatch = false → s.oneOut a.slot = false →
      exec (.moduleCycle a) s = .next (t.hStart 0x12 a)) ∧
    (s.hRefusal 0x13 a (a.len 0) = none → exec (.moduleReset a) s = .next (t.hStart 0x13 a)) ∧
    (s.hRefusal 0x14 a (a.len 0) = none → exec (.moduleKill a) s = .next (t.hStart 0x14 a)) ∧
    (s.hRefusal 0x20 a (a.len 1) = none → exec (.shed a) s =
      .next ((t.pathContrib a fun c => { c with classEn := BitVec.ofNat 4 (a.arg 0) ||| 1#4 }).hDone 0x20 a [])) ∧
    (s.hRefusal 0x21 a (a.len 2 && decide (a.arg 0 < 4) && decide (a.arg 1 < 2)) = none →
      exec (.fence a) s = .next ((t.pathContrib a fun c => { c with fence :=
        (if a.arg 1 = 1 then c.fence ||| BitVec.ofNat 2 (a.arg 0) else c.fence &&& ~~~(BitVec.ofNat 2 (a.arg 0))) }).hDone
          0x21 a [])) ∧
    (s.hRefusal 0x22 a (a.len 1 && decide (a.arg 0 < 16)) = none → exec (.forceAbsent a) s =
      .next ((t.pathContrib a fun c => { c with force := BitVec.ofNat 4 (a.arg 0) }).hDone 0x22 a [])) ∧
    (∀ ws, s.hRefusal 0x30 a (a.len 5 && decide (1 ≤ a.arg 4) && decide (a.arg 4 ≤ 8)) = none → ws.length = a.arg 4 →
      (wordAt a.args 0).toNat % 4 = 0 →
      exec (.pviewRead a (some ws)) s = .next (t.hDone 0x30 a (wordsBytes ws))) ∧
    (s.hRefusal 0x31 a (decide (1 ≤ a.arg 4) && decide (a.arg 4 ≤ 8) && a.len (5 + 4 * a.arg 4)) = none →
      (wordAt a.args 0).toNat % 4 = 0 →
      ((List.range (a.arg 4)).any fun i => ownedRegs.contains (((wordAt a.args 0).toNat + 4 * i) / 4 * 4)) = false →
      exec (.pviewWrite a true) s = .next (State.hDone { t with hoist := { t.hoist with
        spiOut := (a.slot, BitVec.ofNat 32 (wordAt a.args 0).toNat ::
          ((List.range (a.arg 4)).map fun i => wordAt a.args (5 + 4 * i))) :: t.hoist.spiOut } } 0x31 a [])) ∧
    (s.hRefusal 0x40 a (a.len 2 && decide (1 ≤ field a.args 0 2) && decide (field a.args 0 2 ≤ 3600)) = none →
      exec (.hold a) s = .next ((t.modHSlot a.slot fun x => { x with
        holder := (if a.path = .sc then 1 else 2), holdUs := field a.args 0 2 * 1000000 }).hDone 0x40 a [])) ∧
    (s.hRefusal 0x41 a (a.len 0) = none → exec (.holdRelease a) s = .next ((t.modHSlot a.slot fun x =>
      if x.holderRank = a.path.src.rank then { x with holder := 0, holdUs := 0 } else x).hDone 0x41 a [])) ∧
    (s.hRefusal 0x42 a (a.len 1) = none → a.arg 0 = 2 → exec (.interlockClear a) s =
      .next ((State.mainClose { t with hoist := { t.hoist with mainOcLatch := false } }).hDone 0x42 a [] t)) ∧
    (s.hRefusal 0x42 a (a.len 1) = none → a.arg 0 = 1 → s.hoist.ropeAWet = false → s.hoist.ropeBWet = false →
      60000000 ≤ s.hoist.dryUs → exec (.interlockClear a) s =
      .next ((State.mainClose { t with hoist := { t.hoist with leakLatch := false } }).hDone 0x42 a [] t)) ∧
    (s.hRefusal 0x43 a (a.len 0) = none → (s.hslot a.slot).st = .out → exec (.latchRelease a) s =
      .next ((t.modHSlot a.slot fun x => { x with slotLatch := false }).hDone 0x43 a [])) ∧
    (s.hRefusal 0x44 a (a.len 0) = none → (s.hslot a.slot).contested = true → exec (.clearContest a) s =
      .next ((t.endContest a.slot 1).hDone 0x44 a [] t)) ∧
    (s.hRefusal 0x44 a (a.len 0) = none → (s.hslot a.slot).contested = false → exec (.clearContest a) s =
      .next (t.hDone 0x44 a []))

/-- R526 to R528, R533, R535, R549: frames, leases and MCTP control. The version numbers in the answers are free
values (log entry 32). -/
def Obligations.HoistFrames : Prop :=
  (∀ (id : Nat) (f : List Byte) (s : State), exec (.canFrameDiscard id f) s = .next s) ∧
  (∀ (f : List Byte) (s : State), (canValid s.hoist.canHb f = false → exec (.heartbeat f) s = .next s) ∧
    (canValid s.hoist.canHb f = true → s.hoist.scPresent = true → exec (.heartbeat f) s =
      .next { s with hoist := { s.hoist with
        canHb := some (f.getD 1 0#8), service := bitOf (f.getD 2 0#8).toNat 0,
        autoCycle := bitOf (f.getD 2 0#8).toNat 1 } })) ∧
  (∀ s : State, s.hoist.scPresent = true → ∃ u, exec .scLost s = .next u ∧ u.hoist.scPresent = false ∧
    u.hoist.service = false ∧ u.hoist.autoCycle = false ∧
    (∀ p, p < 4 → (u.hslot p).st = (s.hslot p).st ∧ (u.hslot p).efuse = (s.hslot p).efuse ∧
      (u.hslot p).holder = (s.hslot p).holder)) ∧
  (∀ s : State, exec .statusBroadcast s = .next { s with hoist := { s.hoist with
    cast := canFrame s.hoist.castCnt s.hoist.status, castCnt := s.hoist.castCnt + 1 } }) ∧
  (∀ s : State, exec .uartIdleGap s = .next { s with hoist := { s.hoist with uartBusy := false } }) ∧
  (∀ (p : Nat) (s : State), p < 4 →
    exec (.holdExpiry p) s = .next (s.modHSlot p fun x => { x with holder := 0, holdUs := 0 })) ∧
  (∀ (eid : Byte) (s : State), eid ≠ 0#8 → eid ≠ 0xFF#8 → ∃ u, exec (.setEndpointId eid) s = .next u ∧
    u.hoist.eid = eid ∧ ∀ v, ∃ w, exec .getEndpointId u = .next w ∧ w.hoist.resp.getD 2 v = eid) ∧
  (∀ s : State, exec .getEndpointId s = .next (s.mctpControl [2#8, 0#8, s.hoist.eid, 0#8, 0#8])) ∧
  (∀ s : State, ∃ u, exec .getMctpVersionSupport s = .next u ∧ u.hoist.resp.length = 7 ∧
    u.hoist.resp.take 3 = [4#8, 0#8, 1#8] ∧ u.tiles = s.tiles) ∧
  (∀ s : State, exec .getMessageTypeSupport s = .next (s.mctpControl [5#8, 0#8, 1#8, 0x7E#8])) ∧
  (∀ s : State, ∃ u, exec .getVendorMessageSupport s = .next u ∧
    u.hoist.resp.take 6 = [6#8, 0#8, 0xFF#8, 0#8, 0xC3#8, 0xE1#8] ∧ u.tiles = s.tiles)

/-- R519, R522 to R525, R539, R540, R544 to R548, R551: interlocks, samples, examination points and the Hoist's start.
-/
def Obligations.HoistInterlocksAndSamples : Prop :=
  (∀ (rope : Nat) (s : State), ∃ u, exec (.leak rope) s = .next u ∧ u.hoist.leakLatch = true ∧ u.hoist.mainEfuse = false ∧
    u.hoist.discharge = true ∧ (rope = 0 → u.hoist.ropeAWet = true) ∧
    (∀ p, p < 4 → (u.hslot p).pwrFailN = false ∧ (u.hslot p).action = none ∧ (u.hslot p).efuse = (s.hslot p).efuse)) ∧
  (∀ s : State, ∃ u, exec .mainOc s = .next u ∧ u.hoist.mainOcLatch = true ∧ u.hoist.mainEfuse = false ∧
    u.hoist.leakLatch = s.hoist.leakLatch ∧
    (∀ p, p < 4 → (u.hslot p).pwrFailN = false ∧ (u.hslot p).st =
      if (s.hslot p).st = .empty ∨ (s.hslot p).st = .out then (s.hslot p).st else .tripped)) ∧
  (∀ (p : Nat) (s : State), p < 4 →
    (∃ u, exec (.shdn p) s = .next u ∧ (u.hslot p).shdnLatch = true ∧ (u.hslot p).efuse = false ∧
      (u.hslot p).railEn = false ∧ (u.hslot p).pwrFailN = false ∧ u.hoist.mainEfuse = s.hoist.mainEfuse ∧
      (∀ q, q < 4 → q ≠ p → u.hslot q = s.hslot q)) ∧
    (∃ u, exec (.moduleOc p) s = .next u ∧ (u.hslot p).ocLatch = true ∧ (u.hslot p).efuse = false ∧
      (u.hslot p).pwrFailN = false ∧ u.hoist.mainEfuse = s.hoist.mainEfuse ∧
      (∀ q, q < 4 → q ≠ p → u.hslot q = s.hslot q)) ∧
    ((s.hslot p).efuse = true → ∃ u, exec (.yanked p) s = .next u ∧ (u.hslot p).st = .empty ∧ (u.hslot p).efuse = false ∧
      (u.hslot p).action = none ∧
      (∀ q, q < 4 → q ≠ p → (s.hslot q).st = .on → (u.hslot q).hoist.force.getLsbD p = true)) ∧
    ((s.hslot p).efuse = false → exec (.yanked p) s = .next s)) ∧
  (∀ (vm im : Nat) (i0 i1 i2 i3 : HSlotIn) (r : List HReading) (s : State), s.hoist.trips = [] →
    (∀ p, p < 4 → (s.hslot p).action = none) → (∀ i ∈ [i0, i1, i2, i3], i.prsntN = false) →
    ∃ u, exec (.railSample { vmain := vm, imain := im, slots := [i0, i1, i2, i3], reads := r }) s = .next u ∧
      u.hoist.timeUs = s.hoist.timeUs + 1000 ∧ u.hoist.vmain = vm ∧ u.hoist.imain = im ∧
      (u.hslot 0).vin = i0.vin ∧ (u.hslot 1).vin = i1.vin ∧ (u.hslot 2).pgood = i2.pgood ∧ (u.hslot 3).iin = i3.iin ∧
      (∀ p, p < 4 → (u.hslot p).presentUs = (s.hslot p).presentUs + 1000 ∧ (u.hslot p).efuse = (s.hslot p).efuse)) ∧
  (∀ (a : RailIn) (s : State), ∃ u, exec (.railSample a) s = .next u ∧ u.hoist.timeUs = s.hoist.timeUs + 1000 ∧
    u.hoist.vmain = a.vmain ∧ u.hoist.imain = a.imain ∧ u.hoist.leakLatch = s.hoist.leakLatch ∧
    u.hoist.mainEfuse = s.hoist.mainEfuse ∧ u.tiles = s.tiles) ∧
  (∀ (i0 i1 i2 i3 : Bool × Bool × Bool) (s : State),
    ∃ u, exec (.linkPinSample { slots := [i0, i1, i2, i3] }) s = .next u ∧ (u.hslot 0).crs0 = i0.1 ∧
      (u.hslot 1).crs1 = i1.2.1 ∧ (u.hslot 2).toggle = i2.2.2 ∧
      (u.hslot 3).toggleChanged = ((s.hslot 3).toggleChanged || (s.hslot 3).toggle != i3.2.2) ∧
      (u.hslot 0).pinHigh0 = ((s.hslot 0).pinHigh0 && i0.1 && i1.1)) ∧
  (∀ (ti tu : Int) (flow : Nat) (l : List Int) (s : State),
    ∃ u, exec (.coolantSample ti tu flow l) s = .next u ∧ u.hoist.tin = ti ∧ u.hoist.tout = tu ∧ u.hoist.flow = flow ∧
      u.hoist.flowLevel = flowNext s.hoist.flowLevel flow
        (if flow < 50 then (if s.hoist.flow < 50 then s.hoist.flowLowMs + 100 else 0) else 0)
        (if 200 ≤ flow then (if 200 ≤ s.hoist.flow then s.hoist.flowOkMs + 100 else 0) else 0) ∧
      (∀ p, p < 4 → (u.hslot p).efuse = (s.hslot p).efuse ∧ (u.hslot p).st = (s.hslot p).st ∧
        ((s.hslot p).st = .on → (s.hslot p).holder = 0 → (u.hslot p).hoist.classEn = flowClasses u.hoist.flowLevel))) ∧
  (∀ (ti tu : Int) (flow : Nat) (s : State), 50 ≤ flow → flow < 200 →
    ∃ u, exec (.coolantSample ti tu flow []) s = .next u ∧ u.hoist.tin = ti ∧ u.hoist.tout = tu ∧
      u.hoist.flow = flow ∧ u.hoist.flowLevel = 1 ∧
      (∀ p, p < 4 → (s.hslot p).st = .on → (s.hslot p).holder = 0 → (u.hslot p).hoist.classEn = 0b0111#4)) ∧
  (∀ (ra rb : Nat) (s : State), ∃ u, exec (.ropeSample ra rb) s = .next u ∧
    u.hoist.ropeAWet = decide (ra < 20000) ∧ u.hoist.ropeBOpen = decide (2000000 < rb) ∧
    u.hoist.leakLatch = s.hoist.leakLatch ∧ (∀ p, u.hslot p = s.hslot p)) ∧
  (∀ (r : List HReading) (s : State), exec (.moduleRegisterPoll r) s =
    .next ([0, 1, 2, 3].foldl (fun u p => State.rewriteOwned u p) (s.takeReads r))) ∧
  (∀ (p : Nat) (s : State), (s.hslot p).read.answered = true → (s.hslot p).merged = (s.hslot p).read.owned →
    s.rewriteOwned p = s) ∧
  (∀ (r : List HReading) (s : State), ∃ u, exec (.examinationPoint r) s = .next u ∧ u.hoist.phUs = u.hoist.interval ∧
    ∀ p, p < 4 → (u.hslot p).allOn = true ∧ (u.hslot p).transition = false ∧ (u.hslot p).toggleChanged = false) ∧
  (∀ (p : Nat) (s : State), p < 4 → (s.hslot p).prsntN = false → (s.hslot p).powerNow ≠ 3 → (s.hslot p).contested = false →
    (s.hslot p).caseNow (s.hslot p).powerNow (s.trafficNow p) ≠ 0 →
    let u := s.examineSlot p
    (u.hslot p).contested = true ∧ (u.hslot p).caseCode = (s.hslot p).caseNow (s.hslot p).powerNow (s.trafficNow p) ∧
      (u.hslot p).powerTruth = (s.hslot p).powerNow ∧ (u.hslot p).trafficTruth = s.trafficNow p) ∧
  (∀ (a : RailIn) (r : List HReading) (s : State), ∃ u, exec (.hoistStart a r) s = .next u ∧
    u.hoist.boots = s.hoist.boots + 1 ∧ u.hoist.eid = 0#8 ∧ u.hoist.scPresent = true ∧ u.hoist.trips = [] ∧
    u.hoist.nextSeq = s.hoist.nextSeq + 1 ∧
    (tget {} u.hoist.log (s.hoist.nextSeq.toNat % 16384)).opcode = 0x8A ∧
    (∀ p, p < 4 → (u.hslot p).action = none ∧ (u.hslot p).holder = 0 ∧ (u.hslot p).efuse = (s.hslot p).efuse))
end

