-- ==== Sys2Proof/Laws/Table.lean ====
section
/-!
SUPPORT. Sparse tables and byte memories: reading after a write, and the canonical form.
-/

namespace Sys2Proof.Machine

theorem tget_tins_same {α : Type} (d : α) (m : FMap α) (k : Nat) (v : α) : tget d (tins m k v) k = v := by
  induction m with
  | nil => simp [tins, tget]
  | cons e m ih =>
    obtain ⟨j, w⟩ := e
    simp only [tins]
    split
    · simp [tget]
    · split
      · simp [tget]
      · rename_i h; simp [tget, h, ih]

theorem tget_tins_other {α : Type} (d : α) (m : FMap α) (k u : Nat) (v : α) (h : u ≠ k) :
    tget d (tins m k v) u = tget d m u := by
  induction m with
  | nil => simp [tins, tget, Ne.symm h]
  | cons e m ih =>
    obtain ⟨j, w⟩ := e
    simp only [tins]
    split
    · simp [tget, Ne.symm h]
    · split
      · rename_i hj; subst hj; simp [tget, Ne.symm h]
      · simp [tget, ih]

theorem tget_filter_same {α : Type} (d : α) (m : FMap α) (k : Nat) :
    tget d (m.filter fun e => e.1 != k) k = d := by
  induction m with
  | nil => rfl
  | cons e m ih =>
    obtain ⟨j, w⟩ := e
    by_cases h : j = k <;> simp [h, tget, ih]

theorem tget_filter_other {α : Type} (d : α) (m : FMap α) (k u : Nat) (h : u ≠ k) :
    tget d (m.filter fun e => e.1 != k) u = tget d m u := by
  induction m with
  | nil => rfl
  | cons e m ih =>
    obtain ⟨j, w⟩ := e
    by_cases hj : j = k
    · subst hj; simp [tget, ih, Ne.symm h]
    · simp [hj, tget, ih]

/-- Reading an entry just set gives it. -/
@[simp] theorem tget_tput_same {α : Type} [DecidableEq α] (d : α) (m : FMap α) (k : Nat) (v : α) :
    tget d (tput d m k v) k = v := by
  unfold tput
  split
  · rename_i h; rw [h, tget_filter_same]
  · exact tget_tins_same d m k v

/-- Setting an entry leaves every other one alone. -/
theorem tget_tput_other {α : Type} [DecidableEq α] (d : α) (m : FMap α) (k u : Nat) (v : α) (h : u ≠ k) :
    tget d (tput d m k v) u = tget d m u := by
  unfold tput
  split
  · exact tget_filter_other d m k u h
  · exact tget_tins_other d m k u v h

theorem tget_tput {α : Type} [DecidableEq α] (d : α) (m : FMap α) (k u : Nat) (v : α) :
    tget d (tput d m k v) u = if u = k then v else tget d m u := by
  by_cases h : u = k
  · simp [h]
  · simp [h, tget_tput_other]

/-! ## The canonical form -/

theorem twf_mono {α : Type} [DecidableEq α] (d : α) (m : FMap α) (a b : Nat) (h : b ≤ a) (w : twf d a m = true) :
    twf d b m = true := by
  cases m with
  | nil => rfl
  | cons e m =>
    obtain ⟨j, v⟩ := e
    simp only [twf, Bool.and_eq_true, decide_eq_true_eq] at w ⊢
    exact ⟨⟨Nat.le_trans h w.1.1, w.1.2⟩, w.2⟩

theorem twf_tins {α : Type} [DecidableEq α] (d : α) (m : FMap α) (lo k : Nat) (v : α) (hk : lo ≤ k) (hv : v ≠ d)
    (w : twf d lo m = true) : twf d lo (tins m k v) = true := by
  induction m generalizing lo with
  | nil => simp [tins, twf, hk, hv]
  | cons e m ih =>
    obtain ⟨j, x⟩ := e
    simp only [twf, Bool.and_eq_true, decide_eq_true_eq] at w
    simp only [tins]
    split
    · rename_i h
      simp only [twf, Bool.and_eq_true, decide_eq_true_eq]
      exact ⟨⟨hk, hv⟩, ⟨⟨h, w.1.2⟩, w.2⟩⟩
    · split
      · rename_i h; subst h
        simp only [twf, Bool.and_eq_true, decide_eq_true_eq]
        exact ⟨⟨hk, hv⟩, w.2⟩
      · rename_i h1 h2
        simp only [twf, Bool.and_eq_true, decide_eq_true_eq]
        exact ⟨⟨w.1.1, w.1.2⟩, ih (j + 1) (by omega) w.2⟩

theorem twf_filter {α : Type} [DecidableEq α] (d : α) (p : Nat × α → Bool) (m : FMap α) (lo : Nat)
    (w : twf d lo m = true) : twf d lo (m.filter p) = true := by
  induction m generalizing lo with
  | nil => rfl
  | cons e m ih =>
    obtain ⟨j, x⟩ := e
    simp only [twf, Bool.and_eq_true, decide_eq_true_eq] at w
    by_cases h : p (j, x) = true
    · simp only [List.filter_cons, h, if_true, twf, Bool.and_eq_true, decide_eq_true_eq]
      exact ⟨⟨w.1.1, w.1.2⟩, ih _ w.2⟩
    · simp only [List.filter_cons, h]
      exact ih lo (twf_mono d m (j + 1) lo (by omega) w.2)

/-- Setting an entry keeps the canonical form. -/
theorem twf_tput {α : Type} [DecidableEq α] (d : α) (m : FMap α) (k : Nat) (v : α) (w : twf d 0 m = true) :
    twf d 0 (tput d m k v) = true := by
  unfold tput
  split
  · exact twf_filter d _ m 0 w
  · rename_i h; exact twf_tins d m 0 k v (Nat.zero_le _) h w

/-- Writing bytes keeps the canonical form of a memory. -/
theorem Memory.wf_write (d : Byte) (m : List Host.Cell) (a : Nat) (bs : List Byte) (w : Memory.wf d m = true) :
    Memory.wf d (memWrite d m a bs) = true := by
  induction bs generalizing m a with
  | nil => exact w
  | cons b bs ih => exact ih _ _ (twf_tput d m a b w)

/-- Clearing bytes keeps the canonical form of a memory. -/
theorem Memory.wf_clear (d : Byte) (m : List Host.Cell) (a n : Nat) (w : Memory.wf d m = true) :
    Memory.wf d (memClear d m a n) = true := Memory.wf_write d m a _ w

/-- A write leaves every byte outside it alone. -/
theorem tget_memWrite_other (d : Byte) (m : List Host.Cell) (a u : Nat) (bs : List Byte)
    (h : u < a ∨ a + bs.length ≤ u) : tget d (memWrite d m a bs) u = tget d m u := by
  induction bs generalizing m a with
  | nil => rfl
  | cons b bs ih =>
    simp only [List.length_cons] at h
    rw [memWrite, ih _ _ (by omega), tget_tput_other _ _ _ _ _ (by omega)]

/-- A byte read after a write of the bytes it lies in is the byte written. -/
theorem tget_memWrite_in (d : Byte) (m : List Host.Cell) (a i : Nat) (bs : List Byte) (h : i < bs.length) :
    tget d (memWrite d m a bs) (a + i) = bs.getD i d := by
  induction bs generalizing m a i with
  | nil => simp at h
  | cons b bs ih =>
    cases i with
    | zero => rw [memWrite, Nat.add_zero, tget_memWrite_other _ _ _ _ _ (by omega)]; simp
    | succ i =>
      rw [memWrite, show a + (i + 1) = a + 1 + i by omega, ih _ _ _ (by simpa using h)]; simp

end Sys2Proof.Machine
end

