-- ==== Sys2Proof/Laws/Good.lean ====
section
/-!
SUPPORT. What every operation and command of the model keeps: the grade, the queue of commands, the bound of the recorder's
queue, the canonical form of the byte memories, and what only a cold start or a start changes. One lemma per operation, in
the files that follow.
-/

namespace Sys2Proof.Laws

open Sys2Proof.Machine

/-- What every command keeps, against an earlier state. -/
structure Base (b s : State) : Prop where
  grade : s.grade = b.grade
  pending : s.pending = b.pending
  queue : s.evr.queue.length ≤ 64
  dram : Memory.wf 0#8 s.dram.mem = true
  host : Memory.wf 0#8 s.ring.hostMem = true
  flash : Memory.wf 0xFF#8 s.evr.flash = true

/-- What every operation keeps but a cold start and an internal reset release. -/
structure Good (b s : State) : Prop extends Base b s where
  therm : s.aon.thermShdnN = true → b.aon.thermShdnN = true
  osc : s.aon.oscRunning = true → b.aon.oscRunning = true
  starts : s.evr.starts = b.evr.starts

/-- The outcome of a command keeps it. -/
def GoodR (b : State) (r : Host.Outcome State Fault Refusal) : Prop := ∀ t, r = .next t → Good b t

/-- The result of an instruction's effect keeps it. -/
def GoodTc (b : State) : TcRes → Prop
  | .ok s _ => Good b s
  | .done s => Good b s
  | .exc s _ => Good b s
  | .stall s _ => Good b s

theorem good_cut {A B : Prop} (a : A) (b : A → B) : B := b a

variable {b0 : State}

theorem good_next {s : State} (h : Good b0 s) : GoodR b0 (.next s) := fun _ e => by injection e with e; exact e ▸ h

theorem good_of_next {r : Host.Outcome State Fault Refusal} {s : State} (e : r = .next s) (h : GoodR b0 r) :
    Good b0 s := h _ e

/-- A state with the same grade, queues and memories. -/
theorem good_lit {s t : State} (h : Good b0 s) (e1 : t.grade = s.grade) (e2 : t.pending = s.pending)
    (e3 : t.evr.queue = s.evr.queue) (e4 : t.dram.mem = s.dram.mem) (e5 : t.ring.hostMem = s.ring.hostMem)
    (e6 : t.evr.flash = s.evr.flash) (e7 : t.aon.thermShdnN = s.aon.thermShdnN)
    (e8 : t.aon.oscRunning = s.aon.oscRunning) (e9 : t.evr.starts = s.evr.starts) : Good b0 t :=
  ⟨⟨e1 ▸ h.1.1, e2 ▸ h.1.2, e3 ▸ h.1.3, e4 ▸ h.1.4, e5 ▸ h.1.5, e6 ▸ h.1.6⟩, e7 ▸ h.2, e8 ▸ h.3, e9 ▸ h.4⟩

/-- A record update of a state that leaves those fields. -/
theorem good_mk {s : State} {pending : List Instr} {grade : Grade} {dev : Nat} {free : Nat} {seen : Seen} {tiles : FMap Tile} {flight : List Msg} {pathBar0 : Path} {pathBar2 : Path} {pathSpi : Path} {aon : Aon} {sys : Sys} {rdy : Rdy} {img : Img} {prd : Prd} {pen : Pen} {sch : Sch} {tb : Tb} {strm : Strm} {dram : Dram} {hdma : Hdma} {ring : RingBlk} {pcie : Pcie} {saf : Saf} {evr : Evr} {crs : Crs} {out : Out} {hoist : Hoist}
    (e1 : grade = s.grade) (e2 : pending = s.pending) (e3 : evr.queue = s.evr.queue) (e4 : dram.mem = s.dram.mem)
    (e5 : ring.hostMem = s.ring.hostMem) (e6 : evr.flash = s.evr.flash) (e7 : aon.thermShdnN = s.aon.thermShdnN)
    (e8 : aon.oscRunning = s.aon.oscRunning) (e9 : evr.starts = s.evr.starts) (h : Good b0 s) :
    Good b0 (State.mk pending grade dev free seen tiles flight pathBar0 pathBar2 pathSpi aon sys rdy img prd pen sch tb strm dram hdma ring pcie saf evr crs out hoist) := good_lit h e1 e2 e3 e4 e5 e6 e7 e8 e9

theorem good_snd {α : Type} {x : α × State} {a : α} {t : State} (e : x = (a, t)) (h : Good b0 x.2) : Good b0 t := by
  subst e; exact h

theorem good_fst {α : Type} {x : State × α} {a : α} {t : State} (e : x = (t, a)) (h : Good b0 x.1) : Good b0 t := by
  subst e; exact h

theorem good_foldl {α : Type} {f : State → α → State} (hf : ∀ s x, Good b0 s → Good b0 (f s x)) :
    ∀ (l : List α) {s : State}, Good b0 s → Good b0 (l.foldl f s)
  | [], _, h => h
  | _ :: l, _, h => good_foldl hf l (hf _ _ h)

theorem good_foldl1 {α β : Type} {f : State × β → α → State × β} (hf : ∀ x k, Good b0 x.1 → Good b0 (f x k).1) :
    ∀ (l : List α) {x : State × β}, Good b0 x.1 → Good b0 (l.foldl f x).1
  | [], _, h => h
  | _ :: l, _, h => good_foldl1 hf l (hf _ _ h)

/-- Bytes written to DRAM. -/
theorem good_dram {s t : State} (h : Good b0 s) (w : Memory.wf 0#8 t.dram.mem = true) (e1 : t.grade = s.grade)
    (e2 : t.pending = s.pending) (e3 : t.ring.hostMem = s.ring.hostMem) (e4 : t.evr = s.evr) (e5 : t.aon = s.aon) :
    Good b0 t :=
  ⟨⟨e1 ▸ h.1.1, e2 ▸ h.1.2, e4 ▸ h.1.3, w, e3 ▸ h.1.5, e4 ▸ h.1.6⟩, e5 ▸ h.2, e5 ▸ h.3, e4 ▸ h.4⟩

/-- Bytes written to host memory. -/
theorem good_host {s t : State} (h : Good b0 s) (w : Memory.wf 0#8 t.ring.hostMem = true) (e1 : t.grade = s.grade)
    (e2 : t.pending = s.pending) (e3 : t.dram.mem = s.dram.mem) (e4 : t.evr = s.evr) (e5 : t.aon = s.aon) : Good b0 t :=
  ⟨⟨e1 ▸ h.1.1, e2 ▸ h.1.2, e4 ▸ h.1.3, e3 ▸ h.1.4, w, e4 ▸ h.1.6⟩, e5 ▸ h.2, e5 ▸ h.3, e4 ▸ h.4⟩

theorem wf_ite_write {d : Byte} {c : Prop} [Decidable c] {m : List Host.Cell} {a : Nat} {bs : List Byte}
    (w : Memory.wf d m = true) : Memory.wf d (if c then m else memWrite d m a bs) = true := by
  split
  · exact w
  · exact Memory.wf_write _ _ _ _ w

theorem goodTc_ok {s : State} {pc : Option Half} (h : Good b0 s) : GoodTc b0 (.ok s pc) := h
theorem goodTc_done {s : State} (h : Good b0 s) : GoodTc b0 (.done s) := h
theorem goodTc_exc {s : State} {k : Nat} (h : Good b0 s) : GoodTc b0 (.exc s k) := h
theorem goodTc_stall {s : State} {k : Nat} (h : Good b0 s) : GoodTc b0 (.stall s k) := h

theorem good_of_ok {r : TcRes} {s : State} {pc : Option Half} (e : r = .ok s pc) (h : GoodTc b0 r) : Good b0 s := by
  subst e; exact h
theorem good_of_done {r : TcRes} {s : State} (e : r = .done s) (h : GoodTc b0 r) : Good b0 s := by subst e; exact h
theorem good_of_exc {r : TcRes} {s : State} {k : Nat} (e : r = .exc s k) (h : GoodTc b0 r) : Good b0 s := by
  subst e; exact h
theorem good_of_stall {r : TcRes} {s : State} {k : Nat} (e : r = .stall s k) (h : GoodTc b0 r) : Good b0 s := by
  subst e; exact h

theorem good_ite {c : Prop} [Decidable c] {a b : State} (h1 : c → Good b0 a) (h2 : ¬c → Good b0 b) :
    Good b0 (if c then a else b) := by split <;> simp_all

theorem goodR_ite {c : Prop} [Decidable c] {a b : Host.Outcome State Fault Refusal} (h1 : c → GoodR b0 a)
    (h2 : ¬c → GoodR b0 b) : GoodR b0 (if c then a else b) := by split <;> simp_all

theorem goodTc_ite {c : Prop} [Decidable c] {a b : TcRes} (h1 : c → GoodTc b0 a) (h2 : ¬c → GoodTc b0 b) :
    GoodTc b0 (if c then a else b) := by split <;> simp_all

theorem good_ite1 {α : Type} {c : Prop} [Decidable c] {a b : State × α} (h1 : c → Good b0 a.1) (h2 : ¬c → Good b0 b.1) :
    Good b0 (if c then a else b).1 := by split <;> simp_all

theorem good_ite2 {α : Type} {c : Prop} [Decidable c] {a b : α × State} (h1 : c → Good b0 a.2) (h2 : ¬c → Good b0 b.2) :
    Good b0 (if c then a else b).2 := by split <;> simp_all

/-- A task of the loader keeps it. -/
def GoodO (b : State) (o : Option (State × Bool)) : Prop := ∀ t k, o = some (t, k) → Good b t

theorem goodO_some {t : State} {k : Bool} (h : Good b0 t) : GoodO b0 (some (t, k)) := by
  intro t' k' e
  injection e with e
  injection e with e1 _
  exact e1 ▸ h

theorem goodO_none : GoodO b0 none := fun _ _ e => by cases e

theorem goodO_ite {c : Prop} [Decidable c] {a b : Option (State × Bool)} (h1 : c → GoodO b0 a) (h2 : ¬c → GoodO b0 b) :
    GoodO b0 (if c then a else b) := by split <;> simp_all

end Sys2Proof.Laws
end

