-- ==== Sys2Proof/Laws/GoodOps.lean ====
section
/-! SUPPORT. What every operation and command of Machine/Ops.lean keeps, one lemma each. -/

set_option linter.all false

namespace Sys2Proof.Laws

open Sys2Proof.Machine

variable {b0 : State}

theorem good_setDev {s : State} {d : Nat} 
    (hG : Good b0 s) : Good b0 (State.setDev s d) := by
  have hF := hG
  unfold State.setDev
  iterate 40 all_goals try first
    | with_reducible apply hF
    | split
    | with_reducible refine good_mk rfl rfl rfl rfl rfl rfl rfl rfl rfl ?_

theorem good_advanceTo {s : State} {t : Nat} 
    (hG : Good b0 s) : Good b0 (State.advanceTo s t) := by
  have hF := hG
  unfold State.advanceTo
  iterate 40 all_goals try first
    | with_reducible apply good_setDev
    | with_reducible apply hF

theorem good_tick {s : State} 
    (hG : Good b0 s) : Good b0 (State.tick s) := by
  have hF := hG
  unfold State.tick
  iterate 40 all_goals try first
    | with_reducible apply good_setDev
    | with_reducible apply hF

theorem good_logEv {s : State} {code src arg : Nat} {inj : Bool} (h : Good b0 s) :
    Good b0 (s.logEv code src arg inj) := by
  unfold State.logEv
  split
  · exact ⟨⟨h.1.1, h.1.2, by simp; omega, h.1.4, h.1.5, h.1.6⟩, h.2, h.3, h.4⟩
  · exact good_lit h rfl rfl rfl rfl rfl rfl rfl rfl rfl

theorem good_setTile {s : State} {t : Nat} {x : Tile} 
    (hG : Good b0 s) : Good b0 (State.setTile s t x) := by
  have hF := hG
  unfold State.setTile
  iterate 40 all_goals try first
    | with_reducible apply hF
    | with_reducible refine good_mk rfl rfl rfl rfl rfl rfl rfl rfl rfl ?_

theorem good_modTile {s : State} {t : Nat} {f : Tile → Tile} 
    (hG : Good b0 s) : Good b0 (State.modTile s t f) := by
  have hF := hG
  unfold State.modTile
  iterate 40 all_goals try first
    | with_reducible apply good_setTile
    | with_reducible apply hF

theorem good_modTc {s : State} {t : Nat} {f : Tc → Tc} 
    (hG : Good b0 s) : Good b0 (State.modTc s t f) := by
  have hF := hG
  unfold State.modTc
  iterate 40 all_goals try first
    | with_reducible apply good_modTile
    | with_reducible apply hF

theorem good_modSpm {s : State} {t : Nat} {f : Spm → Spm} 
    (hG : Good b0 s) : Good b0 (State.modSpm s t f) := by
  have hF := hG
  unfold State.modSpm
  iterate 40 all_goals try first
    | with_reducible apply good_modTile
    | with_reducible apply hF

theorem good_modArr {s : State} {t : Nat} {f : Arr → Arr} 
    (hG : Good b0 s) : Good b0 (State.modArr s t f) := by
  have hF := hG
  unfold State.modArr
  iterate 40 all_goals try first
    | with_reducible apply good_modTile
    | with_reducible apply hF

theorem good_modBow {s : State} {t : Nat} {f : Bow → Bow} 
    (hG : Good b0 s) : Good b0 (State.modBow s t f) := by
  have hF := hG
  unfold State.modBow
  iterate 40 all_goals try first
    | with_reducible apply good_modTile
    | with_reducible apply hF

theorem good_report {s : State} {bit src cause : Nat} {inj : Bool} 
    (hG : Good b0 s) : Good b0 (State.report s bit src cause inj) := by
  have hF := hG
  unfold State.report
  iterate 40 all_goals try first
    | with_reducible apply good_logEv
    | with_reducible apply hF
    | split
    | with_reducible refine good_mk rfl rfl rfl rfl rfl rfl rfl rfl rfl ?_

theorem good_endInj {s : State} {st : InjSt} 
    (hG : Good b0 s) : Good b0 (State.endInj s st) := by
  have hF := hG
  unfold State.endInj
  iterate 40 all_goals try first
    | with_reducible apply good_logEv
    | with_reducible apply hF
    | with_reducible refine good_mk rfl rfl rfl rfl rfl rfl rfl rfl rfl ?_

theorem good_applyInj {s : State} 
    (hG : Good b0 s) : Good b0 (State.applyInj s) := by
  have hF := hG
  unfold State.applyInj
  iterate 40 all_goals try first
    | with_reducible apply hF
    | with_reducible refine good_mk rfl rfl rfl rfl rfl rfl rfl rfl rfl ?_

theorem good_reportEccCorr {s : State} 
    (hG : Good b0 s) : Good b0 (State.reportEccCorr s) := by
  have hF := hG
  unfold State.reportEccCorr
  iterate 40 all_goals try first
    | with_reducible apply good_report
    | with_reducible apply hF

theorem good_noteFailure {s : State} {t cause : Nat}
    (hG : Good b0 s) : Good b0 (State.noteFailure s t cause) := by
  have hF := hG
  unfold State.noteFailure
  iterate 40 all_goals try first
    | with_reducible apply good_modTile
    | (with_reducible apply good_foldl; intro xA yA hX)
    | (with_reducible apply good_foldl1; intro xA yA hX)
    | (with_reducible apply good_ite <;> intro hC)
    | with_reducible apply hF
    | with_reducible assumption
    | split
    | (intro xA yA zA hX; with_reducible have hY : Good b0 xA := hX)
    | (intro xA yA hX; with_reducible have hY : Good b0 xA := hX)
    | (intro xA hX; with_reducible have hY : Good b0 xA := hX)
    | with_reducible refine good_mk rfl rfl rfl rfl rfl rfl rfl rfl rfl ?_

theorem good_exclude {s : State} {t cause : Nat}
    (hG : Good b0 s) : Good b0 (State.exclude s t cause) := by
  have hF := hG
  unfold State.exclude
  iterate 40 all_goals try first
    | with_reducible apply good_noteFailure
    | with_reducible apply good_modTile
    | (with_reducible apply good_foldl; intro xA yA hX)
    | (with_reducible apply good_foldl1; intro xA yA hX)
    | (with_reducible apply good_ite <;> intro hC)
    | with_reducible apply hF
    | with_reducible assumption
    | split
    | (intro xA yA zA hX; with_reducible have hY : Good b0 xA := hX)
    | (intro xA yA hX; with_reducible have hY : Good b0 xA := hX)
    | (intro xA hX; with_reducible have hY : Good b0 xA := hX)
    | with_reducible refine good_mk rfl rfl rfl rfl rfl rfl rfl rfl rfl ?_

theorem good_serdesLevel {s : State}
    (hG : Good b0 s) : Good b0 (State.serdesLevel s) := by
  have hF := hG
  unfold State.serdesLevel
  with_reducible refine good_mk rfl rfl rfl rfl rfl rfl rfl rfl rfl ?_
  exact hF

theorem good_setRing {s : State} {k : Nat} {r : Ring} 
    (hG : Good b0 s) : Good b0 (State.setRing s k r) := by
  have hF := hG
  unfold State.setRing
  iterate 40 all_goals try first
    | with_reducible apply hF
    | with_reducible refine good_mk rfl rfl rfl rfl rfl rfl rfl rfl rfl ?_

theorem good_modRing {s : State} {k : Nat} {f : Ring → Ring} 
    (hG : Good b0 s) : Good b0 (State.modRing s k f) := by
  have hF := hG
  unfold State.modRing
  iterate 40 all_goals try first
    | with_reducible apply good_setRing
    | with_reducible apply hF

theorem good_modLink {s : State} {k : Nat} {f : Link → Link} 
    (hG : Good b0 s) : Good b0 (State.modLink s k f) := by
  have hF := hG
  unfold State.modLink
  iterate 40 all_goals try first
    | with_reducible apply hF
    | with_reducible refine good_mk rfl rfl rfl rfl rfl rfl rfl rfl rfl ?_

theorem good_modStream {s : State} {k : Nat} {f : StreamRt → StreamRt} 
    (hG : Good b0 s) : Good b0 (State.modStream s k f) := by
  have hF := hG
  unfold State.modStream
  iterate 40 all_goals try first
    | with_reducible apply hF
    | with_reducible refine good_mk rfl rfl rfl rfl rfl rfl rfl rfl rfl ?_

theorem good_modFrame {s : State} {k : Nat} {f : Frame → Frame} 
    (hG : Good b0 s) : Good b0 (State.modFrame s k f) := by
  have hF := hG
  unfold State.modFrame
  iterate 40 all_goals try first
    | with_reducible apply hF
    | with_reducible refine good_mk rfl rfl rfl rfl rfl rfl rfl rfl rfl ?_

theorem good_modInst {s : State} {id : Nat} {f : Inst → Inst} 
    (hG : Good b0 s) : Good b0 (State.modInst s id f) := by
  have hF := hG
  unfold State.modInst
  iterate 40 all_goals try first
    | with_reducible apply hF
    | with_reducible refine good_mk rfl rfl rfl rfl rfl rfl rfl rfl rfl ?_

theorem good_takeFree {s : State} 
    (hG : Good b0 s) : Good b0 (State.takeFree s).2 := by
  have hF := hG
  unfold State.takeFree
  iterate 40 all_goals try first
    | with_reducible apply hF
    | with_reducible refine good_mk rfl rfl rfl rfl rfl rfl rfl rfl rfl ?_

theorem good_moveBusy {s : State} {n : Nat}
    (hG : Good b0 s) : Good b0 (State.moveBusy s n) := by
  have hF := hG
  unfold State.moveBusy
  iterate 40 all_goals try first
    | with_reducible apply good_dataBusy
    | (with_reducible apply good_foldl; intro xA yA hX)
    | (with_reducible apply good_foldl1; intro xA yA hX)
    | (with_reducible apply good_ite <;> intro hC)
    | with_reducible apply hF
    | with_reducible assumption
    | split
    | (intro xA yA zA hX; with_reducible have hY : Good b0 xA := hX)
    | (intro xA yA hX; with_reducible have hY : Good b0 xA := hX)
    | (intro xA hX; with_reducible have hY : Good b0 xA := hX)
    | with_reducible refine good_mk rfl rfl rfl rfl rfl rfl rfl rfl rfl ?_

theorem wf_foldl_keep {α : Type} {d : Byte} {f : List Host.Cell → α → List Host.Cell}
    (hf : ∀ m x, Memory.wf d m = true → Memory.wf d (f m x) = true) :
    ∀ (l : List α) {m : List Host.Cell}, Memory.wf d m = true → Memory.wf d (l.foldl f m) = true
  | [], _, h => h
  | _ :: l, _, h => wf_foldl_keep hf l (hf _ _ h)

theorem good_dramPut {s : State} {a : Nat} {bs : List Byte} (h : Good b0 s) : Good b0 (State.dramPut s a bs) := by
  unfold State.dramPut
  split
  · refine good_dram h (wf_foldl_keep (fun m x w => ?_) _ h.1.4) rfl rfl rfl rfl rfl
    split
    · exact w
    · exact twf_tput _ _ _ _ w
  · exact good_moveBusy (good_dram h (Memory.wf_write _ _ _ _ h.1.4) rfl rfl rfl rfl rfl)

end Sys2Proof.Laws
end

