-- ==== Sys2Proof/Laws/GoodLink.lean ====
section
/-! SUPPORT. What every operation and command of Machine/Link.lean keeps, one lemma each. -/

set_option linter.all false

namespace Sys2Proof.Laws

open Sys2Proof.Machine

variable {b0 : State}

theorem good_idleFlits {s : State} {before : Nat}
    (hG : Good b0 s) : Good b0 (State.idleFlits s before) := by
  have hF := hG
  unfold State.idleFlits
  iterate 40 all_goals try first
    | with_reducible apply good_modLink
    | (with_reducible apply good_foldl; intro xA yA hX)
    | (with_reducible apply good_foldl1; intro xA yA hX)
    | (with_reducible apply good_ite <;> intro hC)
    | with_reducible apply hF
    | with_reducible assumption
    | split
    | (intro xA yA zA hX; with_reducible have hY : Good b0 xA := hX)
    | (intro xA yA hX; with_reducible have hY : Good b0 xA := hX)
    | (intro xA hX; with_reducible have hY : Good b0 xA := hX)
    | with_reducible refine good_mk rfl rfl rfl rfl rfl rfl rfl rfl rfl ?_

theorem good_pumpLink {s : State} {k : Nat} 
    (hG : Good b0 s) : Good b0 (State.pumpLink s k) := by
  have hF := hG
  unfold State.pumpLink
  iterate 40 all_goals try first
    | with_reducible apply good_modLink
    | with_reducible apply hF

theorem good_sendFlit {s : State} {k typ : Nat} {payload : List Byte} 
    (hG : Good b0 s) : Good b0 (State.sendFlit s k typ payload) := by
  have hF := hG
  unfold State.sendFlit
  iterate 40 all_goals try first
    | with_reducible apply good_modLink
    | with_reducible apply good_pumpLink
    | with_reducible apply hF
    | split

theorem good_sendEnd {s : State} {i : Inst} {status : Nat} 
    (hG : Good b0 s) : Good b0 (State.sendEnd s i status) := by
  have hF := hG
  unfold State.sendEnd
  iterate 40 all_goals try first
    | with_reducible apply good_sendFlit
    | with_reducible apply hF
    | split

theorem good_sendDigest {s : State} {i : Inst} {layer : Nat} {d : DWord} 
    (hG : Good b0 s) : Good b0 (State.sendDigest s i layer d) := by
  have hF := hG
  unfold State.sendDigest
  iterate 40 all_goals try first
    | with_reducible apply good_sendFlit
    | with_reducible apply hF
    | split

end Sys2Proof.Laws
end

