-- ==== Sys2Proof/Laws/GoodReady.lean ====
section
/-! SUPPORT. What every operation and command of Machine/Ready.lean keeps, one lemma each. -/

set_option linter.all false

namespace Sys2Proof.Laws

open Sys2Proof.Machine

variable {b0 : State}

theorem good_setRdy {s : State} {i : Nat} 
    (hG : Good b0 s) : Good b0 (State.setRdy s i) := by
  have hF := hG
  unfold State.setRdy
  iterate 40 all_goals try first
    | with_reducible apply hF
    | split
    | with_reducible refine good_mk rfl rfl rfl rfl rfl rfl rfl rfl rfl ?_

theorem good_clrRdy {s : State} {i : Nat} 
    (hG : Good b0 s) : Good b0 (State.clrRdy s i) := by
  have hF := hG
  unfold State.clrRdy
  iterate 40 all_goals try first
    | with_reducible apply hF
    | split
    | with_reducible refine good_mk rfl rfl rfl rfl rfl rfl rfl rfl rfl ?_

theorem good_failRdy {s : State} {i : Nat} 
    (hG : Good b0 s) : Good b0 (State.failRdy s i) := by
  have hF := hG
  unfold State.failRdy
  iterate 40 all_goals try first
    | with_reducible apply hF
    | with_reducible refine good_mk rfl rfl rfl rfl rfl rfl rfl rfl rfl ?_

theorem good_setPort {s : State} {i : Nat} 
    (hG : Good b0 s) : Good b0 (State.setPort s i) := by
  have hF := hG
  unfold State.setPort
  iterate 40 all_goals try first
    | with_reducible apply hF
    | split
    | with_reducible refine good_mk rfl rfl rfl rfl rfl rfl rfl rfl rfl ?_

theorem good_clrPort {s : State} {i : Nat} 
    (hG : Good b0 s) : Good b0 (State.clrPort s i) := by
  have hF := hG
  unfold State.clrPort
  iterate 40 all_goals try first
    | with_reducible apply hF
    | split
    | with_reducible refine good_mk rfl rfl rfl rfl rfl rfl rfl rfl rfl ?_

theorem good_failPort {s : State} {i : Nat} 
    (hG : Good b0 s) : Good b0 (State.failPort s i) := by
  have hF := hG
  unfold State.failPort
  iterate 40 all_goals try first
    | with_reducible apply hF
    | with_reducible refine good_mk rfl rfl rfl rfl rfl rfl rfl rfl rfl ?_

theorem good_putStream {s : State} {k : Nat} {on : Bool} 
    (hG : Good b0 s) : Good b0 (State.putStream s k on) := by
  have hF := hG
  unfold State.putStream
  iterate 40 all_goals try first
    | with_reducible apply good_modStream
    | with_reducible apply hF
    | split
    | with_reducible refine good_mk rfl rfl rfl rfl rfl rfl rfl rfl rfl ?_

theorem good_refreshStreams {s : State} 
    (hG : Good b0 s) : Good b0 (State.refreshStreams s) := by
  have hX := hG
  unfold State.refreshStreams
  iterate 40 all_goals try first
    | with_reducible assumption
    | with_reducible apply good_putStream
    | (with_reducible apply good_foldl; intro xA yA hX)

theorem good_sendStart {s : State} {k : Nat} 
    (hG : Good b0 s) : Good b0 (State.sendStart s k) := by
  have hF := hG
  unfold State.sendStart
  iterate 40 all_goals try first
    | with_reducible apply good_modLink
    | with_reducible apply good_sendFlit
    | with_reducible apply hF
    | split

theorem good_endStartWait {s : State} 
    (hG : Good b0 s) : Good b0 (State.endStartWait s) := by
  have hF := hG
  unfold State.endStartWait
  iterate 40 all_goals try first
    | with_reducible apply hF
    | with_reducible refine good_mk rfl rfl rfl rfl rfl rfl rfl rfl rfl ?_

theorem good_coordinate {s : State} 
    (hG : Good b0 s) : Good b0 (State.coordinate s) := by
  have hX := hG
  unfold State.coordinate
  iterate 40 all_goals try first
    | with_reducible assumption
    | with_reducible apply good_sendStart
    | with_reducible apply good_endStartWait
    | (with_reducible apply good_foldl; intro xA yA hX)
    | split
    | with_reducible refine good_mk rfl rfl rfl rfl rfl rfl rfl rfl rfl ?_

theorem good_fixFirst {s : State} 
    (hG : Good b0 s) : Good b0 (State.fixFirst s) := by
  have hF := hG
  unfold State.fixFirst
  iterate 40 all_goals try first
    | with_reducible apply good_coordinate
    | with_reducible apply hF
    | with_reducible refine good_mk rfl rfl rfl rfl rfl rfl rfl rfl rfl ?_

theorem good_tryStart {s : State} 
    (hG : Good b0 s) : Good b0 (State.tryStart s) := by
  have hF := hG
  unfold State.tryStart
  iterate 40 all_goals try first
    | with_reducible apply good_fixFirst
    | with_reducible apply hF
    | split
    | with_reducible refine good_mk rfl rfl rfl rfl rfl rfl rfl rfl rfl ?_

theorem good_execLockWaitExpiry {s : State} 
    (hG : Good b0 s) : GoodR b0 (execLockWaitExpiry s) := by
  have hF := hG
  unfold execLockWaitExpiry
  iterate 40 all_goals try first
    | with_reducible apply good_advanceTo
    | with_reducible apply good_fixFirst
    | with_reducible apply good_next
    | with_reducible apply hF
    | split
    | with_reducible refine good_mk rfl rfl rfl rfl rfl rfl rfl rfl rfl ?_

theorem good_execStartWaitTimeout {t : Nat} {s : State} 
    (hG : Good b0 s) : GoodR b0 (execStartWaitTimeout t s) := by
  have hF := hG
  unfold execStartWaitTimeout
  iterate 40 all_goals try first
    | with_reducible apply good_advanceTo
    | with_reducible apply good_next
    | with_reducible apply hF
    | split
    | with_reducible refine good_mk rfl rfl rfl rfl rfl rfl rfl rfl rfl ?_

end Sys2Proof.Laws
end

