-- ==== Sys2Proof/Laws/GoodEvr.lean ====
section
/-! SUPPORT. What every operation and command of Machine/Evr.lean keeps, one lemma each. -/

set_option linter.all false

namespace Sys2Proof.Laws

open Sys2Proof.Machine

variable {b0 : State}

theorem good_storeEntry {s : State} {e : EvrEntry} 
    (hG : Good b0 s) : Good b0 (State.storeEntry s e) := by
  have hX := hG
  have hF := hG
  unfold State.storeEntry
  iterate 40 all_goals try first
    | with_reducible assumption
    | (extract_lets +onlyGivenNames xG; refine good_cut (A := Good b0 xG) ?_ ?_; all_goals first | (intro hX; clear_value xG) | (unfold xG; clear xG))
    | (extract_lets +onlyGivenNames xG; refine good_cut (A := ∀ y, Good b0 y → Good b0 (xG y)) ?gp ?gk; (case' gk => (intro hF; clear_value xG)); (case' gp => (unfold xG; clear xG; intro yA hX)))
    | (extract_lets +onlyGivenNames xG; refine good_cut (A := Good b0 (Prod.fst xG)) ?gp ?gk; (case' gk => (intro hX; clear_value xG)); (case' gp => (unfold xG; clear xG)))
    | (extract_lets +onlyGivenNames xG; refine good_cut (A := Good b0 (Prod.snd xG)) ?gp ?gk; (case' gk => (intro hX; clear_value xG)); (case' gp => (unfold xG; clear xG)))
    | extract_lets +onlyGivenNames xG
    | with_reducible apply good_next
    | (refine good_lit hX ?_ ?_ ?_ ?_ ?_ ?_ ?_ ?_ ?_ <;> with_reducible rfl)
    | (refine good_lit hG ?_ ?_ ?_ ?_ ?_ ?_ ?_ ?_ ?_ <;> with_reducible rfl)
    | (with_reducible apply good_ite <;> intro hC)
    | with_reducible apply hF
    | split
    | (clear_value *; split)
    | (intro xA yA zA hX; with_reducible have hY : Good b0 xA := hX)
    | (intro xA yA hX; with_reducible have hY : Good b0 xA := hX)
    | (intro xA hX; with_reducible have hY : Good b0 xA := hX)
    | with_reducible refine good_mk rfl rfl rfl rfl rfl rfl rfl rfl rfl ?_

theorem good_writeEntry {s : State} {e : EvrEntry} 
    (hG : Good b0 s) : Good b0 (State.writeEntry s e) := by
  have hX := hG
  have hF := hG
  unfold State.writeEntry
  iterate 40 all_goals try first
    | with_reducible assumption
    | (extract_lets +onlyGivenNames xG; refine good_cut (A := Good b0 xG) ?_ ?_; all_goals first | (intro hX; clear_value xG) | (unfold xG; clear xG))
    | (extract_lets +onlyGivenNames xG; refine good_cut (A := ∀ y, Good b0 y → Good b0 (xG y)) ?gp ?gk; (case' gk => (intro hF; clear_value xG)); (case' gp => (unfold xG; clear xG; intro yA hX)))
    | (extract_lets +onlyGivenNames xG; refine good_cut (A := Good b0 (Prod.fst xG)) ?gp ?gk; (case' gk => (intro hX; clear_value xG)); (case' gp => (unfold xG; clear xG)))
    | (extract_lets +onlyGivenNames xG; refine good_cut (A := Good b0 (Prod.snd xG)) ?gp ?gk; (case' gk => (intro hX; clear_value xG)); (case' gp => (unfold xG; clear xG)))
    | extract_lets +onlyGivenNames xG
    | with_reducible apply good_storeEntry
    | with_reducible apply good_next
    | (refine good_lit hX ?_ ?_ ?_ ?_ ?_ ?_ ?_ ?_ ?_ <;> with_reducible rfl)
    | (refine good_lit hG ?_ ?_ ?_ ?_ ?_ ?_ ?_ ?_ ?_ <;> with_reducible rfl)
    | (with_reducible apply good_ite <;> intro hC)
    | with_reducible apply hF
    | split
    | (clear_value *; split)
    | (intro xA yA zA hX; with_reducible have hY : Good b0 xA := hX)
    | (intro xA yA hX; with_reducible have hY : Good b0 xA := hX)
    | (intro xA hX; with_reducible have hY : Good b0 xA := hX)
    | with_reducible refine good_mk rfl rfl rfl rfl rfl rfl rfl rfl rfl ?_

theorem good_writeHead {s : State} (h : Good b0 s) : Good b0 s.writeHead := by
  unfold State.writeHead
  split
  · exact h
  · rename_i e rest hq
    have hX : Good b0 ({ s with evr := { s.evr with queue := rest } } : State) :=
      ⟨⟨h.1.1, h.1.2, by have := h.1.3; rw [hq] at this; simp at this ⊢; omega, h.1.4, h.1.5, h.1.6⟩, h.2, h.3, h.4⟩
    have hY := good_writeEntry (e := e) hX
    generalize State.writeEntry _ e = s1 at hY
    extract_lets xG
    split
    · exact hY
    · exact good_logEv (good_lit hY rfl rfl rfl rfl rfl rfl rfl rfl rfl)

theorem good_upsetRing {s : State} {l : List (Nat × Nat)}
    (hG : Good b0 s) : Good b0 (State.upsetRing s l) := by
  have hF := hG
  unfold State.upsetRing
  iterate 40 all_goals try first
    | (with_reducible apply good_foldl; intro xA yA hX)
    | (with_reducible apply good_foldl1; intro xA yA hX)
    | (with_reducible apply good_ite <;> intro hC)
    | with_reducible apply hF
    | with_reducible assumption
    | split
    | (intro xA yA zA hX; with_reducible have hY : Good b0 xA := hX)
    | (intro xA yA hX; with_reducible have hY : Good b0 xA := hX)
    | (intro xA hX; with_reducible have hY : Good b0 xA := hX)
    | with_reducible refine good_mk rfl rfl rfl rfl rfl rfl rfl rfl rfl ?_

theorem good_execEventEntryWrite {upsets : List (Nat × Nat)} {s : State}
    (hG : Good b0 s) : GoodR b0 (execEventEntryWrite s upsets) := by
  have hF := hG
  unfold execEventEntryWrite
  iterate 40 all_goals try first
    | with_reducible apply good_mainReset
    | with_reducible apply good_upsetRing
    | with_reducible apply good_writeHead
    | with_reducible apply good_next
    | (with_reducible apply good_foldl; intro xA yA hX)
    | (with_reducible apply good_foldl1; intro xA yA hX)
    | (with_reducible apply good_ite <;> intro hC)
    | with_reducible apply hF
    | with_reducible assumption
    | split
    | (intro xA yA zA hX; with_reducible have hY : Good b0 xA := hX)
    | (intro xA yA hX; with_reducible have hY : Good b0 xA := hX)
    | (intro xA hX; with_reducible have hY : Good b0 xA := hX)
    | with_reducible refine good_mk rfl rfl rfl rfl rfl rfl rfl rfl rfl ?_

theorem good_drainEvents {s : State} 
    (hG : Good b0 s) : Good b0 (State.drainEvents s) := by
  have hX := hG
  have hF := hG
  unfold State.drainEvents
  iterate 40 all_goals try first
    | with_reducible assumption
    | with_reducible apply good_writeHead
    | with_reducible apply good_next
    | (refine good_lit hX ?_ ?_ ?_ ?_ ?_ ?_ ?_ ?_ ?_ <;> with_reducible rfl)
    | (refine good_lit hG ?_ ?_ ?_ ?_ ?_ ?_ ?_ ?_ ?_ <;> with_reducible rfl)
    | (with_reducible apply good_foldl; intro xA yA hX)
    | (with_reducible apply good_foldl1; intro xA yA hX)
    | (with_reducible apply good_ite <;> intro hC)
    | with_reducible apply hF
    | split
    | (clear_value *; split)
    | (intro xA yA zA hX; with_reducible have hY : Good b0 xA := hX)
    | (intro xA yA hX; with_reducible have hY : Good b0 xA := hX)
    | (intro xA hX; with_reducible have hY : Good b0 xA := hX)
    | with_reducible refine good_mk rfl rfl rfl rfl rfl rfl rfl rfl rfl ?_

theorem good_closeSuppression {s : State} 
    (hG : Good b0 s) : Good b0 (State.closeSuppression s) := by
  have hX := hG
  have hF := hG
  unfold State.closeSuppression
  iterate 40 all_goals try first
    | with_reducible assumption
    | (extract_lets +onlyGivenNames xG; refine good_cut (A := Good b0 xG) ?_ ?_; all_goals first | (intro hX; clear_value xG) | (unfold xG; clear xG))
    | (extract_lets +onlyGivenNames xG; refine good_cut (A := ∀ y, Good b0 y → Good b0 (xG y)) ?gp ?gk; (case' gk => (intro hF; clear_value xG)); (case' gp => (unfold xG; clear xG; intro yA hX)))
    | (extract_lets +onlyGivenNames xG; refine good_cut (A := Good b0 (Prod.fst xG)) ?gp ?gk; (case' gk => (intro hX; clear_value xG)); (case' gp => (unfold xG; clear xG)))
    | (extract_lets +onlyGivenNames xG; refine good_cut (A := Good b0 (Prod.snd xG)) ?gp ?gk; (case' gk => (intro hX; clear_value xG)); (case' gp => (unfold xG; clear xG)))
    | extract_lets +onlyGivenNames xG
    | with_reducible apply good_logEv
    | with_reducible apply good_next
    | (refine good_lit hX ?_ ?_ ?_ ?_ ?_ ?_ ?_ ?_ ?_ <;> with_reducible rfl)
    | (refine good_lit hG ?_ ?_ ?_ ?_ ?_ ?_ ?_ ?_ ?_ <;> with_reducible rfl)
    | (with_reducible apply good_ite <;> intro hC)
    | with_reducible apply hF
    | split
    | (clear_value *; split)
    | (intro xA yA zA hX; with_reducible have hY : Good b0 xA := hX)
    | (intro xA yA hX; with_reducible have hY : Good b0 xA := hX)
    | (intro xA hX; with_reducible have hY : Good b0 xA := hX)
    | with_reducible refine good_mk rfl rfl rfl rfl rfl rfl rfl rfl rfl ?_

theorem good_readEntry {s : State} {i : Nat}
    (hG : Good b0 s) : Good b0 (State.readEntry s i).2 := by
  have hF := hG
  unfold State.readEntry
  iterate 40 all_goals try first
    | with_reducible apply good_reportEccCorr
    | with_reducible apply good_takeFree
    | with_reducible apply good_report
    | (with_reducible apply good_foldl; intro xA yA hX)
    | (with_reducible apply good_foldl1; intro xA yA hX)
    | (with_reducible apply good_ite <;> intro hC)
    | with_reducible apply hF
    | with_reducible assumption
    | split
    | (intro xA yA zA hX; with_reducible have hY : Good b0 xA := hX)
    | (intro xA yA hX; with_reducible have hY : Good b0 xA := hX)
    | (intro xA hX; with_reducible have hY : Good b0 xA := hX)
    | with_reducible refine good_mk rfl rfl rfl rfl rfl rfl rfl rfl rfl ?_

theorem good_program {s : State} {n off : Nat} {bs : List Byte} (h : Good b0 s) : Good b0 (s.program n off bs) :=
  ⟨⟨h.1.1, h.1.2, h.1.3, h.1.4, h.1.5, Memory.wf_write _ _ _ _ h.1.6⟩, h.2, h.3, h.4⟩

theorem good_setEvrSlot {s : State} {n : Nat} {x : EvrSlot} 
    (hG : Good b0 s) : Good b0 (State.setEvrSlot s n x) := by
  have hX := hG
  have hF := hG
  unfold State.setEvrSlot
  iterate 40 all_goals try first
    | with_reducible assumption
    | (extract_lets +onlyGivenNames xG; refine good_cut (A := Good b0 xG) ?_ ?_; all_goals first | (intro hX; clear_value xG) | (unfold xG; clear xG))
    | (extract_lets +onlyGivenNames xG; refine good_cut (A := ∀ y, Good b0 y → Good b0 (xG y)) ?gp ?gk; (case' gk => (intro hF; clear_value xG)); (case' gp => (unfold xG; clear xG; intro yA hX)))
    | (extract_lets +onlyGivenNames xG; refine good_cut (A := Good b0 (Prod.fst xG)) ?gp ?gk; (case' gk => (intro hX; clear_value xG)); (case' gp => (unfold xG; clear xG)))
    | (extract_lets +onlyGivenNames xG; refine good_cut (A := Good b0 (Prod.snd xG)) ?gp ?gk; (case' gk => (intro hX; clear_value xG)); (case' gp => (unfold xG; clear xG)))
    | extract_lets +onlyGivenNames xG
    | with_reducible apply good_next
    | (refine good_lit hX ?_ ?_ ?_ ?_ ?_ ?_ ?_ ?_ ?_ <;> with_reducible rfl)
    | (refine good_lit hG ?_ ?_ ?_ ?_ ?_ ?_ ?_ ?_ ?_ <;> with_reducible rfl)
    | (with_reducible apply good_ite <;> intro hC)
    | with_reducible apply hF
    | split
    | (clear_value *; split)
    | (intro xA yA zA hX; with_reducible have hY : Good b0 xA := hX)
    | (intro xA yA hX; with_reducible have hY : Good b0 xA := hX)
    | (intro xA hX; with_reducible have hY : Good b0 xA := hX)
    | with_reducible refine good_mk rfl rfl rfl rfl rfl rfl rfl rfl rfl ?_

theorem good_examineSlots {s : State} 
    (hG : Good b0 s) : Good b0 (State.examineSlots s) := by
  have hX := hG
  have hF := hG
  unfold State.examineSlots
  iterate 40 all_goals try first
    | with_reducible assumption
    | (extract_lets +onlyGivenNames xG; refine good_cut (A := Good b0 xG) ?_ ?_; all_goals first | (intro hX; clear_value xG) | (unfold xG; clear xG))
    | (extract_lets +onlyGivenNames xG; refine good_cut (A := ∀ y, Good b0 y → Good b0 (xG y)) ?gp ?gk; (case' gk => (intro hF; clear_value xG)); (case' gp => (unfold xG; clear xG; intro yA hX)))
    | (extract_lets +onlyGivenNames xG; refine good_cut (A := Good b0 (Prod.fst xG)) ?gp ?gk; (case' gk => (intro hX; clear_value xG)); (case' gp => (unfold xG; clear xG)))
    | (extract_lets +onlyGivenNames xG; refine good_cut (A := Good b0 (Prod.snd xG)) ?gp ?gk; (case' gk => (intro hX; clear_value xG)); (case' gp => (unfold xG; clear xG)))
    | extract_lets +onlyGivenNames xG
    | with_reducible apply good_logEv
    | with_reducible apply good_setRdy
    | with_reducible apply good_setEvrSlot
    | with_reducible apply good_next
    | (refine good_lit hX ?_ ?_ ?_ ?_ ?_ ?_ ?_ ?_ ?_ <;> with_reducible rfl)
    | (refine good_lit hG ?_ ?_ ?_ ?_ ?_ ?_ ?_ ?_ ?_ <;> with_reducible rfl)
    | (with_reducible apply good_ite <;> intro hC)
    | with_reducible apply hF
    | split
    | (clear_value *; split)
    | (intro xA yA zA hX; with_reducible have hY : Good b0 xA := hX)
    | (intro xA yA hX; with_reducible have hY : Good b0 xA := hX)
    | (intro xA hX; with_reducible have hY : Good b0 xA := hX)
    | with_reducible refine good_mk rfl rfl rfl rfl rfl rfl rfl rfl rfl ?_

theorem good_armTarget {s : State} 
    (hG : Good b0 s) : Good b0 (State.armTarget s) := by
  have hX := hG
  have hF := hG
  unfold State.armTarget
  iterate 40 all_goals try first
    | with_reducible assumption
    | (extract_lets +onlyGivenNames xG; refine good_cut (A := Good b0 xG) ?_ ?_; all_goals first | (intro hX; clear_value xG) | (unfold xG; clear xG))
    | (extract_lets +onlyGivenNames xG; refine good_cut (A := ∀ y, Good b0 y → Good b0 (xG y)) ?gp ?gk; (case' gk => (intro hF; clear_value xG)); (case' gp => (unfold xG; clear xG; intro yA hX)))
    | (extract_lets +onlyGivenNames xG; refine good_cut (A := Good b0 (Prod.fst xG)) ?gp ?gk; (case' gk => (intro hX; clear_value xG)); (case' gp => (unfold xG; clear xG)))
    | (extract_lets +onlyGivenNames xG; refine good_cut (A := Good b0 (Prod.snd xG)) ?gp ?gk; (case' gk => (intro hX; clear_value xG)); (case' gp => (unfold xG; clear xG)))
    | extract_lets +onlyGivenNames xG
    | with_reducible apply good_next
    | (refine good_lit hX ?_ ?_ ?_ ?_ ?_ ?_ ?_ ?_ ?_ <;> with_reducible rfl)
    | (refine good_lit hG ?_ ?_ ?_ ?_ ?_ ?_ ?_ ?_ ?_ <;> with_reducible rfl)
    | (with_reducible apply good_ite <;> intro hC)
    | with_reducible apply hF
    | split
    | (clear_value *; split)
    | (intro xA yA zA hX; with_reducible have hY : Good b0 xA := hX)
    | (intro xA yA hX; with_reducible have hY : Good b0 xA := hX)
    | (intro xA hX; with_reducible have hY : Good b0 xA := hX)
    | with_reducible refine good_mk rfl rfl rfl rfl rfl rfl rfl rfl rfl ?_

theorem good_verifySlot {s : State} {n : Nat} 
    (hG : Good b0 s) : Good b0 (State.verifySlot s n) := by
  have hX := hG
  have hF := hG
  unfold State.verifySlot
  iterate 40 all_goals try first
    | with_reducible assumption
    | (extract_lets +onlyGivenNames xG; refine good_cut (A := Good b0 xG) ?_ ?_; all_goals first | (intro hX; clear_value xG) | (unfold xG; clear xG))
    | (extract_lets +onlyGivenNames xG; refine good_cut (A := ∀ y, Good b0 y → Good b0 (xG y)) ?gp ?gk; (case' gk => (intro hF; clear_value xG)); (case' gp => (unfold xG; clear xG; intro yA hX)))
    | (extract_lets +onlyGivenNames xG; refine good_cut (A := Good b0 (Prod.fst xG)) ?gp ?gk; (case' gk => (intro hX; clear_value xG)); (case' gp => (unfold xG; clear xG)))
    | (extract_lets +onlyGivenNames xG; refine good_cut (A := Good b0 (Prod.snd xG)) ?gp ?gk; (case' gk => (intro hX; clear_value xG)); (case' gp => (unfold xG; clear xG)))
    | extract_lets +onlyGivenNames xG
    | with_reducible apply good_setEvrSlot
    | with_reducible apply good_next
    | (refine good_lit hX ?_ ?_ ?_ ?_ ?_ ?_ ?_ ?_ ?_ <;> with_reducible rfl)
    | (refine good_lit hG ?_ ?_ ?_ ?_ ?_ ?_ ?_ ?_ ?_ <;> with_reducible rfl)
    | (with_reducible apply good_ite <;> intro hC)
    | with_reducible apply hF
    | split
    | (clear_value *; split)
    | (intro xA yA zA hX; with_reducible have hY : Good b0 xA := hX)
    | (intro xA yA hX; with_reducible have hY : Good b0 xA := hX)
    | (intro xA hX; with_reducible have hY : Good b0 xA := hX)
    | with_reducible refine good_mk rfl rfl rfl rfl rfl rfl rfl rfl rfl ?_

theorem good_recover {s : State} 
    (hG : Good b0 s) : Good b0 (State.recover s) := by
  have hX := hG
  have hF := hG
  unfold State.recover
  iterate 40 all_goals try first
    | with_reducible assumption
    | (extract_lets +onlyGivenNames xG; refine good_cut (A := Good b0 xG) ?_ ?_; all_goals first | (intro hX; clear_value xG) | (unfold xG; clear xG))
    | (extract_lets +onlyGivenNames xG; refine good_cut (A := ∀ y, Good b0 y → Good b0 (xG y)) ?gp ?gk; (case' gk => (intro hF; clear_value xG)); (case' gp => (unfold xG; clear xG; intro yA hX)))
    | (extract_lets +onlyGivenNames xG; refine good_cut (A := Good b0 (Prod.fst xG)) ?gp ?gk; (case' gk => (intro hX; clear_value xG)); (case' gp => (unfold xG; clear xG)))
    | (extract_lets +onlyGivenNames xG; refine good_cut (A := Good b0 (Prod.snd xG)) ?gp ?gk; (case' gk => (intro hX; clear_value xG)); (case' gp => (unfold xG; clear xG)))
    | extract_lets +onlyGivenNames xG
    | with_reducible apply good_logEv
    | with_reducible apply good_armTarget
    | with_reducible apply good_verifySlot
    | with_reducible apply good_next
    | (refine good_lit hX ?_ ?_ ?_ ?_ ?_ ?_ ?_ ?_ ?_ <;> with_reducible rfl)
    | (refine good_lit hG ?_ ?_ ?_ ?_ ?_ ?_ ?_ ?_ ?_ <;> with_reducible rfl)
    | (with_reducible apply good_ite <;> intro hC)
    | with_reducible apply hF
    | split
    | (clear_value *; split)
    | (intro xA yA zA hX; with_reducible have hY : Good b0 xA := hX)
    | (intro xA yA hX; with_reducible have hY : Good b0 xA := hX)
    | (intro xA hX; with_reducible have hY : Good b0 xA := hX)
    | with_reducible refine good_mk rfl rfl rfl rfl rfl rfl rfl rfl rfl ?_

theorem good_readEntries : ∀ (l : List Nat) {s : State}, Good b0 s → Good b0 (s.readEntries l).2
  | [], _, h => h
  | _ :: l, _, h => by
    unfold State.readEntries
    exact good_readEntries l (good_readEntry h)

theorem good_snapshot {s : State} (hG : Good b0 s) : Good b0 (State.snapshot s).2 := good_readEntries _ hG

theorem good_programAll {s : State} {l : List (Nat × List Byte)}
    (hG : Good b0 s) : Good b0 (State.programAll s l) := by
  have hF := hG
  unfold State.programAll
  iterate 40 all_goals try first
    | with_reducible apply good_program
    | (with_reducible apply good_foldl; intro xA yA hX)
    | (with_reducible apply good_foldl1; intro xA yA hX)
    | (with_reducible apply good_ite <;> intro hC)
    | with_reducible apply hF
    | with_reducible assumption
    | split
    | (intro xA yA zA hX; with_reducible have hY : Good b0 xA := hX)
    | (intro xA yA hX; with_reducible have hY : Good b0 xA := hX)
    | (intro xA hX; with_reducible have hY : Good b0 xA := hX)
    | with_reducible refine good_mk rfl rfl rfl rfl rfl rfl rfl rfl rfl ?_

theorem good_tornBytes : ∀ (l : List Byte) {s : State}, Good b0 s → Good b0 (tornBytes l s).2
  | [], _, h => h
  | _ :: l, _, h => by
    unfold tornBytes
    exact good_tornBytes l (good_takeFree h)

theorem good_cutFlush {s : State} (hG : Good b0 s) : Good b0 (State.cutFlush s) := by
  unfold State.cutFlush
  apply good_ite <;> intro _
  · exact hG
  · extract_lets todo
    have h0 : Good b0 s.takeFree.2 := good_takeFree hG
    generalize s.takeFree = p at h0
    obtain ⟨v, s1⟩ := p
    dsimp only
    have h1 : Good b0 (s1.programAll (todo.take (v.toNat % (todo.length + 1)))) := good_programAll h0
    generalize s1.programAll (todo.take (v.toNat % (todo.length + 1))) = s2 at h1
    split
    · exact h1
    · rename_i off bs _ _
      have h2 := good_tornBytes bs h1
      generalize tornBytes bs s2 = q at h2
      obtain ⟨bs', s3⟩ := q
      exact good_program h2

theorem good_cutErase {s : State} (hG : Good b0 s) : Good b0 (State.cutErase s) := by
  unfold State.cutErase
  apply good_ite <;> intro _
  · exact hG
  · extract_lets base
    generalize s.evr.flash.filter _ = l
    apply good_foldl _ l hG
    intro x c h
    have h := good_takeFree h
    exact ⟨⟨h.1.1, h.1.2, h.1.3, h.1.4, h.1.5, twf_tput _ _ _ _ h.1.6⟩, h.2, h.3, h.4⟩

theorem good_beginFlush {s : State} {cause : Nat} 
    (hG : Good b0 s) : Good b0 (State.beginFlush s cause).1 := by
  have hX := hG
  have hF := hG
  unfold State.beginFlush
  iterate 40 all_goals try first
    | with_reducible assumption
    | (extract_lets +onlyGivenNames xG; refine good_cut (A := Good b0 xG) ?_ ?_; all_goals first | (intro hX; clear_value xG) | (unfold xG; clear xG))
    | (extract_lets +onlyGivenNames xG; refine good_cut (A := ∀ y, Good b0 y → Good b0 (xG y)) ?gp ?gk; (case' gk => (intro hF; clear_value xG)); (case' gp => (unfold xG; clear xG; intro yA hX)))
    | (extract_lets +onlyGivenNames xG; refine good_cut (A := Good b0 (Prod.fst xG)) ?gp ?gk; (case' gk => (intro hX; clear_value xG)); (case' gp => (unfold xG; clear xG)))
    | (extract_lets +onlyGivenNames xG; refine good_cut (A := Good b0 (Prod.snd xG)) ?gp ?gk; (case' gk => (intro hX; clear_value xG)); (case' gp => (unfold xG; clear xG)))
    | extract_lets +onlyGivenNames xG
    | with_reducible apply good_logEv
    | with_reducible apply good_program
    | with_reducible apply good_setEvrSlot
    | with_reducible apply good_snapshot
    | with_reducible apply good_next
    | (refine good_lit hX ?_ ?_ ?_ ?_ ?_ ?_ ?_ ?_ ?_ <;> with_reducible rfl)
    | (refine good_lit hG ?_ ?_ ?_ ?_ ?_ ?_ ?_ ?_ ?_ <;> with_reducible rfl)
    | (with_reducible apply good_ite <;> intro hC)
    | (with_reducible apply good_ite1 <;> intro hC)
    | with_reducible apply hF
    | split
    | (clear_value *; split)
    | (intro xA yA zA hX; with_reducible have hY : Good b0 xA := hX)
    | (intro xA yA hX; with_reducible have hY : Good b0 xA := hX)
    | (intro xA hX; with_reducible have hY : Good b0 xA := hX)
    | with_reducible refine good_mk rfl rfl rfl rfl rfl rfl rfl rfl rfl ?_

theorem good_mainReset {s : State} (h : Good b0 s) : Good b0 s.mainReset :=
  let h := good_cutErase (good_cutFlush h)
  ⟨⟨h.1.1, h.1.2, Nat.zero_le _, rfl, h.1.5, h.1.6⟩, h.2, h.3, h.4⟩

theorem good_addCause {s : State} {bit : Nat} 
    (hG : Good b0 s) : Good b0 (State.addCause s bit) := by
  have hX := hG
  have hF := hG
  unfold State.addCause
  iterate 40 all_goals try first
    | with_reducible assumption
    | (extract_lets +onlyGivenNames xG; refine good_cut (A := Good b0 xG) ?_ ?_; all_goals first | (intro hX; clear_value xG) | (unfold xG; clear xG))
    | (extract_lets +onlyGivenNames xG; refine good_cut (A := ∀ y, Good b0 y → Good b0 (xG y)) ?gp ?gk; (case' gk => (intro hF; clear_value xG)); (case' gp => (unfold xG; clear xG; intro yA hX)))
    | (extract_lets +onlyGivenNames xG; refine good_cut (A := Good b0 (Prod.fst xG)) ?gp ?gk; (case' gk => (intro hX; clear_value xG)); (case' gp => (unfold xG; clear xG)))
    | (extract_lets +onlyGivenNames xG; refine good_cut (A := Good b0 (Prod.snd xG)) ?gp ?gk; (case' gk => (intro hX; clear_value xG)); (case' gp => (unfold xG; clear xG)))
    | extract_lets +onlyGivenNames xG
    | with_reducible apply good_next
    | (refine good_lit hX ?_ ?_ ?_ ?_ ?_ ?_ ?_ ?_ ?_ <;> with_reducible rfl)
    | (refine good_lit hG ?_ ?_ ?_ ?_ ?_ ?_ ?_ ?_ ?_ <;> with_reducible rfl)
    | (with_reducible apply good_ite <;> intro hC)
    | with_reducible apply hF
    | split
    | (clear_value *; split)
    | (intro xA yA zA hX; with_reducible have hY : Good b0 xA := hX)
    | (intro xA yA hX; with_reducible have hY : Good b0 xA := hX)
    | (intro xA hX; with_reducible have hY : Good b0 xA := hX)
    | with_reducible refine good_mk rfl rfl rfl rfl rfl rfl rfl rfl rfl ?_

theorem good_sleep {s : State} 
    (hG : Good b0 s) : Good b0 (State.sleep s) := by
  have hX := hG
  have hF := hG
  unfold State.sleep
  iterate 40 all_goals try first
    | with_reducible assumption
    | (extract_lets +onlyGivenNames xG; refine good_cut (A := Good b0 xG) ?_ ?_; all_goals first | (intro hX; clear_value xG) | (unfold xG; clear xG))
    | (extract_lets +onlyGivenNames xG; refine good_cut (A := ∀ y, Good b0 y → Good b0 (xG y)) ?gp ?gk; (case' gk => (intro hF; clear_value xG)); (case' gp => (unfold xG; clear xG; intro yA hX)))
    | (extract_lets +onlyGivenNames xG; refine good_cut (A := Good b0 (Prod.fst xG)) ?gp ?gk; (case' gk => (intro hX; clear_value xG)); (case' gp => (unfold xG; clear xG)))
    | (extract_lets +onlyGivenNames xG; refine good_cut (A := Good b0 (Prod.snd xG)) ?gp ?gk; (case' gk => (intro hX; clear_value xG)); (case' gp => (unfold xG; clear xG)))
    | extract_lets +onlyGivenNames xG
    | with_reducible apply good_mainReset
    | with_reducible apply good_addCause
    | with_reducible apply good_next
    | (refine good_lit hX ?_ ?_ ?_ ?_ ?_ ?_ ?_ ?_ ?_ <;> with_reducible rfl)
    | (refine good_lit hG ?_ ?_ ?_ ?_ ?_ ?_ ?_ ?_ ?_ <;> with_reducible rfl)
    | (with_reducible apply good_ite <;> intro hC)
    | with_reducible apply hF
    | split
    | (clear_value *; split)
    | (intro xA yA zA hX; with_reducible have hY : Good b0 xA := hX)
    | (intro xA yA hX; with_reducible have hY : Good b0 xA := hX)
    | (intro xA hX; with_reducible have hY : Good b0 xA := hX)
    | with_reducible refine good_mk rfl rfl rfl rfl rfl rfl rfl rfl rfl ?_

theorem good_standbyLink {s : State} 
    (hG : Good b0 s) : Good b0 (State.standbyLink s) := by
  have hX := hG
  have hF := hG
  unfold State.standbyLink
  iterate 40 all_goals try first
    | with_reducible assumption
    | (extract_lets +onlyGivenNames xG; refine good_cut (A := Good b0 xG) ?_ ?_; all_goals first | (intro hX; clear_value xG) | (unfold xG; clear xG))
    | (extract_lets +onlyGivenNames xG; refine good_cut (A := ∀ y, Good b0 y → Good b0 (xG y)) ?gp ?gk; (case' gk => (intro hF; clear_value xG)); (case' gp => (unfold xG; clear xG; intro yA hX)))
    | (extract_lets +onlyGivenNames xG; refine good_cut (A := Good b0 (Prod.fst xG)) ?gp ?gk; (case' gk => (intro hX; clear_value xG)); (case' gp => (unfold xG; clear xG)))
    | (extract_lets +onlyGivenNames xG; refine good_cut (A := Good b0 (Prod.snd xG)) ?gp ?gk; (case' gk => (intro hX; clear_value xG)); (case' gp => (unfold xG; clear xG)))
    | extract_lets +onlyGivenNames xG
    | with_reducible apply good_sleep
    | with_reducible apply good_next
    | (refine good_lit hX ?_ ?_ ?_ ?_ ?_ ?_ ?_ ?_ ?_ <;> with_reducible rfl)
    | (refine good_lit hG ?_ ?_ ?_ ?_ ?_ ?_ ?_ ?_ ?_ <;> with_reducible rfl)
    | (with_reducible apply good_ite <;> intro hC)
    | with_reducible apply hF
    | split
    | (clear_value *; split)
    | (intro xA yA zA hX; with_reducible have hY : Good b0 xA := hX)
    | (intro xA yA hX; with_reducible have hY : Good b0 xA := hX)
    | (intro xA hX; with_reducible have hY : Good b0 xA := hX)
    | with_reducible refine good_mk rfl rfl rfl rfl rfl rfl rfl rfl rfl ?_

theorem good_enterStandby {s : State} 
    (hG : Good b0 s) : Good b0 (State.enterStandby s) := by
  have hX := hG
  have hF := hG
  unfold State.enterStandby
  iterate 40 all_goals try first
    | with_reducible assumption
    | (extract_lets +onlyGivenNames xG; refine good_cut (A := Good b0 xG) ?_ ?_; all_goals first | (intro hX; clear_value xG) | (unfold xG; clear xG))
    | (extract_lets +onlyGivenNames xG; refine good_cut (A := ∀ y, Good b0 y → Good b0 (xG y)) ?gp ?gk; (case' gk => (intro hF; clear_value xG)); (case' gp => (unfold xG; clear xG; intro yA hX)))
    | (extract_lets +onlyGivenNames xG; refine good_cut (A := Good b0 (Prod.fst xG)) ?gp ?gk; (case' gk => (intro hX; clear_value xG)); (case' gp => (unfold xG; clear xG)))
    | (extract_lets +onlyGivenNames xG; refine good_cut (A := Good b0 (Prod.snd xG)) ?gp ?gk; (case' gk => (intro hX; clear_value xG)); (case' gp => (unfold xG; clear xG)))
    | extract_lets +onlyGivenNames xG
    | with_reducible apply good_logEv
    | with_reducible apply good_drainEvents
    | with_reducible apply good_beginFlush
    | with_reducible apply good_standbyLink
    | with_reducible apply good_next
    | (refine good_lit hX ?_ ?_ ?_ ?_ ?_ ?_ ?_ ?_ ?_ <;> with_reducible rfl)
    | (refine good_lit hG ?_ ?_ ?_ ?_ ?_ ?_ ?_ ?_ ?_ <;> with_reducible rfl)
    | (with_reducible apply good_ite <;> intro hC)
    | with_reducible apply hF
    | split
    | (clear_value *; split)
    | with_reducible exact good_snd (by assumption) (by assumption)
    | with_reducible refine good_snd (by assumption) ?_
    | with_reducible refine good_fst (by assumption) ?_
    | (intro xA yA zA hX; with_reducible have hY : Good b0 xA := hX)
    | (intro xA yA hX; with_reducible have hY : Good b0 xA := hX)
    | (intro xA hX; with_reducible have hY : Good b0 xA := hX)
    | with_reducible refine good_mk rfl rfl rfl rfl rfl rfl rfl rfl rfl ?_

theorem good_execPwrFailNFall {s : State} 
    (hG : Good b0 s) : GoodR b0 (execPwrFailNFall s) := by
  have hX := hG
  have hF := hG
  unfold execPwrFailNFall
  iterate 40 all_goals try first
    | with_reducible assumption
    | (extract_lets +onlyGivenNames xG; refine good_cut (A := Good b0 xG) ?_ ?_; all_goals first | (intro hX; clear_value xG) | (unfold xG; clear xG))
    | (extract_lets +onlyGivenNames xG; refine good_cut (A := ∀ y, Good b0 y → Good b0 (xG y)) ?gp ?gk; (case' gk => (intro hF; clear_value xG)); (case' gp => (unfold xG; clear xG; intro yA hX)))
    | (extract_lets +onlyGivenNames xG; refine good_cut (A := Good b0 (Prod.fst xG)) ?gp ?gk; (case' gk => (intro hX; clear_value xG)); (case' gp => (unfold xG; clear xG)))
    | (extract_lets +onlyGivenNames xG; refine good_cut (A := Good b0 (Prod.snd xG)) ?gp ?gk; (case' gk => (intro hX; clear_value xG)); (case' gp => (unfold xG; clear xG)))
    | extract_lets +onlyGivenNames xG
    | with_reducible apply good_storeEntry
    | with_reducible apply good_drainEvents
    | with_reducible apply good_beginFlush
    | with_reducible apply good_mainReset
    | with_reducible apply good_next
    | (refine good_lit hX ?_ ?_ ?_ ?_ ?_ ?_ ?_ ?_ ?_ <;> with_reducible rfl)
    | (refine good_lit hG ?_ ?_ ?_ ?_ ?_ ?_ ?_ ?_ ?_ <;> with_reducible rfl)
    | (with_reducible apply good_ite <;> intro hC)
    | (with_reducible apply goodR_ite <;> intro hC)
    | with_reducible apply hF
    | split
    | (clear_value *; split)
    | (intro xA yA zA hX; with_reducible have hY : Good b0 xA := hX)
    | (intro xA yA hX; with_reducible have hY : Good b0 xA := hX)
    | (intro xA hX; with_reducible have hY : Good b0 xA := hX)
    | with_reducible refine good_mk rfl rfl rfl rfl rfl rfl rfl rfl rfl ?_

theorem good_afterFlush {s : State} 
    (hG : Good b0 s) : Good b0 (State.afterFlush s) := by
  have hX := hG
  have hF := hG
  unfold State.afterFlush
  iterate 40 all_goals try first
    | with_reducible assumption
    | (extract_lets +onlyGivenNames xG; refine good_cut (A := Good b0 xG) ?_ ?_; all_goals first | (intro hX; clear_value xG) | (unfold xG; clear xG))
    | (extract_lets +onlyGivenNames xG; refine good_cut (A := ∀ y, Good b0 y → Good b0 (xG y)) ?gp ?gk; (case' gk => (intro hF; clear_value xG)); (case' gp => (unfold xG; clear xG; intro yA hX)))
    | (extract_lets +onlyGivenNames xG; refine good_cut (A := Good b0 (Prod.fst xG)) ?gp ?gk; (case' gk => (intro hX; clear_value xG)); (case' gp => (unfold xG; clear xG)))
    | (extract_lets +onlyGivenNames xG; refine good_cut (A := Good b0 (Prod.snd xG)) ?gp ?gk; (case' gk => (intro hX; clear_value xG)); (case' gp => (unfold xG; clear xG)))
    | extract_lets +onlyGivenNames xG
    | with_reducible apply good_mainReset
    | with_reducible apply good_addCause
    | with_reducible apply good_standbyLink
    | with_reducible apply good_next
    | (refine good_lit hX ?_ ?_ ?_ ?_ ?_ ?_ ?_ ?_ ?_ <;> with_reducible rfl)
    | (refine good_lit hG ?_ ?_ ?_ ?_ ?_ ?_ ?_ ?_ ?_ <;> with_reducible rfl)
    | (with_reducible apply good_ite <;> intro hC)
    | with_reducible apply hF
    | split
    | (clear_value *; split)
    | (intro xA yA zA hX; with_reducible have hY : Good b0 xA := hX)
    | (intro xA yA hX; with_reducible have hY : Good b0 xA := hX)
    | (intro xA hX; with_reducible have hY : Good b0 xA := hX)
    | with_reducible refine good_mk rfl rfl rfl rfl rfl rfl rfl rfl rfl ?_

theorem good_timeDue {s : State}
    (hG : Good b0 s) : Good b0 (State.timeDue s) := by
  have hF := hG
  unfold State.timeDue
  iterate 40 all_goals try first
    | with_reducible apply good_afterFlush
    | with_reducible apply good_sleep
    | (with_reducible apply good_foldl; intro xA yA hX)
    | (with_reducible apply good_foldl1; intro xA yA hX)
    | (with_reducible apply good_ite <;> intro hC)
    | with_reducible apply hF
    | with_reducible assumption
    | split
    | (intro xA yA zA hX; with_reducible have hY : Good b0 xA := hX)
    | (intro xA yA hX; with_reducible have hY : Good b0 xA := hX)
    | (intro xA hX; with_reducible have hY : Good b0 xA := hX)
    | with_reducible refine good_mk rfl rfl rfl rfl rfl rfl rfl rfl rfl ?_

theorem good_idle {s : State}
    (hG : Good b0 s) : Good b0 (State.idle s) := by
  have hF := hG
  unfold State.idle
  iterate 40 all_goals try first
    | with_reducible apply good_tick
    | with_reducible apply good_idleFlits
    | with_reducible apply good_timeDue
    | (with_reducible apply good_foldl; intro xA yA hX)
    | (with_reducible apply good_foldl1; intro xA yA hX)
    | (with_reducible apply good_ite <;> intro hC)
    | with_reducible apply hF
    | with_reducible assumption
    | split
    | (intro xA yA zA hX; with_reducible have hY : Good b0 xA := hX)
    | (intro xA yA hX; with_reducible have hY : Good b0 xA := hX)
    | (intro xA hX; with_reducible have hY : Good b0 xA := hX)
    | with_reducible refine good_mk rfl rfl rfl rfl rfl rfl rfl rfl rfl ?_

theorem good_execFlushDone {s : State} 
    (hG : Good b0 s) : GoodR b0 (execFlushDone s) := by
  have hX := hG
  have hF := hG
  unfold execFlushDone
  iterate 40 all_goals try first
    | with_reducible assumption
    | (extract_lets +onlyGivenNames xG; refine good_cut (A := Good b0 xG) ?_ ?_; all_goals first | (intro hX; clear_value xG) | (unfold xG; clear xG))
    | (extract_lets +onlyGivenNames xG; refine good_cut (A := ∀ y, Good b0 y → Good b0 (xG y)) ?gp ?gk; (case' gk => (intro hF; clear_value xG)); (case' gp => (unfold xG; clear xG; intro yA hX)))
    | (extract_lets +onlyGivenNames xG; refine good_cut (A := Good b0 (Prod.fst xG)) ?gp ?gk; (case' gk => (intro hX; clear_value xG)); (case' gp => (unfold xG; clear xG)))
    | (extract_lets +onlyGivenNames xG; refine good_cut (A := Good b0 (Prod.snd xG)) ?gp ?gk; (case' gk => (intro hX; clear_value xG)); (case' gp => (unfold xG; clear xG)))
    | extract_lets +onlyGivenNames xG
    | with_reducible apply good_logEv
    | with_reducible apply good_program
    | with_reducible apply good_setEvrSlot
    | with_reducible apply good_afterFlush
    | with_reducible apply good_programAll
    | with_reducible apply good_next
    | (refine good_lit hX ?_ ?_ ?_ ?_ ?_ ?_ ?_ ?_ ?_ <;> with_reducible rfl)
    | (refine good_lit hG ?_ ?_ ?_ ?_ ?_ ?_ ?_ ?_ ?_ <;> with_reducible rfl)
    | (with_reducible apply good_ite <;> intro hC)
    | (with_reducible apply goodR_ite <;> intro hC)
    | with_reducible apply hF
    | split
    | (clear_value *; split)
    | (intro xA yA zA hX; with_reducible have hY : Good b0 xA := hX)
    | (intro xA yA hX; with_reducible have hY : Good b0 xA := hX)
    | (intro xA hX; with_reducible have hY : Good b0 xA := hX)
    | with_reducible refine good_mk rfl rfl rfl rfl rfl rfl rfl rfl rfl ?_

theorem good_execFlashOpAbandon {s : State} 
    (hG : Good b0 s) : GoodR b0 (execFlashOpAbandon s) := by
  have hX := hG
  have hF := hG
  unfold execFlashOpAbandon
  iterate 40 all_goals try first
    | with_reducible assumption
    | (extract_lets +onlyGivenNames xG; refine good_cut (A := Good b0 xG) ?_ ?_; all_goals first | (intro hX; clear_value xG) | (unfold xG; clear xG))
    | (extract_lets +onlyGivenNames xG; refine good_cut (A := ∀ y, Good b0 y → Good b0 (xG y)) ?gp ?gk; (case' gk => (intro hF; clear_value xG)); (case' gp => (unfold xG; clear xG; intro yA hX)))
    | (extract_lets +onlyGivenNames xG; refine good_cut (A := Good b0 (Prod.fst xG)) ?gp ?gk; (case' gk => (intro hX; clear_value xG)); (case' gp => (unfold xG; clear xG)))
    | (extract_lets +onlyGivenNames xG; refine good_cut (A := Good b0 (Prod.snd xG)) ?gp ?gk; (case' gk => (intro hX; clear_value xG)); (case' gp => (unfold xG; clear xG)))
    | extract_lets +onlyGivenNames xG
    | with_reducible apply good_afterFlush
    | with_reducible apply good_cutFlush
    | with_reducible apply good_cutErase
    | with_reducible apply good_next
    | (refine good_lit hX ?_ ?_ ?_ ?_ ?_ ?_ ?_ ?_ ?_ <;> with_reducible rfl)
    | (refine good_lit hG ?_ ?_ ?_ ?_ ?_ ?_ ?_ ?_ ?_ <;> with_reducible rfl)
    | (with_reducible apply good_ite <;> intro hC)
    | (with_reducible apply goodR_ite <;> intro hC)
    | with_reducible apply hF
    | split
    | (clear_value *; split)
    | (intro xA yA zA hX; with_reducible have hY : Good b0 xA := hX)
    | (intro xA yA hX; with_reducible have hY : Good b0 xA := hX)
    | (intro xA hX; with_reducible have hY : Good b0 xA := hX)
    | with_reducible refine good_mk rfl rfl rfl rfl rfl rfl rfl rfl rfl ?_

theorem good_execRecorderRearm {s : State} 
    (hG : Good b0 s) : GoodR b0 (execRecorderRearm s) := by
  have hX := hG
  have hF := hG
  unfold execRecorderRearm
  iterate 40 all_goals try first
    | with_reducible assumption
    | (extract_lets +onlyGivenNames xG; refine good_cut (A := Good b0 xG) ?_ ?_; all_goals first | (intro hX; clear_value xG) | (unfold xG; clear xG))
    | (extract_lets +onlyGivenNames xG; refine good_cut (A := ∀ y, Good b0 y → Good b0 (xG y)) ?gp ?gk; (case' gk => (intro hF; clear_value xG)); (case' gp => (unfold xG; clear xG; intro yA hX)))
    | (extract_lets +onlyGivenNames xG; refine good_cut (A := Good b0 (Prod.fst xG)) ?gp ?gk; (case' gk => (intro hX; clear_value xG)); (case' gp => (unfold xG; clear xG)))
    | (extract_lets +onlyGivenNames xG; refine good_cut (A := Good b0 (Prod.snd xG)) ?gp ?gk; (case' gk => (intro hX; clear_value xG)); (case' gp => (unfold xG; clear xG)))
    | extract_lets +onlyGivenNames xG
    | with_reducible apply good_armTarget
    | with_reducible apply good_next
    | (refine good_lit hX ?_ ?_ ?_ ?_ ?_ ?_ ?_ ?_ ?_ <;> with_reducible rfl)
    | (refine good_lit hG ?_ ?_ ?_ ?_ ?_ ?_ ?_ ?_ ?_ <;> with_reducible rfl)
    | (with_reducible apply good_ite <;> intro hC)
    | (with_reducible apply goodR_ite <;> intro hC)
    | with_reducible apply hF
    | split
    | (clear_value *; split)
    | (intro xA yA zA hX; with_reducible have hY : Good b0 xA := hX)
    | (intro xA yA hX; with_reducible have hY : Good b0 xA := hX)
    | (intro xA hX; with_reducible have hY : Good b0 xA := hX)
    | with_reducible refine good_mk rfl rfl rfl rfl rfl rfl rfl rfl rfl ?_

theorem good_flash {s : State} {f : List Host.Cell} {a : ArmSt} (h : Good b0 s) (w : Memory.wf 0xFF#8 f = true) :
    Good b0 { s with evr := { s.evr with arm := a, flash := f } } :=
  ⟨⟨h.1.1, h.1.2, h.1.3, h.1.4, h.1.5, w⟩, h.2, h.3, h.4⟩

theorem good_execSlotEraseDone {blank : Bool} {s : State} (hG : Good b0 s) : GoodR b0 (execSlotEraseDone blank s) := by
  unfold execSlotEraseDone
  apply good_next
  apply good_ite <;> intro _
  · exact hG
  · apply good_ite <;> intro _
    · extract_lets n t
      have hX : Good b0 t := good_setEvrSlot hG
      clear_value t
      generalize 65536 = m
      exact good_flash hX (Memory.wf_clear _ _ _ _ hX.1.6)
    · refine good_lit (good_cutErase hG) ?_ ?_ ?_ ?_ ?_ ?_ ?_ ?_ ?_ <;> rfl

theorem good_execEvrMarkWrite {path : Port} {value : Word} {s : State} (hG : Good b0 s) :
    GoodR b0 (execEvrMarkWrite path value s) := by
  unfold execEvrMarkWrite
  apply good_next
  apply good_ite <;> intro _
  · exact good_logEv hG
  · exact hG

end Sys2Proof.Laws
end

