-- ==== Sys2Proof/Laws/GoodSpm.lean ====
section
/-! SUPPORT. What every operation and command of Machine/Spm.lean keeps, one lemma each. -/

set_option linter.all false

namespace Sys2Proof.Laws

open Sys2Proof.Machine

variable {b0 : State}

theorem good_claimFret {s : State} {t f : Nat} 
    (hG : Good b0 s) : Good b0 (State.claimFret s t f) := by
  have hF := hG
  unfold State.claimFret
  iterate 40 all_goals try first
    | with_reducible apply good_modSpm
    | with_reducible apply hF
    | split

theorem good_scrubOne {s : State} {t : Nat} 
    (hG : Good b0 s) : Good b0 (State.scrubOne s t) := by
  have hF := hG
  unfold State.scrubOne
  iterate 40 all_goals try first
    | with_reducible apply good_modSpm
    | with_reducible apply good_claimFret
    | with_reducible apply hF
    | split

theorem good_scrubAll {s : State} {t : Nat} 
    (hG : Good b0 s) : Good b0 (State.scrubAll s t) := by
  have hX := hG
  unfold State.scrubAll
  iterate 40 all_goals try first
    | with_reducible assumption
    | with_reducible apply good_scrubOne
    | (with_reducible apply good_foldl; intro xA yA hX)

theorem good_freeSlot {s : State} {k : Nat} 
    (hG : Good b0 s) : Good b0 (State.freeSlot s k) := by
  have hF := hG
  unfold State.freeSlot
  iterate 40 all_goals try first
    | with_reducible apply hF
    | with_reducible refine good_mk rfl rfl rfl rfl rfl rfl rfl rfl rfl ?_

theorem good_endEntries {s : State} {t : Nat} {es : List Nat} 
    (hG : Good b0 s) : Good b0 (State.endEntries s t es) := by
  have hX := hG
  unfold State.endEntries
  iterate 40 all_goals try first
    | with_reducible assumption
    | with_reducible apply good_modSpm
    | with_reducible apply good_freeSlot
    | (with_reducible apply good_foldl; intro xA yA hX)

theorem good_dropSpills {s : State} {t id : Nat}
    (hG : Good b0 s) : Good b0 (State.dropSpills s t id) := by
  have hF := hG
  unfold State.dropSpills
  iterate 40 all_goals try first
    | with_reducible apply good_modSpm
    | with_reducible apply good_freeSlot
    | (with_reducible apply good_foldl; intro xA yA hX)
    | (with_reducible apply good_foldl1; intro xA yA hX)
    | (with_reducible apply good_ite <;> intro hC)
    | with_reducible apply hF
    | with_reducible assumption
    | split
    | (intro xA yA zA hX; with_reducible have hY : Good b0 xA := hX)
    | (intro xA yA hX; with_reducible have hY : Good b0 xA := hX)
    | (intro xA hX; with_reducible have hY : Good b0 xA := hX)
    | with_reducible refine good_mk rfl rfl rfl rfl rfl rfl rfl rfl rfl ?_

theorem good_spmEndInst {s : State} {t id : Nat} 
    (hG : Good b0 s) : Good b0 (State.spmEndInst s t id) := by
  have hF := hG
  unfold State.spmEndInst
  iterate 40 all_goals try first
    | with_reducible apply good_modSpm
    | with_reducible apply good_endEntries
    | with_reducible apply good_dropSpills
    | (with_reducible apply good_ite <;> intro hC)
    | with_reducible apply hF

theorem good_spmFail {s : State} {t : Nat} {nR : HErr} 
    (hG : Good b0 s) : Good b0 (State.spmFail s t nR) := by
  have hF := hG
  cases nR <;> unfold State.spmFail
  iterate 40 all_goals try first
    | with_reducible apply good_modSpm
    | with_reducible apply hF

theorem good_askRestore {s : State} {t : Nat} {i : Inst} {h : Half} {o n : Nat} 
    (hG : Good b0 s) : Good b0 (State.askRestore s t i h o n) := by
  have hX := hG
  unfold State.askRestore
  iterate 40 all_goals try first
    | with_reducible assumption
    | extract_lets +onlyGivenNames xG
    | with_reducible apply good_modSpm
    | (with_reducible apply good_foldl; intro xA yA hX)
    | split

theorem good_startSpills {s : State} {t id : Nat} {fs : List Nat}
    (hG : Good b0 s) : Good b0 (State.startSpills s t id fs) := by
  have hF := hG
  unfold State.startSpills
  iterate 40 all_goals try first
    | with_reducible apply good_modSpm
    | (with_reducible apply good_foldl; intro xA yA hX)
    | (with_reducible apply good_foldl1; intro xA yA hX)
    | (with_reducible apply good_ite <;> intro hC)
    | with_reducible apply hF
    | with_reducible assumption
    | split
    | (intro xA yA zA hX; with_reducible have hY : Good b0 xA := hX)
    | (intro xA yA hX; with_reducible have hY : Good b0 xA := hX)
    | (intro xA hX; with_reducible have hY : Good b0 xA := hX)
    | with_reducible refine good_mk rfl rfl rfl rfl rfl rfl rfl rfl rfl ?_

theorem good_answerAlloc {s : State} {t : Nat} {v : Word} 
    (hG : Good b0 s) : Good b0 (State.answerAlloc s t v) := by
  have hF := hG
  unfold State.answerAlloc
  iterate 40 all_goals try first
    | with_reducible apply good_modTc
    | with_reducible apply hF

theorem good_dropReq {s : State} {t : Nat} {r : AllocReq} 
    (hG : Good b0 s) : Good b0 (State.dropReq s t r) := by
  have hF := hG
  unfold State.dropReq
  iterate 40 all_goals try first
    | with_reducible apply good_modSpm
    | with_reducible apply hF

theorem good_grantReq {s : State} {t : Nat} {r : AllocReq} 
    (hG : Good b0 s) : Good b0 (State.grantReq s t r) := by
  have hF := hG
  unfold State.grantReq
  iterate 40 all_goals try first
    | extract_lets +onlyGivenNames xG
    | with_reducible apply good_modSpm
    | with_reducible apply good_answerAlloc
    | with_reducible apply good_dropReq
    | with_reducible apply hF
    | split

theorem good_allocOne {s : State} {t : Nat} 
    (hG : Good b0 s) : Good b0 (State.allocOne s t) := by
  have hF := hG
  unfold State.allocOne
  iterate 40 all_goals try first
    | with_reducible apply good_modSpm
    | with_reducible apply good_startSpills
    | with_reducible apply good_answerAlloc
    | with_reducible apply good_dropReq
    | with_reducible apply good_grantReq
    | with_reducible apply hF
    | split
    | with_reducible refine good_mk rfl rfl rfl rfl rfl rfl rfl rfl rfl ?_

end Sys2Proof.Laws
end

