-- ==== Sys2Proof/Laws/GoodPager.lean ====
section
/-! SUPPORT. What every operation and command of Machine/Pager.lean keeps, one lemma each. -/

set_option linter.all false

namespace Sys2Proof.Laws

open Sys2Proof.Machine

variable {b0 : State}

theorem good_notePeak {s : State} 
    (hG : Good b0 s) : Good b0 (State.notePeak s) := by
  have hF := hG
  unfold State.notePeak
  iterate 40 all_goals try first
    | with_reducible apply hF
    | with_reducible refine good_mk rfl rfl rfl rfl rfl rfl rfl rfl rfl ?_

theorem good_addFetch {s : State} {f : Fetch} {job : Option Nat} 
    (hG : Good b0 s) : Good b0 (State.addFetch s f job) := by
  have hF := hG
  unfold State.addFetch
  iterate 40 all_goals try first
    | with_reducible apply good_notePeak
    | with_reducible apply hF
    | split
    | with_reducible refine good_mk rfl rfl rfl rfl rfl rfl rfl rfl rfl ?_

theorem good_makeEligible {s : State} {i : Inst} {layer j : Nat} {rs : List (Nat × Bool)}
    (hG : Good b0 s) : Good b0 (State.makeEligible s i layer j rs) := by
  have hF := hG
  unfold State.makeEligible
  iterate 40 all_goals try first
    | with_reducible apply good_modBow
    | with_reducible apply good_addFetch
    | (with_reducible apply good_foldl; intro xA yA hX)
    | (with_reducible apply good_foldl1; intro xA yA hX)
    | (with_reducible apply good_ite <;> intro hC)
    | with_reducible apply hF
    | with_reducible assumption
    | split
    | (intro xA yA zA hX; with_reducible have hY : Good b0 xA := hX)
    | (intro xA yA hX; with_reducible have hY : Good b0 xA := hX)
    | (intro xA hX; with_reducible have hY : Good b0 xA := hX)
    | with_reducible refine good_mk rfl rfl rfl rfl rfl rfl rfl rfl rfl ?_

theorem good_noteSlotWait {s : State} {r : Nat × Bool} {only : Bool}
    (hG : Good b0 s) : Good b0 (State.noteSlotWait s r only) := by
  have hF := hG
  unfold State.noteSlotWait
  iterate 40 all_goals try first
    | with_reducible apply good_modBow
    | (with_reducible apply good_foldl; intro xA yA hX)
    | (with_reducible apply good_foldl1; intro xA yA hX)
    | (with_reducible apply good_ite <;> intro hC)
    | with_reducible apply hF
    | with_reducible assumption
    | split
    | (intro xA yA zA hX; with_reducible have hY : Good b0 xA := hX)
    | (intro xA yA hX; with_reducible have hY : Good b0 xA := hX)
    | (intro xA hX; with_reducible have hY : Good b0 xA := hX)
    | with_reducible refine good_mk rfl rfl rfl rfl rfl rfl rfl rfl rfl ?_

theorem good_scanLayer {s : State} {i : Inst} {layer : Nat} {nR : Nat} 
    (hG : Good b0 s) : Good b0 (State.scanLayer s i layer nR) := by
  induction nR generalizing s i layer with
  | zero => exact hG
  | succ n ihG =>
  (have hF := hG; unfold State.scanLayer)
  iterate 40 all_goals try first
    | extract_lets +onlyGivenNames xG
    | with_reducible apply good_makeEligible
    | with_reducible apply good_noteSlotWait
    | with_reducible apply ihG
    | (with_reducible apply good_foldl; intro xA yA hX)
    | with_reducible apply hF
    | with_reducible assumption
    | split

theorem good_pagerScan {s : State} 
    (hG : Good b0 s) : Good b0 (State.pagerScan s) := by
  have hX := hG
  unfold State.pagerScan
  iterate 40 all_goals try first
    | with_reducible assumption
    | with_reducible apply good_scanLayer
    | (with_reducible apply good_foldl; intro xA yA hX)

theorem good_issueFetch {s : State} 
    (hG : Good b0 s) : Good b0 (State.issueFetch s) := by
  have hF := hG
  unfold State.issueFetch
  iterate 40 all_goals try first
    | with_reducible apply good_sendFlit
    | with_reducible apply hF
    | split
    | with_reducible refine good_mk rfl rfl rfl rfl rfl rfl rfl rfl rfl ?_

theorem good_pagerRun {s : State} 
    (hG : Good b0 s) : Good b0 (State.pagerRun s) := by
  have hX := hG
  unfold State.pagerRun
  iterate 40 all_goals try first
    | with_reducible assumption
    | with_reducible apply good_pagerScan
    | with_reducible apply good_issueFetch
    | (with_reducible apply good_foldl; intro xA yA hX)

end Sys2Proof.Laws
end

