-- ==== Sys2Proof/Laws/GoodRing.lean ====
section
/-! SUPPORT. What every operation and command of Machine/Ring.lean keeps, one lemma each. -/

set_option linter.all false

namespace Sys2Proof.Laws

open Sys2Proof.Machine

variable {b0 : State}

theorem good_post {s : State} {a : Nat} {bs : List Byte} (h : Good b0 s) : Good b0 (s.post a bs) := by
  unfold State.post
  split
  · exact good_host h (Memory.wf_write _ _ _ _ h.1.5) rfl rfl rfl rfl rfl
  · exact good_lit h rfl rfl rfl rfl rfl rfl rfl rfl rfl

theorem good_handOver {s : State} {w : Posted} (h : Good b0 s) : Good b0 (State.handOver s w) := by
  cases w with
  | write a bs => exact good_host h (Memory.wf_write _ _ _ _ h.1.5) rfl rfl rfl rfl rfl
  | completion data status => exact good_lit h rfl rfl rfl rfl rfl rfl rfl rfl rfl

theorem good_drainPosted {s : State} (h : Good b0 s) : Good b0 s.drainPosted := by
  unfold State.drainPosted
  exact good_foldl (fun _ _ hs => good_handOver hs) _ (good_lit h rfl rfl rfl rfl rfl rfl rfl rfl rfl)

theorem good_mirrorWrite {s : State} {off : Nat} {bs : List Byte} 
    (hG : Good b0 s) : Good b0 (State.mirrorWrite s off bs) := by
  have hF := hG
  unfold State.mirrorWrite
  iterate 40 all_goals try first
    | with_reducible apply good_post
    | with_reducible apply hF
    | split
    | with_reducible refine good_mk rfl rfl rfl rfl rfl rfl rfl rfl rfl ?_

theorem good_mirrorRing {s : State} {k : Nat} 
    (hG : Good b0 s) : Good b0 (State.mirrorRing s k) := by
  have hF := hG
  unfold State.mirrorRing
  iterate 40 all_goals try first
    | with_reducible apply good_mirrorWrite
    | with_reducible apply hF

theorem good_mirrorPennant {s : State} 
    (hG : Good b0 s) : Good b0 (State.mirrorPennant s) := by
  have hF := hG
  unfold State.mirrorPennant
  iterate 40 all_goals try first
    | with_reducible apply good_mirrorWrite
    | with_reducible apply hF

theorem good_fullRewrite {s : State} 
    (hG : Good b0 s) : Good b0 (State.fullRewrite s) := by
  have hX := hG
  unfold State.fullRewrite
  iterate 40 all_goals try first
    | with_reducible assumption
    | with_reducible apply good_mirrorWrite
    | with_reducible apply good_mirrorRing
    | with_reducible apply good_mirrorPennant
    | (with_reducible apply good_foldl; intro xA yA hX)
    | split
    | with_reducible refine good_mk rfl rfl rfl rfl rfl rfl rfl rfl rfl ?_

theorem good_closePage {s : State} {k : Nat} {capo : Bool} 
    (hG : Good b0 s) : Good b0 (State.closePage s k capo) := by
  have hF := hG
  unfold State.closePage
  iterate 40 all_goals try first
    | with_reducible apply good_modRing
    | with_reducible apply hF
    | split

theorem good_publish {s : State} {k : Nat}
    (hG : Good b0 s) : Good b0 (State.publish s k) := by
  have hF := hG
  unfold State.publish
  iterate 40 all_goals try first
    | with_reducible apply good_post
    | with_reducible apply good_modRing
    | with_reducible apply good_mirrorRing
    | (with_reducible apply good_foldl; intro xA yA hX)
    | (with_reducible apply good_foldl1; intro xA yA hX)
    | (with_reducible apply good_ite <;> intro hC)
    | with_reducible apply hF
    | with_reducible assumption
    | split
    | (intro xA yA zA hX; with_reducible have hY : Good b0 xA := hX)
    | (intro xA yA hX; with_reducible have hY : Good b0 xA := hX)
    | (intro xA hX; with_reducible have hY : Good b0 xA := hX)
    | with_reducible refine good_mk rfl rfl rfl rfl rfl rfl rfl rfl rfl ?_

theorem good_publishAll {s : State} {k : Nat} 
    (hG : Good b0 s) : Good b0 (State.publishAll s k) := by
  have hX := hG
  unfold State.publishAll
  iterate 40 all_goals try first
    | with_reducible assumption
    | with_reducible apply good_publish
    | (with_reducible apply good_foldl; intro xA yA hX)

theorem good_voidWrites {s : State} {k id : Nat} {p : RingPage} 
    (hG : Good b0 s) : Good b0 (State.voidWrites s k id p) := by
  have hX := hG
  unfold State.voidWrites
  iterate 40 all_goals try first
    | with_reducible assumption
    | with_reducible apply good_post
    | (with_reducible apply good_foldl; intro xA yA hX)

theorem good_hdmaMove {s : State} {n : Nat}
    (hG : Good b0 s) : Good b0 (State.hdmaMove s n) := by
  have hF := hG
  unfold State.hdmaMove
  iterate 40 all_goals try first
    | with_reducible apply good_moveBusy
    | with_reducible apply good_post
    | (with_reducible apply good_foldl; intro xA yA hX)
    | (with_reducible apply good_foldl1; intro xA yA hX)
    | (with_reducible apply good_ite <;> intro hC)
    | with_reducible apply hF
    | with_reducible assumption
    | split
    | (intro xA yA zA hX; with_reducible have hY : Good b0 xA := hX)
    | (intro xA yA hX; with_reducible have hY : Good b0 xA := hX)
    | (intro xA hX; with_reducible have hY : Good b0 xA := hX)
    | with_reducible refine good_mk rfl rfl rfl rfl rfl rfl rfl rfl rfl ?_

theorem good_hdmaStop {s : State} {code : Nat} (hG : Good b0 s) : Good b0 (State.hdmaStop s code) := by
  unfold State.hdmaStop
  split
  · exact hG
  · exact good_lit (good_hdmaMove (good_takeFree hG)) rfl rfl rfl rfl rfl rfl rfl rfl rfl

theorem good_ringsEndInst {s : State} {id : Nat} {completed : Bool} 
    (hG : Good b0 s) : Good b0 (State.ringsEndInst s id completed) := by
  have hX := hG
  unfold State.ringsEndInst
  iterate 40 all_goals try first
    | with_reducible assumption
    | with_reducible apply good_modRing
    | with_reducible apply good_voidWrites
    | (with_reducible apply good_foldl; intro xA yA hX)
    | split
    | with_reducible refine good_mk rfl rfl rfl rfl rfl rfl rfl rfl rfl ?_

theorem good_stallRing {s : State} {k : Nat} 
    (hG : Good b0 s) : Good b0 (State.stallRing s k) := by
  have hF := hG
  unfold State.stallRing
  iterate 40 all_goals try first
    | with_reducible apply good_modRing
    | with_reducible apply good_mirrorRing
    | with_reducible apply hF
    | with_reducible refine good_mk rfl rfl rfl rfl rfl rfl rfl rfl rfl ?_

end Sys2Proof.Laws
end

