-- ==== Sys2Proof/Laws/GoodInst.lean ====
section
/-! SUPPORT. What every operation and command of Machine/Inst.lean keeps, one lemma each. -/

set_option linter.all false

namespace Sys2Proof.Laws

open Sys2Proof.Machine

variable {b0 : State}

theorem good_pagerEndThread {s : State} {t id : Nat} {kill : Bool} 
    (hG : Good b0 s) : Good b0 (State.pagerEndThread s t id kill) := by
  have hF := hG
  unfold State.pagerEndThread
  iterate 40 all_goals try first
    | with_reducible apply hF
    | with_reducible refine good_mk rfl rfl rfl rfl rfl rfl rfl rfl rfl ?_

theorem good_endThread {s : State} {t id : Nat} {kill : Bool} {ok : Bool}
    (hG : Good b0 s) : Good b0 (State.endThread s t id kill ok) := by
  have hF := hG
  unfold State.endThread
  iterate 40 all_goals try first
    | with_reducible apply good_modArr
    | with_reducible apply good_modTc
    | with_reducible apply good_modBow
    | with_reducible apply good_pagerEndThread
    | with_reducible apply good_modInst
    | (with_reducible apply good_foldl; intro xA yA hX)
    | (with_reducible apply good_foldl1; intro xA yA hX)
    | (with_reducible apply good_ite <;> intro hC)
    | with_reducible apply hF
    | with_reducible assumption
    | split
    | (intro xA yA zA hX; with_reducible have hY : Good b0 xA := hX)
    | (intro xA yA hX; with_reducible have hY : Good b0 xA := hX)
    | (intro xA hX; with_reducible have hY : Good b0 xA := hX)
    | with_reducible refine good_mk rfl rfl rfl rfl rfl rfl rfl rfl rfl ?_

theorem good_queueDecisions {s : State} {l : List Inst} 
    (hG : Good b0 s) : Good b0 (State.queueDecisions s l) := by
  have hF := hG
  unfold State.queueDecisions
  iterate 40 all_goals try first
    | with_reducible apply hF
    | with_reducible refine good_mk rfl rfl rfl rfl rfl rfl rfl rfl rfl ?_

theorem good_retestGang {s : State} {g : Nat} 
    (hG : Good b0 s) : Good b0 (State.retestGang s g) := by
  have hF := hG
  unfold State.retestGang
  iterate 40 all_goals try first
    | with_reducible apply good_queueDecisions
    | with_reducible apply hF

theorem good_jobEnded {s : State} {i : Inst} {status : Nat} {detail : Word} 
    (hG : Good b0 s) : Good b0 (State.jobEnded s i status detail) := by
  have hF := hG
  unfold State.jobEnded
  iterate 40 all_goals try first
    | with_reducible apply hF
    | with_reducible refine good_mk rfl rfl rfl rfl rfl rfl rfl rfl rfl ?_

theorem good_countEnding {s : State} {i : Inst} {status : Nat} 
    (hG : Good b0 s) : Good b0 (State.countEnding s i status) := by
  have hF := hG
  unfold State.countEnding
  iterate 40 all_goals try first
    | with_reducible apply hF
    | with_reducible refine good_mk rfl rfl rfl rfl rfl rfl rfl rfl rfl ?_

theorem good_reportEnding {s : State} {i : Inst} {status tile cause : Nat} 
    (hG : Good b0 s) : Good b0 (State.reportEnding s i status tile cause) := by
  have hF := hG
  unfold State.reportEnding
  iterate 40 all_goals try first
    | with_reducible apply good_report
    | with_reducible apply hF
    | split

theorem good_freePrefetch {s : State} {job : Nat} 
    (hG : Good b0 s) : Good b0 (State.freePrefetch s job) := by
  have hF := hG
  unfold State.freePrefetch
  iterate 40 all_goals try first
    | with_reducible apply hF
    | with_reducible refine good_mk rfl rfl rfl rfl rfl rfl rfl rfl rfl ?_

theorem good_dropRingClaims {s : State} {ts : List Nat} 
    (hG : Good b0 s) : Good b0 (State.dropRingClaims s ts) := by
  have hX := hG
  unfold State.dropRingClaims
  iterate 40 all_goals try first
    | with_reducible assumption
    | with_reducible apply good_modTc
    | (with_reducible apply good_foldl; intro xA yA hX)

theorem good_dropLinkMsgs {s : State} {k : Nat} {p : RemMsg → Bool}
    (hG : Good b0 s) : Good b0 (State.dropLinkMsgs s k p) := by
  have hF := hG
  unfold State.dropLinkMsgs
  iterate 40 all_goals try first
    | with_reducible apply good_modLink
    | (with_reducible apply good_foldl; intro xA yA hX)
    | (with_reducible apply good_foldl1; intro xA yA hX)
    | (with_reducible apply good_ite <;> intro hC)
    | with_reducible apply hF
    | with_reducible assumption
    | split
    | (intro xA yA zA hX; with_reducible have hY : Good b0 xA := hX)
    | (intro xA yA hX; with_reducible have hY : Good b0 xA := hX)
    | (intro xA hX; with_reducible have hY : Good b0 xA := hX)
    | with_reducible refine good_mk rfl rfl rfl rfl rfl rfl rfl rfl rfl ?_

theorem good_linkEndInst {s : State} {i : Inst}
    (hG : Good b0 s) : Good b0 (State.linkEndInst s i) := by
  have hF := hG
  unfold State.linkEndInst
  iterate 40 all_goals try first
    | with_reducible apply good_dropLinkMsgs
    | (with_reducible apply good_foldl; intro xA yA hX)
    | (with_reducible apply good_foldl1; intro xA yA hX)
    | (with_reducible apply good_ite <;> intro hC)
    | with_reducible apply hF
    | with_reducible assumption
    | split
    | (intro xA yA zA hX; with_reducible have hY : Good b0 xA := hX)
    | (intro xA yA hX; with_reducible have hY : Good b0 xA := hX)
    | (intro xA hX; with_reducible have hY : Good b0 xA := hX)
    | with_reducible refine good_mk rfl rfl rfl rfl rfl rfl rfl rfl rfl ?_

theorem good_endInst {s : State} {id status : Nat} {detail : Word} {tile : Nat} 
    (hG : Good b0 s) : Good b0 (State.endInst s id status detail tile) := by
  have hX := hG
  unfold State.endInst
  iterate 40 all_goals try first
    | with_reducible assumption
    | (extract_lets +onlyGivenNames xG; refine good_cut (A := Good b0 xG) ?_ ?_; all_goals first | (intro hX; clear_value xG) | (unfold xG; clear xG))
    | with_reducible apply good_modTc
    | with_reducible apply good_spmEndInst
    | with_reducible apply good_sendEnd
    | with_reducible apply good_pagerRun
    | with_reducible apply good_ringsEndInst
    | with_reducible apply good_endThread
    | with_reducible apply good_retestGang
    | with_reducible apply good_jobEnded
    | with_reducible apply good_countEnding
    | with_reducible apply good_reportEnding
    | with_reducible apply good_freePrefetch
    | with_reducible apply good_dropRingClaims
    | with_reducible apply good_linkEndInst
    | (with_reducible apply good_foldl; intro xA yA hX)
    | split
    | with_reducible refine good_mk rfl rfl rfl rfl rfl rfl rfl rfl rfl ?_

theorem good_faultInst {s : State} {id tile cause : Nat} 
    (hG : Good b0 s) : Good b0 (State.faultInst s id tile cause) := by
  have hF := hG
  unfold State.faultInst
  iterate 40 all_goals try first
    | with_reducible apply good_endInst
    | with_reducible apply hF

theorem good_logMismatch {s : State} {e : MmEntry} 
    (hG : Good b0 s) : Good b0 (State.logMismatch s e) := by
  have hF := hG
  unfold State.logMismatch
  iterate 40 all_goals try first
    | with_reducible apply hF
    | with_reducible refine good_mk rfl rfl rfl rfl rfl rfl rfl rfl rfl ?_

theorem good_mismatch {s : State} {id k cause layer : Nat} {own peer : DWord} 
    (hG : Good b0 s) : Good b0 (State.mismatch s id k cause layer own peer) := by
  have hF := hG
  unfold State.mismatch
  iterate 40 all_goals try first
    | with_reducible apply good_logEv
    | with_reducible apply good_report
    | with_reducible apply good_endInj
    | with_reducible apply good_modLink
    | with_reducible apply good_takeFree
    | with_reducible apply good_endInst
    | with_reducible apply good_logMismatch
    | with_reducible apply hF
    | split
    | with_reducible refine good_mk rfl rfl rfl rfl rfl rfl rfl rfl rfl ?_

theorem good_countOpen {s : State} {i : Inst}
    (hG : Good b0 s) : Good b0 (State.countOpen s i) := by
  have hF := hG
  unfold State.countOpen
  iterate 40 all_goals try first
    | with_reducible apply good_modStream
    | (with_reducible apply good_foldl; intro xA yA hX)
    | (with_reducible apply good_foldl1; intro xA yA hX)
    | (with_reducible apply good_ite <;> intro hC)
    | with_reducible apply hF
    | with_reducible assumption
    | split
    | (intro xA yA zA hX; with_reducible have hY : Good b0 xA := hX)
    | (intro xA yA hX; with_reducible have hY : Good b0 xA := hX)
    | (intro xA hX; with_reducible have hY : Good b0 xA := hX)
    | with_reducible refine good_mk rfl rfl rfl rfl rfl rfl rfl rfl rfl ?_

theorem good_killLate {s : State} {i : Inst}
    (hG : Good b0 s) : Good b0 (State.killLate s i) := by
  have hF := hG
  unfold State.killLate
  iterate 40 all_goals try first
    | with_reducible apply good_countOpen
    | with_reducible apply good_endInst
    | with_reducible apply good_mismatch
    | (with_reducible apply good_foldl; intro xA yA hX)
    | (with_reducible apply good_foldl1; intro xA yA hX)
    | (with_reducible apply good_ite <;> intro hC)
    | with_reducible apply hF
    | with_reducible assumption
    | split
    | (intro xA yA zA hX; with_reducible have hY : Good b0 xA := hX)
    | (intro xA yA hX; with_reducible have hY : Good b0 xA := hX)
    | (intro xA hX; with_reducible have hY : Good b0 xA := hX)
    | with_reducible refine good_mk rfl rfl rfl rfl rfl rfl rfl rfl rfl ?_

theorem good_settleLate {s : State} {i : Inst}
    (hG : Good b0 s) : Good b0 (State.settleLate s i) := by
  have hF := hG
  unfold State.settleLate
  iterate 40 all_goals try first
    | with_reducible apply good_mismatch
    | with_reducible apply good_killLate
    | (with_reducible apply good_foldl; intro xA yA hX)
    | (with_reducible apply good_foldl1; intro xA yA hX)
    | (with_reducible apply good_ite <;> intro hC)
    | with_reducible apply hF
    | with_reducible assumption
    | split
    | (intro xA yA zA hX; with_reducible have hY : Good b0 xA := hX)
    | (intro xA yA hX; with_reducible have hY : Good b0 xA := hX)
    | (intro xA hX; with_reducible have hY : Good b0 xA := hX)
    | with_reducible refine good_mk rfl rfl rfl rfl rfl rfl rfl rfl rfl ?_

theorem good_settle {s : State} {id : Nat}
    (hG : Good b0 s) : Good b0 (State.settle s id) := by
  have hF := hG
  unfold State.settle
  iterate 40 all_goals try first
    | with_reducible apply good_settleLate
    | with_reducible apply good_sendEnd
    | with_reducible apply good_modInst
    | with_reducible apply good_endInst
    | with_reducible apply good_modLink
    | with_reducible apply good_mismatch
    | (with_reducible apply good_foldl; intro xA yA hX)
    | (with_reducible apply good_foldl1; intro xA yA hX)
    | (with_reducible apply good_ite <;> intro hC)
    | with_reducible apply hF
    | with_reducible assumption
    | split
    | (intro xA yA zA hX; with_reducible have hY : Good b0 xA := hX)
    | (intro xA yA hX; with_reducible have hY : Good b0 xA := hX)
    | (intro xA hX; with_reducible have hY : Good b0 xA := hX)
    | with_reducible refine good_mk rfl rfl rfl rfl rfl rfl rfl rfl rfl ?_

theorem good_takePeer {s : State} {k : Nat} {f : Flit} 
    (hG : Good b0 s) : Good b0 (State.takePeer s k f) := by
  have hF := hG
  unfold State.takePeer
  iterate 40 all_goals try first
    | extract_lets +onlyGivenNames xG
    | with_reducible apply good_modInst
    | with_reducible apply good_settle
    | with_reducible apply hF
    | split

theorem good_closeComparisons {s : State} {k : Nat} 
    (hG : Good b0 s) : Good b0 (State.closeComparisons s k) := by
  have hX := hG
  unfold State.closeComparisons
  iterate 40 all_goals try first
    | with_reducible assumption
    | with_reducible apply good_mismatch
    | (with_reducible apply good_foldl; intro xA yA hX)

theorem good_threadEnded {s : State} {id : Nat} 
    (hG : Good b0 s) : Good b0 (State.threadEnded s id) := by
  have hF := hG
  unfold State.threadEnded
  iterate 40 all_goals try first
    | with_reducible apply good_settle
    | with_reducible apply hF

theorem good_linkUnready {s : State} {k : Nat} 
    (hG : Good b0 s) : Good b0 (State.linkUnready s k) := by
  have hF := hG
  unfold State.linkUnready
  iterate 40 all_goals try first
    | with_reducible apply hF
    | split
    | with_reducible refine good_mk rfl rfl rfl rfl rfl rfl rfl rfl rfl ?_

theorem good_unlink {s : State} {k : Nat} 
    (hG : Good b0 s) : Good b0 (State.unlink s k) := by
  have hF := hG
  unfold State.unlink
  iterate 40 all_goals try first
    | with_reducible apply good_modLink
    | with_reducible apply good_closeComparisons
    | with_reducible apply good_dropLinkMsgs
    | with_reducible apply hF
    | with_reducible refine good_mk rfl rfl rfl rfl rfl rfl rfl rfl rfl ?_

theorem good_linkDown {s : State} {k cause : Nat} 
    (hG : Good b0 s) : Good b0 (State.linkDown s k cause) := by
  have hF := hG
  unfold State.linkDown
  iterate 40 all_goals try first
    | with_reducible apply good_logEv
    | with_reducible apply good_modLink
    | with_reducible apply good_linkUnready
    | with_reducible apply good_unlink
    | with_reducible apply hF
    | split

end Sys2Proof.Laws
end

