-- ==== Sys2Proof/Laws/GoodOperands.lean ====
section
/-! SUPPORT. What every operation and command of Machine/Operands.lean keeps, one lemma each. -/

set_option linter.all false

namespace Sys2Proof.Laws

open Sys2Proof.Machine

variable {b0 : State}

theorem good_recordExc {s : State} {t cause : Nat} {word : Word} {ecc : Nat}
    (hG : Good b0 s) : Good b0 (State.recordExc s t cause word ecc) := by
  have hF := hG
  unfold State.recordExc
  iterate 40 all_goals try first
    | with_reducible apply good_modTc
    | with_reducible apply good_report
    | with_reducible apply good_exclude
    | (with_reducible apply good_foldl; intro xA yA hX)
    | (with_reducible apply good_foldl1; intro xA yA hX)
    | (with_reducible apply good_ite <;> intro hC)
    | with_reducible apply hF
    | with_reducible assumption
    | split
    | (intro xA yA zA hX; with_reducible have hY : Good b0 xA := hX)
    | (intro xA yA hX; with_reducible have hY : Good b0 xA := hX)
    | (intro xA hX; with_reducible have hY : Good b0 xA := hX)
    | with_reducible refine good_mk rfl rfl rfl rfl rfl rfl rfl rfl rfl ?_

theorem good_tcException {s : State} {t id cause : Nat} {word : Word} {ecc : Nat} 
    (hG : Good b0 s) : Good b0 (State.tcException s t id cause word ecc) := by
  have hF := hG
  unfold State.tcException
  iterate 40 all_goals try first
    | with_reducible apply good_modTc
    | with_reducible apply good_report
    | with_reducible apply good_exclude
    | with_reducible apply good_faultInst
    | with_reducible apply good_recordExc
    | (with_reducible apply good_ite <;> intro hC)
    | with_reducible apply hF

theorem good_raiseExc {s : State} {t id : Nat} {env : TEnv} {cause : Nat} {word : Word} {ecc : Nat}
    (hG : Good b0 s) : Good b0 (State.raiseExc s t id env cause word ecc) := by
  have hF := hG
  unfold State.raiseExc
  iterate 40 all_goals try first
    | with_reducible apply good_recordExc
    | with_reducible apply good_tcException
    | (with_reducible apply good_foldl; intro xA yA hX)
    | (with_reducible apply good_foldl1; intro xA yA hX)
    | (with_reducible apply good_ite <;> intro hC)
    | with_reducible apply hF
    | with_reducible assumption
    | split
    | (intro xA yA zA hX; with_reducible have hY : Good b0 xA := hX)
    | (intro xA yA hX; with_reducible have hY : Good b0 xA := hX)
    | (intro xA hX; with_reducible have hY : Good b0 xA := hX)
    | with_reducible refine good_mk rfl rfl rfl rfl rfl rfl rfl rfl rfl ?_

theorem good_issue {s : State} {t : Nat} {env : TEnv} {word : Word} {legal : Bool} {f : State → Tc → Inst → TcRes} (f_g : ∀ x c i, Good b0 x → GoodTc b0 (f x c i))
    (hG : Good b0 s) : Good b0 (State.issue s t env word legal f) := by
  have hF := hG
  unfold State.issue
  iterate 40 all_goals try first
    | extract_lets +onlyGivenNames xG
    | with_reducible apply good_modTc
    | with_reducible apply good_reportEccCorr
    | with_reducible apply good_tcException
    | with_reducible apply good_raiseExc
    | apply f_g
    | (with_reducible apply good_ite <;> intro hC)
    | with_reducible apply hF
    | split
    | with_reducible refine good_of_ok (by assumption) ?_
    | with_reducible refine good_of_done (by assumption) ?_
    | with_reducible refine good_of_exc (by assumption) ?_
    | with_reducible refine good_of_stall (by assumption) ?_

theorem good_issueReg {s : State} {t : Nat} {env : TEnv} {word : Word} {legal : Bool} {f : Tc → Tc} 
    (hG : Good b0 s) : Good b0 (State.issueReg s t env word legal f) := by
  have hX := hG
  unfold State.issueReg
  iterate 40 all_goals try first
    | with_reducible assumption
    | with_reducible apply good_modTc
    | with_reducible apply good_issue
    | with_reducible apply goodTc_ok
    | (intro xA yA zA hX; with_reducible have hY : Good b0 xA := hX)

theorem good_failRes {s : State} {t : Nat} {nR : HErr} 
    (hG : Good b0 s) : GoodTc b0 (failRes s t nR) := by
  have hF := hG
  cases nR <;> unfold failRes
  iterate 40 all_goals try first
    | with_reducible apply good_spmFail
    | with_reducible apply hF
    | with_reducible apply goodTc_exc
    | with_reducible apply goodTc_stall

theorem good_eccRead {s : State} {t : Nat} {env : TEnv} {k : State → TcRes} (k_g : ∀ x, Good b0 x → GoodTc b0 (k x))
    (hG : Good b0 s) : GoodTc b0 (eccRead s t env k) := by
  have hF := hG
  unfold eccRead
  iterate 40 all_goals try first
    | with_reducible apply good_modSpm
    | with_reducible apply good_reportEccCorr
    | apply k_g
    | with_reducible apply hF
    | split
    | with_reducible apply goodTc_exc

theorem good_jobRead {s : State} {t : Nat} {i : Inst} {ecc : Nat} {k : State → TcRes} (g_k : ∀ x, Good b0 x → GoodTc b0 (k x))
    (hG : Good b0 s) : GoodTc b0 (jobRead s t i ecc k) := by
  have hF := hG
  unfold jobRead
  iterate 40 all_goals try first
    | with_reducible apply g_k
    | with_reducible apply good_report
    | with_reducible apply good_faultInst
    | with_reducible apply good_reportEccCorr
    | (with_reducible apply good_foldl; intro xA yA hX)
    | (with_reducible apply good_foldl1; intro xA yA hX)
    | (with_reducible apply good_ite <;> intro hC)
    | with_reducible apply hF
    | with_reducible assumption
    | split
    | with_reducible apply goodTc_ok
    | with_reducible apply goodTc_done
    | with_reducible apply goodTc_exc
    | with_reducible apply goodTc_stall
    | (intro xA yA zA hX; with_reducible have hY : Good b0 xA := hX)
    | (intro xA yA hX; with_reducible have hY : Good b0 xA := hX)
    | (intro xA hX; with_reducible have hY : Good b0 xA := hX)
    | with_reducible refine good_mk rfl rfl rfl rfl rfl rfl rfl rfl rfl ?_

theorem good_viaQueue {s : State} {t : Nat} {i : Inst} {env : TEnv} {k : State → TcRes} (g_k : ∀ x, Good b0 x → GoodTc b0 (k x))
    (hG : Good b0 s) : GoodTc b0 (viaQueue s t i env k) := by
  have hF := hG
  unfold viaQueue
  iterate 40 all_goals try first
    | with_reducible apply g_k
    | with_reducible apply good_jobRead
    | (with_reducible apply good_foldl; intro xA yA hX)
    | (with_reducible apply good_foldl1; intro xA yA hX)
    | (with_reducible apply good_ite <;> intro hC)
    | with_reducible apply hF
    | with_reducible assumption
    | split
    | with_reducible apply goodTc_ok
    | with_reducible apply goodTc_done
    | with_reducible apply goodTc_exc
    | with_reducible apply goodTc_stall
    | (intro xA yA zA hX; with_reducible have hY : Good b0 xA := hX)
    | (intro xA yA hX; with_reducible have hY : Good b0 xA := hX)
    | (intro xA hX; with_reducible have hY : Good b0 xA := hX)
    | with_reducible refine good_mk rfl rfl rfl rfl rfl rfl rfl rfl rfl ?_

theorem good_viaMesh {s : State} {t : Nat} {i : Inst} {env : TEnv} {k : State → TcRes} (g_k : ∀ x, Good b0 x → GoodTc b0 (k x))
    (hG : Good b0 s) : GoodTc b0 (viaMesh s t i env k) := by
  have hF := hG
  unfold viaMesh
  iterate 40 all_goals try first
    | with_reducible apply g_k
    | with_reducible apply good_viaQueue
    | (with_reducible apply good_foldl; intro xA yA hX)
    | (with_reducible apply good_foldl1; intro xA yA hX)
    | (with_reducible apply good_ite <;> intro hC)
    | with_reducible apply hF
    | with_reducible assumption
    | split
    | with_reducible apply goodTc_ok
    | with_reducible apply goodTc_done
    | with_reducible apply goodTc_exc
    | with_reducible apply goodTc_stall
    | (intro xA yA zA hX; with_reducible have hY : Good b0 xA := hX)
    | (intro xA yA hX; with_reducible have hY : Good b0 xA := hX)
    | (intro xA hX; with_reducible have hY : Good b0 xA := hX)
    | with_reducible refine good_mk rfl rfl rfl rfl rfl rfl rfl rfl rfl ?_

theorem good_loadBytes {s : State} {t : Nat} {i : Inst} {h : Half} {o n : Nat} {env : TEnv} {k : State → List Byte → TcRes} (k_g : ∀ x l, Good b0 x → GoodTc b0 (k x l))
    (hG : Good b0 s) : GoodTc b0 (loadBytes s t i h o n env k) := by
  have hX := hG
  unfold loadBytes
  iterate 40 all_goals try first
    | with_reducible assumption
    | with_reducible apply good_modSpm
    | with_reducible apply good_askRestore
    | with_reducible apply good_failRes
    | with_reducible apply good_eccRead
    | apply k_g
    | split
    | with_reducible apply goodTc_stall
    | (intro xA hX; with_reducible have hY : Good b0 xA := hX)

theorem good_gatherBytes {s : State} {t : Nat} {i : Inst} {h : Half} {offs : List Nat} {n : Nat} {env : TEnv} {k : State → List (List Byte) → TcRes} (k_g : ∀ x l, Good b0 x → GoodTc b0 (k x l))
    (hG : Good b0 s) : GoodTc b0 (gatherBytes s t i h offs n env k) := by
  have hX := hG
  unfold gatherBytes
  iterate 40 all_goals try first
    | with_reducible assumption
    | with_reducible apply good_modSpm
    | with_reducible apply good_askRestore
    | with_reducible apply good_failRes
    | with_reducible apply good_eccRead
    | apply k_g
    | (with_reducible apply good_foldl; intro xA yA hX)
    | split
    | with_reducible apply goodTc_stall
    | (intro xA hX; with_reducible have hY : Good b0 xA := hX)

theorem good_storeBytes {s : State} {t : Nat} {i : Inst} {h : Half} {dig : Bool} {o n : Nat} {keep : Nat → Bool} {bs : List Byte} {whole : Bool} {env : TEnv} 
    (hG : Good b0 s) : GoodTc b0 (storeBytes s t i h dig o n keep bs whole env) := by
  have hX := hG
  unfold storeBytes
  iterate 40 all_goals try first
    | with_reducible assumption
    | with_reducible apply good_modTc
    | with_reducible apply good_modSpm
    | with_reducible apply good_askRestore
    | with_reducible apply good_failRes
    | with_reducible apply good_eccRead
    | split
    | with_reducible apply goodTc_ok
    | with_reducible apply goodTc_stall
    | (intro xA hX; with_reducible have hY : Good b0 xA := hX)

end Sys2Proof.Laws
end

