-- ==== Sys2Proof/Laws/GoodUnits.lean ====
section
/-! SUPPORT. What every operation and command of Machine/Units.lean keeps, one lemma each. -/

set_option linter.all false

namespace Sys2Proof.Laws

open Sys2Proof.Machine

variable {b0 : State}

theorem good_finishTicket {s : State} {t u id : Nat} {w : Word} 
    (hG : Good b0 s) : Good b0 (State.finishTicket s t u id w) := by
  have hF := hG
  unfold State.finishTicket
  iterate 40 all_goals try first
    | with_reducible apply good_modTc
    | with_reducible apply hF

theorem good_execHalt {a : RFmt} {s : State} 
    (hG : Good b0 s) : GoodR b0 (execHalt a s) := by
  have hX := hG
  unfold execHalt
  iterate 40 all_goals try first
    | with_reducible assumption
    | with_reducible apply good_modTc
    | with_reducible apply good_pagerRun
    | with_reducible apply good_endThread
    | with_reducible apply good_threadEnded
    | with_reducible apply good_issue
    | with_reducible apply good_next
    | split
    | with_reducible apply goodTc_done
    | with_reducible apply goodTc_exc
    | with_reducible apply goodTc_stall
    | (intro xA yA zA hX; with_reducible have hY : Good b0 xA := hX)

theorem good_execWdarm {a : RFmt} {s : State} 
    (hG : Good b0 s) : GoodR b0 (execWdarm a s) := by
  have hX := hG
  unfold execWdarm
  iterate 40 all_goals try first
    | with_reducible assumption
    | extract_lets +onlyGivenNames xG
    | with_reducible apply good_modTc
    | with_reducible apply good_issue
    | with_reducible apply good_next
    | split
    | with_reducible apply goodTc_ok
    | with_reducible apply goodTc_exc
    | (intro xA yA zA hX; with_reducible have hY : Good b0 xA := hX)

theorem good_execWdkick {a : RFmt} {s : State} 
    (hG : Good b0 s) : GoodR b0 (execWdkick a s) := by
  have hF := hG
  unfold execWdkick
  iterate 40 all_goals try first
    | with_reducible apply good_issueReg
    | with_reducible apply good_next
    | with_reducible apply hF

theorem good_execWdoff {a : RFmt} {s : State} 
    (hG : Good b0 s) : GoodR b0 (execWdoff a s) := by
  have hX := hG
  unfold execWdoff
  iterate 40 all_goals try first
    | with_reducible assumption
    | with_reducible apply good_modTc
    | with_reducible apply good_issue
    | with_reducible apply good_next
    | with_reducible apply goodTc_ok
    | (intro xA yA zA hX; with_reducible have hY : Good b0 xA := hX)

theorem good_execAlloc {a : RFmt} {s : State}
    (hG : Good b0 s) : GoodR b0 (execAlloc a s) := by
  have hF := hG
  unfold execAlloc
  iterate 40 all_goals try first
    | with_reducible apply good_issue
    | with_reducible apply good_viaMesh
    | with_reducible apply good_modSpm
    | with_reducible apply good_modTc
    | with_reducible apply good_next
    | (with_reducible apply good_foldl; intro xA yA hX)
    | (with_reducible apply good_foldl1; intro xA yA hX)
    | (with_reducible apply good_ite <;> intro hC)
    | with_reducible apply hF
    | with_reducible assumption
    | split
    | with_reducible apply goodTc_ok
    | with_reducible apply goodTc_done
    | with_reducible apply goodTc_exc
    | with_reducible apply goodTc_stall
    | (intro xA yA zA hX; with_reducible have hY : Good b0 xA := hX)
    | (intro xA yA hX; with_reducible have hY : Good b0 xA := hX)
    | (intro xA hX; with_reducible have hY : Good b0 xA := hX)
    | with_reducible refine good_mk rfl rfl rfl rfl rfl rfl rfl rfl rfl ?_

theorem good_execFree {a : RFmt} {s : State}
    (hG : Good b0 s) : GoodR b0 (execFree a s) := by
  have hX := hG
  unfold execFree
  iterate 40 all_goals try first
    | with_reducible assumption
    | extract_lets +onlyGivenNames xG
    | with_reducible apply good_issue
    | with_reducible apply good_viaMesh
    | with_reducible apply good_endEntries
    | with_reducible apply good_spmFail
    | with_reducible apply good_next
    | (with_reducible apply good_foldl; intro xA yA hX)
    | (with_reducible apply good_foldl1; intro xA yA hX)
    | split
    | with_reducible apply goodTc_ok
    | with_reducible apply goodTc_done
    | with_reducible apply goodTc_exc
    | with_reducible apply goodTc_stall
    | (intro xA yA zA hX; with_reducible have hY : Good b0 xA := hX)
    | (intro xA yA hX; with_reducible have hY : Good b0 xA := hX)
    | (intro xA hX; with_reducible have hY : Good b0 xA := hX)
    | with_reducible refine good_mk rfl rfl rfl rfl rfl rfl rfl rfl rfl ?_

theorem good_dropPrefetch {s : State} {i : Inst} {layer : Nat} 
    (hG : Good b0 s) : Good b0 (State.dropPrefetch s i layer) := by
  have hF := hG
  unfold State.dropPrefetch
  iterate 40 all_goals try first
    | with_reducible apply hF
    | with_reducible refine good_mk rfl rfl rfl rfl rfl rfl rfl rfl rfl ?_

theorem good_execPagerSub {a : RFmt} {s : State} 
    (hG : Good b0 s) : GoodR b0 (execPagerSub a s) := by
  have hX := hG
  unfold execPagerSub
  iterate 40 all_goals try first
    | with_reducible assumption
    | extract_lets +onlyGivenNames xG
    | with_reducible apply good_modTc
    | with_reducible apply good_modBow
    | with_reducible apply good_pagerRun
    | with_reducible apply good_faultInst
    | with_reducible apply good_issue
    | with_reducible apply good_dropPrefetch
    | with_reducible apply good_next
    | split
    | with_reducible apply goodTc_ok
    | with_reducible apply goodTc_done
    | (intro xA yA zA hX; with_reducible have hY : Good b0 xA := hX)

theorem good_execRetire {a : RFmt} {s : State} 
    (hG : Good b0 s) : GoodR b0 (execRetire a s) := by
  have hX := hG
  unfold execRetire
  iterate 40 all_goals try first
    | with_reducible assumption
    | with_reducible apply good_modBow
    | with_reducible apply good_issue
    | with_reducible apply good_next
    | split
    | with_reducible apply goodTc_ok
    | (intro xA yA zA hX; with_reducible have hY : Good b0 xA := hX)

theorem good_execAdv {a : RFmt} {s : State} 
    (hG : Good b0 s) : GoodR b0 (execAdv a s) := by
  have hX := hG
  unfold execAdv
  iterate 40 all_goals try first
    | with_reducible assumption
    | with_reducible apply good_modBow
    | with_reducible apply good_pagerRun
    | with_reducible apply good_issue
    | with_reducible apply good_next
    | split
    | with_reducible apply goodTc_ok
    | (intro xA yA zA hX; with_reducible have hY : Good b0 xA := hX)

theorem good_queueRead {s : State} {t : Nat} {i : Inst} {env : TEnv} {rd : BitVec 5} {src : Option Nat} {len : Nat} {h : Half} {off : Nat}
    (hG : Good b0 s) : GoodTc b0 (queueRead s t i env rd src len h off) := by
  have hX := hG
  unfold queueRead
  iterate 40 all_goals try first
    | with_reducible assumption
    | extract_lets +onlyGivenNames xG
    | with_reducible apply good_modTc
    | with_reducible apply good_viaMesh
    | with_reducible apply good_notePeak
    | (with_reducible apply good_foldl; intro xA yA hX)
    | (with_reducible apply good_foldl1; intro xA yA hX)
    | split
    | with_reducible apply goodTc_ok
    | with_reducible apply goodTc_done
    | with_reducible apply goodTc_exc
    | with_reducible apply goodTc_stall
    | (intro xA yA zA hX; with_reducible have hY : Good b0 xA := hX)
    | (intro xA yA hX; with_reducible have hY : Good b0 xA := hX)
    | (intro xA hX; with_reducible have hY : Good b0 xA := hX)
    | with_reducible refine good_mk rfl rfl rfl rfl rfl rfl rfl rfl rfl ?_

theorem good_execPread {a : RFmt} {s : State} 
    (hG : Good b0 s) : GoodR b0 (execPread a s) := by
  have hX := hG
  unfold execPread
  iterate 40 all_goals try first
    | with_reducible assumption
    | with_reducible apply good_issue
    | with_reducible apply good_queueRead
    | with_reducible apply good_next
    | (intro xA yA zA hX; with_reducible have hY : Good b0 xA := hX)

theorem good_execHread {a : RFmt} {s : State} 
    (hG : Good b0 s) : GoodR b0 (execHread a s) := by
  have hX := hG
  unfold execHread
  iterate 40 all_goals try first
    | with_reducible assumption
    | with_reducible apply good_issue
    | with_reducible apply good_queueRead
    | with_reducible apply good_next
    | (intro xA yA zA hX; with_reducible have hY : Good b0 xA := hX)

theorem good_execApass {a : RFmt} {s : State}
    (hG : Good b0 s) : GoodR b0 (execApass a s) := by
  have hF := hG
  unfold execApass
  iterate 40 all_goals try first
    | with_reducible apply good_issue
    | with_reducible apply good_viaQueue
    | with_reducible apply good_modTc
    | with_reducible apply good_modArr
    | with_reducible apply good_next
    | (with_reducible apply good_foldl; intro xA yA hX)
    | (with_reducible apply good_foldl1; intro xA yA hX)
    | (with_reducible apply good_ite <;> intro hC)
    | with_reducible apply hF
    | with_reducible assumption
    | split
    | with_reducible apply goodTc_ok
    | with_reducible apply goodTc_done
    | with_reducible apply goodTc_exc
    | with_reducible apply goodTc_stall
    | (intro xA yA zA hX; with_reducible have hY : Good b0 xA := hX)
    | (intro xA yA hX; with_reducible have hY : Good b0 xA := hX)
    | (intro xA hX; with_reducible have hY : Good b0 xA := hX)
    | with_reducible refine good_mk rfl rfl rfl rfl rfl rfl rfl rfl rfl ?_

theorem good_execMop {a : RFmt} {s : State}
    (hG : Good b0 s) : GoodR b0 (execMop a s) := by
  have hF := hG
  unfold execMop
  iterate 40 all_goals try first
    | with_reducible apply good_issue
    | with_reducible apply good_viaQueue
    | with_reducible apply good_modTc
    | with_reducible apply good_modSpm
    | with_reducible apply good_next
    | (with_reducible apply good_foldl; intro xA yA hX)
    | (with_reducible apply good_foldl1; intro xA yA hX)
    | (with_reducible apply good_ite <;> intro hC)
    | with_reducible apply hF
    | with_reducible assumption
    | split
    | with_reducible apply goodTc_ok
    | with_reducible apply goodTc_done
    | with_reducible apply goodTc_exc
    | with_reducible apply goodTc_stall
    | (intro xA yA zA hX; with_reducible have hY : Good b0 xA := hX)
    | (intro xA yA hX; with_reducible have hY : Good b0 xA := hX)
    | (intro xA hX; with_reducible have hY : Good b0 xA := hX)
    | with_reducible refine good_mk rfl rfl rfl rfl rfl rfl rfl rfl rfl ?_

theorem good_execWaitc {a : RFmt} {s : State} 
    (hG : Good b0 s) : GoodR b0 (execWaitc a s) := by
  have hX := hG
  unfold execWaitc
  iterate 40 all_goals try first
    | with_reducible assumption
    | extract_lets +onlyGivenNames xG
    | with_reducible apply good_modTc
    | with_reducible apply good_issue
    | with_reducible apply good_next
    | split
    | with_reducible apply goodTc_ok
    | with_reducible apply goodTc_exc
    | with_reducible apply goodTc_stall
    | (intro xA yA zA hX; with_reducible have hY : Good b0 xA := hX)

theorem good_execClaim {a : RFmt} {s : State} 
    (hG : Good b0 s) : GoodR b0 (execClaim a s) := by
  have hX := hG
  unfold execClaim
  iterate 40 all_goals try first
    | with_reducible assumption
    | with_reducible apply good_modTc
    | with_reducible apply good_issue
    | with_reducible apply good_next
    | split
    | with_reducible apply goodTc_ok
    | with_reducible apply goodTc_stall
    | (intro xA yA zA hX; with_reducible have hY : Good b0 xA := hX)

theorem good_cvCmd {a : RFmt} {fn : BitVec 11} {legal : Bool} {f : State → Tc → Nat → Tc} {s : State} 
    (hG : Good b0 s) : GoodR b0 (cvCmd a fn legal f s) := by
  have hX := hG
  unfold cvCmd
  iterate 40 all_goals try first
    | with_reducible assumption
    | with_reducible apply good_modTc
    | with_reducible apply good_issue
    | with_reducible apply good_next
    | split
    | with_reducible apply goodTc_ok
    | with_reducible apply goodTc_exc
    | (intro xA yA zA hX; with_reducible have hY : Good b0 xA := hX)

theorem good_execInit {a : RFmt} {s : State} 
    (hG : Good b0 s) : GoodR b0 (execInit a s) := by
  have hF := hG
  unfold execInit
  iterate 40 all_goals try first
    | with_reducible apply good_cvCmd
    | with_reducible apply hF

theorem good_cvFeedCmd {a : RFmt} {fn : BitVec 11} {legal : Bool} {data : Tc → List Byte} {s : State} 
    (hG : Good b0 s) : GoodR b0 (cvFeedCmd a fn legal data s) := by
  have hF := hG
  unfold cvFeedCmd
  iterate 40 all_goals try first
    | with_reducible apply good_cvCmd
    | with_reducible apply hF

theorem good_execFeedb {a : RFmt} {s : State} 
    (hG : Good b0 s) : GoodR b0 (execFeedb a s) := by
  have hF := hG
  unfold execFeedb
  iterate 40 all_goals try first
    | with_reducible apply good_cvFeedCmd
    | with_reducible apply hF

theorem good_execFeedh {a : RFmt} {s : State} 
    (hG : Good b0 s) : GoodR b0 (execFeedh a s) := by
  have hF := hG
  unfold execFeedh
  iterate 40 all_goals try first
    | with_reducible apply good_cvFeedCmd
    | with_reducible apply hF

theorem good_execFeedw {a : RFmt} {s : State} 
    (hG : Good b0 s) : GoodR b0 (execFeedw a s) := by
  have hF := hG
  unfold execFeedw
  iterate 40 all_goals try first
    | with_reducible apply good_cvFeedCmd
    | with_reducible apply hF

theorem good_execFeedv {a : RFmt} {s : State} 
    (hG : Good b0 s) : GoodR b0 (execFeedv a s) := by
  have hF := hG
  unfold execFeedv
  iterate 40 all_goals try first
    | with_reducible apply good_cvFeedCmd
    | with_reducible apply hF

theorem good_execCvRead {a : RFmt} {s : State} 
    (hG : Good b0 s) : GoodR b0 (execCvRead a s) := by
  have hF := hG
  unfold execCvRead
  iterate 40 all_goals try first
    | with_reducible apply good_cvCmd
    | with_reducible apply hF

theorem good_execCvRelease {a : RFmt} {s : State} 
    (hG : Good b0 s) : GoodR b0 (execCvRelease a s) := by
  have hF := hG
  unfold execCvRelease
  iterate 40 all_goals try first
    | with_reducible apply good_issueReg
    | with_reducible apply good_next
    | with_reducible apply hF

theorem good_execDopen {a : RFmt} {s : State} 
    (hG : Good b0 s) : GoodR b0 (execDopen a s) := by
  have hX := hG
  unfold execDopen
  iterate 40 all_goals try first
    | with_reducible assumption
    | extract_lets +onlyGivenNames xG
    | with_reducible apply good_modTc
    | with_reducible apply good_modInst
    | with_reducible apply good_issue
    | with_reducible apply good_next
    | split
    | with_reducible apply goodTc_ok
    | with_reducible apply goodTc_exc
    | (intro xA yA zA hX; with_reducible have hY : Good b0 xA := hX)

theorem good_captureTile {s : State} {i : Inst} {layer t : Nat} {d : DWord} 
    (hG : Good b0 s) : Good b0 (State.captureTile s i layer t d) := by
  have hF := hG
  unfold State.captureTile
  iterate 40 all_goals try first
    | with_reducible apply hF
    | split
    | with_reducible refine good_mk rfl rfl rfl rfl rfl rfl rfl rfl rfl ?_

theorem good_captureLayer {s : State} {i : Inst} {layer : Nat} {d : DWord} 
    (hG : Good b0 s) : Good b0 (State.captureLayer s i layer d) := by
  have hF := hG
  unfold State.captureLayer
  iterate 40 all_goals try first
    | with_reducible apply hF
    | split
    | with_reducible refine good_mk rfl rfl rfl rfl rfl rfl rfl rfl rfl ?_

theorem good_injectDigest {s : State} {t : Nat} {i : Inst} {d : DWord} 
    (hG : Good b0 s) : Good b0 (State.injectDigest s t i d).2 := by
  have hF := hG
  unfold State.injectDigest
  iterate 40 all_goals try first
    | with_reducible apply good_applyInj
    | (with_reducible apply good_ite2 <;> intro hC)
    | with_reducible apply hF
    | split
    | with_reducible refine good_mk rfl rfl rfl rfl rfl rfl rfl rfl rfl ?_

theorem good_closeLayer {s : State} {t id layer : Nat} {dig : Option DWord} 
    (hG : Good b0 s) : Good b0 (State.closeLayer s t id layer dig) := by
  have hF := hG
  unfold State.closeLayer
  iterate 40 all_goals try first
    | with_reducible apply good_modInst
    | with_reducible apply good_sendDigest
    | with_reducible apply good_settle
    | with_reducible apply good_captureTile
    | with_reducible apply good_captureLayer
    | with_reducible apply good_injectDigest
    | with_reducible apply hF
    | split
    | with_reducible refine good_snd (by assumption) ?_
    | with_reducible refine good_mk rfl rfl rfl rfl rfl rfl rfl rfl rfl ?_

theorem good_execDclose {a : RFmt} {s : State} 
    (hG : Good b0 s) : GoodR b0 (execDclose a s) := by
  have hX := hG
  unfold execDclose
  iterate 40 all_goals try first
    | with_reducible assumption
    | extract_lets +onlyGivenNames xG
    | with_reducible apply good_modTc
    | with_reducible apply good_issue
    | with_reducible apply good_closeLayer
    | with_reducible apply good_next
    | split
    | with_reducible apply goodTc_done
    | with_reducible apply goodTc_exc
    | with_reducible apply goodTc_stall
    | (intro xA yA zA hX; with_reducible have hY : Good b0 xA := hX)

theorem good_execDreadl {a : RFmt} {s : State} 
    (hG : Good b0 s) : GoodR b0 (execDreadl a s) := by
  have hF := hG
  unfold execDreadl
  iterate 40 all_goals try first
    | with_reducible apply good_issueReg
    | with_reducible apply good_next
    | with_reducible apply hF

theorem good_execDreadh {a : RFmt} {s : State} 
    (hG : Good b0 s) : GoodR b0 (execDreadh a s) := by
  have hF := hG
  unfold execDreadh
  iterate 40 all_goals try first
    | with_reducible apply good_issueReg
    | with_reducible apply good_next
    | with_reducible apply hF

theorem good_askRing {s : State} {q : RecReq}
    (hG : Good b0 s) : Good b0 (State.askRing s q) := by
  have hF := hG
  unfold State.askRing
  iterate 40 all_goals try first
    | with_reducible apply good_modTc
    | (with_reducible apply good_foldl; intro xA yA hX)
    | (with_reducible apply good_foldl1; intro xA yA hX)
    | (with_reducible apply good_ite <;> intro hC)
    | with_reducible apply hF
    | with_reducible assumption
    | split
    | (intro xA yA zA hX; with_reducible have hY : Good b0 xA := hX)
    | (intro xA yA hX; with_reducible have hY : Good b0 xA := hX)
    | (intro xA hX; with_reducible have hY : Good b0 xA := hX)
    | with_reducible refine good_mk rfl rfl rfl rfl rfl rfl rfl rfl rfl ?_

theorem good_notePeakRpub {s : State}
    (hG : Good b0 s) : Good b0 (State.notePeakRpub s) := by
  have hF := hG
  unfold State.notePeakRpub
  iterate 40 all_goals try first
    | (with_reducible apply good_foldl; intro xA yA hX)
    | (with_reducible apply good_foldl1; intro xA yA hX)
    | (with_reducible apply good_ite <;> intro hC)
    | with_reducible apply hF
    | with_reducible assumption
    | split
    | (intro xA yA zA hX; with_reducible have hY : Good b0 xA := hX)
    | (intro xA yA hX; with_reducible have hY : Good b0 xA := hX)
    | (intro xA hX; with_reducible have hY : Good b0 xA := hX)
    | with_reducible refine good_mk rfl rfl rfl rfl rfl rfl rfl rfl rfl ?_

theorem good_sendRpub {s : State} {q : RecReq}
    (hG : Good b0 s) : Good b0 (State.sendRpub s q) := by
  have hF := hG
  unfold State.sendRpub
  iterate 40 all_goals try first
    | with_reducible apply good_askRing
    | with_reducible apply good_notePeakRpub
    | (with_reducible apply good_foldl; intro xA yA hX)
    | (with_reducible apply good_foldl1; intro xA yA hX)
    | (with_reducible apply good_ite <;> intro hC)
    | with_reducible apply hF
    | with_reducible assumption
    | split
    | (intro xA yA zA hX; with_reducible have hY : Good b0 xA := hX)
    | (intro xA yA hX; with_reducible have hY : Good b0 xA := hX)
    | (intro xA hX; with_reducible have hY : Good b0 xA := hX)
    | with_reducible refine good_mk rfl rfl rfl rfl rfl rfl rfl rfl rfl ?_

theorem good_execRpub {a : RFmt} {s : State} 
    (hG : Good b0 s) : GoodR b0 (execRpub a s) := by
  have hX := hG
  unfold execRpub
  iterate 40 all_goals try first
    | with_reducible assumption
    | extract_lets +onlyGivenNames xG
    | with_reducible apply good_modTc
    | with_reducible apply good_issue
    | with_reducible apply good_loadBytes
    | with_reducible apply good_sendRpub
    | with_reducible apply good_next
    | split
    | with_reducible apply goodTc_ok
    | with_reducible apply goodTc_exc
    | with_reducible apply goodTc_stall
    | (intro xA yA zA hX; with_reducible have hY : Good b0 xA := hX)
    | (intro xA yA hX; with_reducible have hY : Good b0 xA := hX)
    | with_reducible refine good_mk rfl rfl rfl rfl rfl rfl rfl rfl rfl ?_

theorem good_execSend {a : RFmt} {s : State}
    (hG : Good b0 s) : GoodR b0 (execSend a s) := by
  have hX := hG
  unfold execSend
  iterate 40 all_goals try first
    | with_reducible assumption
    | extract_lets +onlyGivenNames xG
    | with_reducible apply good_issue
    | with_reducible apply good_viaMesh
    | with_reducible apply good_next
    | (with_reducible apply good_foldl; intro xA yA hX)
    | (with_reducible apply good_foldl1; intro xA yA hX)
    | split
    | with_reducible apply goodTc_ok
    | with_reducible apply goodTc_done
    | with_reducible apply goodTc_exc
    | with_reducible apply goodTc_stall
    | (intro xA yA zA hX; with_reducible have hY : Good b0 xA := hX)
    | (intro xA yA hX; with_reducible have hY : Good b0 xA := hX)
    | (intro xA hX; with_reducible have hY : Good b0 xA := hX)
    | with_reducible refine good_mk rfl rfl rfl rfl rfl rfl rfl rfl rfl ?_

theorem good_execRecv {a : RFmt} {s : State}
    (hG : Good b0 s) : GoodR b0 (execRecv a s) := by
  have hX := hG
  unfold execRecv
  iterate 40 all_goals try first
    | with_reducible assumption
    | extract_lets +onlyGivenNames xG
    | with_reducible apply good_issue
    | with_reducible apply good_jobRead
    | with_reducible apply good_modTc
    | with_reducible apply good_next
    | (with_reducible apply good_foldl; intro xA yA hX)
    | (with_reducible apply good_foldl1; intro xA yA hX)
    | split
    | with_reducible apply goodTc_ok
    | with_reducible apply goodTc_done
    | with_reducible apply goodTc_exc
    | with_reducible apply goodTc_stall
    | (intro xA yA zA hX; with_reducible have hY : Good b0 xA := hX)
    | (intro xA yA hX; with_reducible have hY : Good b0 xA := hX)
    | (intro xA hX; with_reducible have hY : Good b0 xA := hX)
    | with_reducible refine good_mk rfl rfl rfl rfl rfl rfl rfl rfl rfl ?_

theorem good_execMcount {a : RFmt} {s : State} 
    (hG : Good b0 s) : GoodR b0 (execMcount a s) := by
  have hX := hG
  unfold execMcount
  iterate 40 all_goals try first
    | with_reducible assumption
    | with_reducible apply good_modTc
    | with_reducible apply good_issue
    | with_reducible apply good_next
    | with_reducible apply goodTc_ok
    | (intro xA yA zA hX; with_reducible have hY : Good b0 xA := hX)

theorem good_execRldv {a : RFmt} {s : State} 
    (hG : Good b0 s) : GoodR b0 (execRldv a s) := by
  have hX := hG
  unfold execRldv
  iterate 40 all_goals try first
    | with_reducible assumption
    | extract_lets +onlyGivenNames xG
    | with_reducible apply good_modTc
    | with_reducible apply good_modSpm
    | with_reducible apply good_issue
    | with_reducible apply good_failRes
    | with_reducible apply good_eccRead
    | with_reducible apply good_next
    | split
    | with_reducible apply goodTc_ok
    | with_reducible apply goodTc_exc
    | with_reducible apply goodTc_stall
    | (intro xA yA zA hX; with_reducible have hY : Good b0 xA := hX)
    | (intro xA hX; with_reducible have hY : Good b0 xA := hX)

theorem good_execRstv {a : RFmt} {s : State} 
    (hG : Good b0 s) : GoodR b0 (execRstv a s) := by
  have hX := hG
  unfold execRstv
  iterate 40 all_goals try first
    | with_reducible assumption
    | extract_lets +onlyGivenNames xG
    | with_reducible apply good_modSpm
    | with_reducible apply good_issue
    | with_reducible apply good_failRes
    | with_reducible apply good_next
    | split
    | with_reducible apply goodTc_ok
    | with_reducible apply goodTc_exc
    | with_reducible apply goodTc_stall
    | (intro xA yA zA hX; with_reducible have hY : Good b0 xA := hX)

theorem good_execGen {a : RFmt} {s : State} 
    (hG : Good b0 s) : GoodR b0 (execGen a s) := by
  have hX := hG
  unfold execGen
  iterate 40 all_goals try first
    | with_reducible assumption
    | with_reducible apply good_modTc
    | with_reducible apply good_spmFail
    | with_reducible apply good_issue
    | with_reducible apply good_next
    | split
    | with_reducible apply goodTc_ok
    | with_reducible apply goodTc_exc
    | (intro xA yA zA hX; with_reducible have hY : Good b0 xA := hX)

end Sys2Proof.Laws
end

