-- ==== Sys2Proof/Laws/GoodPagerEv.lean ====
section
/-! SUPPORT. What every operation and command of Machine/PagerEv.lean keeps, one lemma each. -/

set_option linter.all false

namespace Sys2Proof.Laws

open Sys2Proof.Machine

variable {b0 : State}

theorem good_poisonPage {s : State} {net page : Nat} 
    (hG : Good b0 s) : Good b0 (State.poisonPage s net page) := by
  have hX := hG
  unfold State.poisonPage
  iterate 40 all_goals try first
    | with_reducible assumption
    | with_reducible apply good_report
    | with_reducible apply good_faultInst
    | (with_reducible apply good_foldl; intro xA yA hX)
    | with_reducible refine good_mk rfl rfl rfl rfl rfl rfl rfl rfl rfl ?_

theorem good_sendPage {s : State} {k net page : Nat} {poisoned : Bool} {data : List Byte} 
    (hG : Good b0 s) : Good b0 (State.sendPage s k net page poisoned data) := by
  have hX := hG
  unfold State.sendPage
  iterate 40 all_goals try first
    | with_reducible assumption
    | with_reducible apply good_modLink
    | with_reducible apply good_sendFlit
    | (with_reducible apply good_foldl; intro xA yA hX)
    | split

theorem good_modStaging {s : State} {f : List Staged → List Staged} 
    (hG : Good b0 s) : Good b0 (State.modStaging s f) := by
  have hF := hG
  unfold State.modStaging
  iterate 40 all_goals try first
    | with_reducible apply hF
    | with_reducible refine good_mk rfl rfl rfl rfl rfl rfl rfl rfl rfl ?_

theorem good_stagePage {s : State} {e : Staged} {data : List Byte} {good fromDram : Bool} 
    (hG : Good b0 s) : Good b0 (State.stagePage s e data good fromDram) := by
  have hF := hG
  unfold State.stagePage
  iterate 40 all_goals try first
    | with_reducible apply good_pagerRun
    | with_reducible apply good_poisonPage
    | with_reducible apply good_sendPage
    | with_reducible apply good_modStaging
    | with_reducible apply hF
    | split
    | with_reducible refine good_mk rfl rfl rfl rfl rfl rfl rfl rfl rfl ?_

theorem good_dataBusy {s : State} {n : Nat} 
    (hG : Good b0 s) : Good b0 (State.dataBusy s n) := by
  have hF := hG
  unfold State.dataBusy
  iterate 40 all_goals try first
    | with_reducible apply hF
    | with_reducible refine good_mk rfl rfl rfl rfl rfl rfl rfl rfl rfl ?_

theorem good_execPageStaged {net page busy : Nat} {damaged : Bool} {s : State} 
    (hG : Good b0 s) : GoodR b0 (execPageStaged net page busy damaged s) := by
  have hF := hG
  unfold execPageStaged
  iterate 40 all_goals try first
    | with_reducible apply good_stagePage
    | with_reducible apply good_dataBusy
    | with_reducible apply good_next
    | with_reducible apply hF
    | split

theorem good_execPageInject {net page : Nat} {s : State} 
    (hG : Good b0 s) : GoodR b0 (execPageInject net page s) := by
  have hX := hG
  unfold execPageInject
  iterate 40 all_goals try first
    | with_reducible assumption
    | with_reducible apply good_modBow
    | with_reducible apply good_pagerRun
    | with_reducible apply good_modStaging
    | with_reducible apply good_next
    | (with_reducible apply good_foldl; intro xA yA hX)
    | split
    | with_reducible refine good_mk rfl rfl rfl rfl rfl rfl rfl rfl rfl ?_

theorem good_laneErrors {s : State} {tile : Nat} {lane : LaneIn}
    (hG : Good b0 s) : Good b0 (State.laneErrors s tile lane) := by
  have hF := hG
  unfold State.laneErrors
  iterate 40 all_goals try first
    | with_reducible apply good_modBow
    | with_reducible apply good_reportEccCorr
    | with_reducible apply good_report
    | (with_reducible apply good_foldl; intro xA yA hX)
    | (with_reducible apply good_foldl1; intro xA yA hX)
    | (with_reducible apply good_ite <;> intro hC)
    | with_reducible apply hF
    | with_reducible assumption
    | split
    | (intro xA yA zA hX; with_reducible have hY : Good b0 xA := hX)
    | (intro xA yA hX; with_reducible have hY : Good b0 xA := hX)
    | (intro xA hX; with_reducible have hY : Good b0 xA := hX)
    | with_reducible refine good_mk rfl rfl rfl rfl rfl rfl rfl rfl rfl ?_

theorem good_markOnward {s : State} {tile net page : Nat} {lane : LaneIn}
    (hG : Good b0 s) : Good b0 (State.markOnward s tile net page lane) := by
  have hF := hG
  unfold State.markOnward
  iterate 40 all_goals try first
    | (with_reducible apply good_foldl; intro xA yA hX)
    | (with_reducible apply good_foldl1; intro xA yA hX)
    | (with_reducible apply good_ite <;> intro hC)
    | with_reducible apply hF
    | with_reducible assumption
    | split
    | (intro xA yA zA hX; with_reducible have hY : Good b0 xA := hX)
    | (intro xA yA hX; with_reducible have hY : Good b0 xA := hX)
    | (intro xA hX; with_reducible have hY : Good b0 xA := hX)
    | with_reducible refine good_mk rfl rfl rfl rfl rfl rfl rfl rfl rfl ?_

theorem good_execPageUsable {tile net page : Nat} {lane : LaneIn} {s : State} 
    (hG : Good b0 s) : GoodR b0 (execPageUsable tile net page lane s) := by
  have hX := hG
  have hF := hG
  unfold execPageUsable
  iterate 40 all_goals try first
    | (extract_lets +onlyGivenNames xG; refine good_cut (A := Good b0 xG) ?_ ?_; all_goals first | (intro hX; clear_value xG) | (unfold xG; clear xG))
    | with_reducible apply good_modBow
    | with_reducible apply good_report
    | with_reducible apply good_reportEccCorr
    | with_reducible apply good_exclude
    | with_reducible apply good_laneErrors
    | with_reducible apply good_markOnward
    | with_reducible apply good_next
    | with_reducible apply hF
    | split
    | with_reducible refine good_mk rfl rfl rfl rfl rfl rfl rfl rfl rfl ?_

theorem good_execPageFree {tile page : Nat} {next : Bool} {s : State} 
    (hG : Good b0 s) : GoodR b0 (execPageFree tile page next s) := by
  have hF := hG
  unfold execPageFree
  iterate 40 all_goals try first
    | with_reducible apply good_modArr
    | with_reducible apply good_modBow
    | with_reducible apply good_pagerRun
    | with_reducible apply good_next
    | with_reducible apply hF
    | split

theorem good_execPartReadDone {tile busy : Nat} {s : State} 
    (hG : Good b0 s) : GoodR b0 (execPartReadDone tile busy s) := by
  have hF := hG
  unfold execPartReadDone
  iterate 40 all_goals try first
    | with_reducible apply good_modTc
    | with_reducible apply good_modSpm
    | with_reducible apply good_askRestore
    | with_reducible apply good_finishTicket
    | with_reducible apply good_dataBusy
    | with_reducible apply good_next
    | with_reducible apply hF
    | split
    | with_reducible refine good_mk rfl rfl rfl rfl rfl rfl rfl rfl rfl ?_

theorem good_execDramRefresh {chan hits : Nat} {s : State} 
    (hG : Good b0 s) : GoodR b0 (execDramRefresh chan hits s) := by
  have hF := hG
  unfold execDramRefresh
  iterate 40 all_goals try first
    | with_reducible apply good_next
    | with_reducible apply hF
    | split
    | with_reducible refine good_mk rfl rfl rfl rfl rfl rfl rfl rfl rfl ?_

theorem good_execRefresh2xChange {on : Bool} {s : State} 
    (hG : Good b0 s) : GoodR b0 (execRefresh2xChange on s) := by
  have hF := hG
  unfold execRefresh2xChange
  iterate 40 all_goals try first
    | with_reducible apply good_next
    | with_reducible apply hF
    | with_reducible refine good_mk rfl rfl rfl rfl rfl rfl rfl rfl rfl ?_

theorem good_failRead {s : State} {tile : Nat} 
    (hG : Good b0 s) : Good b0 (State.failRead s tile) := by
  have hF := hG
  unfold State.failRead
  iterate 40 all_goals try first
    | with_reducible apply good_faultInst
    | with_reducible apply hF
    | split

theorem good_failRestore {s : State} {tile : Nat} 
    (hG : Good b0 s) : Good b0 (State.failRestore s tile) := by
  have hF := hG
  unfold State.failRestore
  iterate 40 all_goals try first
    | with_reducible apply good_faultInst
    | with_reducible apply hF
    | split

theorem good_execDramUncorrError {who : DramClient} {s : State} 
    (hG : Good b0 s) : GoodR b0 (execDramUncorrError who s) := by
  have hF := hG
  unfold execDramUncorrError
  iterate 40 all_goals try first
    | with_reducible apply good_report
    | with_reducible apply good_modFrame
    | with_reducible apply good_hdmaStop
    | with_reducible apply good_modStaging
    | with_reducible apply good_failRead
    | with_reducible apply good_failRestore
    | with_reducible apply good_next
    | with_reducible apply hF
    | split
    | with_reducible refine good_mk rfl rfl rfl rfl rfl rfl rfl rfl rfl ?_

theorem good_prefetch {s : State} {jobs : List JobCfg} 
    (hG : Good b0 s) : Good b0 (State.prefetch s jobs) := by
  have hX := hG
  unfold State.prefetch
  iterate 40 all_goals try first
    | with_reducible assumption
    | (with_reducible apply good_foldl; intro xA yA hX)
    | split
    | with_reducible refine good_mk rfl rfl rfl rfl rfl rfl rfl rfl rfl ?_

theorem good_emptyPager {s : State} 
    (hG : Good b0 s) : Good b0 (State.emptyPager s) := by
  have hF := hG
  unfold State.emptyPager
  iterate 40 all_goals try first
    | with_reducible apply hF
    | with_reducible refine good_mk rfl rfl rfl rfl rfl rfl rfl rfl rfl ?_

end Sys2Proof.Laws
end

