-- ==== Sys2Proof/Laws/GoodRings.lean ====
section
/-! SUPPORT. What every operation and command of Machine/Rings.lean keeps, one lemma each. -/

set_option linter.all false

namespace Sys2Proof.Laws

open Sys2Proof.Machine

variable {b0 : State}

theorem good_reportLoss {s : State} {k : Nat} 
    (hG : Good b0 s) : Good b0 (State.reportLoss s k) := by
  have hF := hG
  unfold State.reportLoss
  iterate 40 all_goals try first
    | with_reducible apply good_report
    | with_reducible apply hF
    | split

theorem good_recTicket {s : State} {q : RecReq} {code : Nat} 
    (hG : Good b0 s) : Good b0 (State.recTicket s q code) := by
  have hF := hG
  unfold State.recTicket
  iterate 40 all_goals try first
    | with_reducible apply good_modTc
    | with_reducible apply good_finishTicket
    | with_reducible apply hF
    | split

theorem good_loseRecord {s : State} {q : RecReq} {code : Nat} {counted : Bool} 
    (hG : Good b0 s) : Good b0 (State.loseRecord s q code counted) := by
  have hF := hG
  unfold State.loseRecord
  iterate 40 all_goals try first
    | with_reducible apply good_endInst
    | with_reducible apply good_recTicket
    | with_reducible apply hF
    | split
    | with_reducible refine good_mk rfl rfl rfl rfl rfl rfl rfl rfl rfl ?_

theorem good_dropRecord {s : State} {q : RecReq} 
    (hG : Good b0 s) : Good b0 (State.dropRecord s q) := by
  have hF := hG
  unfold State.dropRecord
  iterate 40 all_goals try first
    | with_reducible apply good_modRing
    | with_reducible apply good_mirrorRing
    | with_reducible apply good_reportLoss
    | with_reducible apply good_loseRecord
    | with_reducible apply hF
    | with_reducible refine good_mk rfl rfl rfl rfl rfl rfl rfl rfl rfl ?_

theorem good_abandonRecord {s : State} {q : RecReq} 
    (hG : Good b0 s) : Good b0 (State.abandonRecord s q) := by
  have hF := hG
  unfold State.abandonRecord
  iterate 40 all_goals try first
    | with_reducible apply good_modRing
    | with_reducible apply good_stallRing
    | with_reducible apply good_reportLoss
    | with_reducible apply good_loseRecord
    | with_reducible apply hF

theorem good_closeAfter {s : State} {k mode : Nat} {q : RecReq}
    (hG : Good b0 s) : Good b0 (State.closeAfter s k mode q) := by
  have hF := hG
  unfold State.closeAfter
  iterate 40 all_goals try first
    | with_reducible apply good_closePage
    | (with_reducible apply good_foldl; intro xA yA hX)
    | (with_reducible apply good_foldl1; intro xA yA hX)
    | (with_reducible apply good_ite <;> intro hC)
    | with_reducible apply hF
    | with_reducible assumption
    | split
    | (intro xA yA zA hX; with_reducible have hY : Good b0 xA := hX)
    | (intro xA yA hX; with_reducible have hY : Good b0 xA := hX)
    | (intro xA hX; with_reducible have hY : Good b0 xA := hX)
    | with_reducible refine good_mk rfl rfl rfl rfl rfl rfl rfl rfl rfl ?_

theorem good_commitRecord {s : State} {k : Nat} 
    (hG : Good b0 s) : Good b0 (State.commitRecord s k) := by
  have hX := hG
  unfold State.commitRecord
  iterate 40 all_goals try first
    | with_reducible assumption
    | with_reducible apply good_modRing
    | with_reducible apply good_modInst
    | with_reducible apply good_post
    | with_reducible apply good_settle
    | with_reducible apply good_recTicket
    | with_reducible apply good_closeAfter
    | (with_reducible apply good_foldl; intro xA yA hX)
    | (with_reducible apply good_ite <;> intro hC)
    | split

theorem good_placeSummary {s : State} {k : Nat} 
    (hG : Good b0 s) : Good b0 (State.placeSummary s k) := by
  have hF := hG
  unfold State.placeSummary
  iterate 40 all_goals try first
    | extract_lets +onlyGivenNames xG
    | with_reducible apply good_modRing
    | with_reducible apply good_post
    | with_reducible apply good_closePage
    | with_reducible apply good_publishAll
    | with_reducible apply hF
    | split

theorem good_resumePosted {s : State} 
    (hG : Good b0 s) : Good b0 (State.resumePosted s) := by
  have hF := hG
  unfold State.resumePosted
  iterate 40 all_goals try first
    | with_reducible apply good_drainPosted
    | with_reducible apply hF
    | split

theorem good_setCredit {s : State} {b : Bool}
    (hG : Good b0 s) : Good b0 (State.setCredit s b) := by
  have hF := hG
  unfold State.setCredit
  iterate 40 all_goals try first
    | with_reducible apply good_resumePosted
    | (with_reducible apply good_foldl; intro xA yA hX)
    | (with_reducible apply good_foldl1; intro xA yA hX)
    | (with_reducible apply good_ite <;> intro hC)
    | with_reducible apply hF
    | with_reducible assumption
    | split
    | (intro xA yA zA hX; with_reducible have hY : Good b0 xA := hX)
    | (intro xA yA hX; with_reducible have hY : Good b0 xA := hX)
    | (intro xA hX; with_reducible have hY : Good b0 xA := hX)
    | with_reducible refine good_mk rfl rfl rfl rfl rfl rfl rfl rfl rfl ?_

theorem good_placeRecord {s : State} {q : RecReq} 
    (hG : Good b0 s) : Good b0 (State.placeRecord s q) := by
  have hF := hG
  unfold State.placeRecord
  iterate 40 all_goals try first
    | with_reducible apply good_modRing
    | with_reducible apply good_modInst
    | with_reducible apply good_closePage
    | with_reducible apply good_stallRing
    | with_reducible apply good_loseRecord
    | with_reducible apply good_dropRecord
    | with_reducible apply good_abandonRecord
    | (with_reducible apply good_ite <;> intro hC)
    | with_reducible apply hF

theorem good_claimFor {s : State} {q : RecReq} 
    (hG : Good b0 s) : Good b0 (State.claimFor s q).1 := by
  have hF := hG
  unfold State.claimFor
  iterate 40 all_goals try first
    | with_reducible apply good_modTc
    | with_reducible apply hF

theorem good_takeOwn {s : State} {q : RecReq} 
    (hG : Good b0 s) : Good b0 (State.takeOwn s q) := by
  have hF := hG
  unfold State.takeOwn
  iterate 40 all_goals try first
    | with_reducible apply good_placeSummary
    | with_reducible apply good_placeRecord
    | with_reducible apply hF
    | with_reducible refine good_mk rfl rfl rfl rfl rfl rfl rfl rfl rfl ?_

theorem good_takeRpub {s : State} {q : RecReq} 
    (hG : Good b0 s) : Good b0 (State.takeRpub s q) := by
  have hF := hG
  unfold State.takeRpub
  iterate 40 all_goals try first
    | with_reducible apply good_placeSummary
    | with_reducible apply good_placeRecord
    | with_reducible apply good_claimFor
    | with_reducible apply hF
    | with_reducible refine good_mk rfl rfl rfl rfl rfl rfl rfl rfl rfl ?_

theorem good_admitRpub {s : State}
    (hG : Good b0 s) : Good b0 (State.admitRpub s) := by
  have hF := hG
  unfold State.admitRpub
  iterate 40 all_goals try first
    | with_reducible apply good_askRing
    | with_reducible apply good_notePeakRpub
    | (with_reducible apply good_foldl; intro xA yA hX)
    | (with_reducible apply good_foldl1; intro xA yA hX)
    | (with_reducible apply good_ite <;> intro hC)
    | with_reducible apply hF
    | with_reducible assumption
    | split
    | (intro xA yA zA hX; with_reducible have hY : Good b0 xA := hX)
    | (intro xA yA hX; with_reducible have hY : Good b0 xA := hX)
    | (intro xA hX; with_reducible have hY : Good b0 xA := hX)
    | with_reducible refine good_mk rfl rfl rfl rfl rfl rfl rfl rfl rfl ?_

theorem good_takeRecord {s : State} 
    (hG : Good b0 s) : Good b0 (State.takeRecord s) := by
  have hF := hG
  unfold State.takeRecord
  iterate 40 all_goals try first
    | with_reducible apply good_takeOwn
    | with_reducible apply good_takeRpub
    | with_reducible apply good_admitRpub
    | with_reducible apply hF
    | split
    | with_reducible refine good_mk rfl rfl rfl rfl rfl rfl rfl rfl rfl ?_

theorem good_execRecordTake {t : Nat} {s : State} 
    (hG : Good b0 s) : GoodR b0 (execRecordTake t s) := by
  have hF := hG
  unfold execRecordTake
  iterate 40 all_goals try first
    | with_reducible apply good_advanceTo
    | with_reducible apply good_takeRecord
    | with_reducible apply good_notePeakRpub
    | with_reducible apply good_next
    | with_reducible apply hF

theorem good_execRecordCommit {ring t : Nat} {credit : Bool} {s : State}
    (hG : Good b0 s) : GoodR b0 (execRecordCommit ring t s credit) := by
  have hF := hG
  unfold execRecordCommit
  iterate 40 all_goals try first
    | with_reducible apply good_advanceTo
    | with_reducible apply good_setCredit
    | with_reducible apply good_commitRecord
    | with_reducible apply good_next
    | (with_reducible apply good_foldl; intro xA yA hX)
    | (with_reducible apply good_foldl1; intro xA yA hX)
    | (with_reducible apply good_ite <;> intro hC)
    | with_reducible apply hF
    | with_reducible assumption
    | split
    | (intro xA yA zA hX; with_reducible have hY : Good b0 xA := hX)
    | (intro xA yA hX; with_reducible have hY : Good b0 xA := hX)
    | (intro xA hX; with_reducible have hY : Good b0 xA := hX)
    | with_reducible refine good_mk rfl rfl rfl rfl rfl rfl rfl rfl rfl ?_

theorem good_execPagePublish {ring : Nat} {s : State} 
    (hG : Good b0 s) : GoodR b0 (execPagePublish ring s) := by
  have hF := hG
  unfold execPagePublish
  iterate 40 all_goals try first
    | with_reducible apply good_publish
    | with_reducible apply good_next
    | with_reducible apply hF

theorem good_execSummaryPlace {ring t : Nat} {s : State} 
    (hG : Good b0 s) : GoodR b0 (execSummaryPlace ring t s) := by
  have hF := hG
  unfold execSummaryPlace
  iterate 40 all_goals try first
    | with_reducible apply good_advanceTo
    | with_reducible apply good_placeSummary
    | with_reducible apply good_next
    | with_reducible apply hF

theorem good_drainRings {s : State} 
    (hG : Good b0 s) : Good b0 (State.drainRings s) := by
  have hX := hG
  unfold State.drainRings
  iterate 40 all_goals try first
    | with_reducible assumption
    | with_reducible apply good_commitRecord
    | with_reducible apply good_takeRecord
    | (with_reducible apply good_foldl; intro xA yA hX)

theorem good_capoClose {s : State} 
    (hG : Good b0 s) : Good b0 (State.capoClose s) := by
  have hX := hG
  unfold State.capoClose
  iterate 40 all_goals try first
    | with_reducible assumption
    | with_reducible apply good_closePage
    | with_reducible apply good_publishAll
    | (with_reducible apply good_foldl; intro xA yA hX)
    | split

theorem good_stallOne {s : State} {k : Nat} 
    (hG : Good b0 s) : Good b0 (State.stallOne s k) := by
  have hX := hG
  unfold State.stallOne
  iterate 40 all_goals try first
    | with_reducible assumption
    | (extract_lets +onlyGivenNames xG; refine good_cut (A := Good b0 xG) ?_ ?_; all_goals first | (intro hX; clear_value xG) | (unfold xG; clear xG))
    | extract_lets +onlyGivenNames xG
    | with_reducible apply good_modRing
    | with_reducible apply good_stallRing
    | with_reducible apply good_reportLoss
    | with_reducible apply good_loseRecord
    | (with_reducible apply good_foldl; intro xA yA hX)
    | (clear_value *; split)

theorem good_execWriteStallBegin {t : Nat} {s : State} 
    (hG : Good b0 s) : GoodR b0 (execWriteStallBegin t s) := by
  have hX := hG
  unfold execWriteStallBegin
  iterate 40 all_goals try first
    | with_reducible assumption
    | with_reducible apply good_advanceTo
    | with_reducible apply good_logEv
    | with_reducible apply good_hdmaStop
    | with_reducible apply good_stallOne
    | with_reducible apply good_next
    | (with_reducible apply good_foldl; intro xA yA hX)
    | split
    | with_reducible refine good_mk rfl rfl rfl rfl rfl rfl rfl rfl rfl ?_

theorem good_execWriteStallEnd {t : Nat} {s : State} 
    (hG : Good b0 s) : GoodR b0 (execWriteStallEnd t s) := by
  have hF := hG
  unfold execWriteStallEnd
  iterate 40 all_goals try first
    | with_reducible apply good_advanceTo
    | with_reducible apply good_logEv
    | with_reducible apply good_drainPosted
    | with_reducible apply good_fullRewrite
    | with_reducible apply good_next
    | with_reducible apply hF
    | split
    | with_reducible refine good_mk rfl rfl rfl rfl rfl rfl rfl rfl rfl ?_

theorem good_writeRingCtrl {s : State} {k : Nat} {v : Word} 
    (hG : Good b0 s) : Good b0 (State.writeRingCtrl s k v) := by
  have hF := hG
  unfold State.writeRingCtrl
  iterate 40 all_goals try first
    | with_reducible apply good_modRing
    | with_reducible apply good_mirrorRing
    | with_reducible apply good_closePage
    | with_reducible apply good_commitRecord
    | (with_reducible apply good_ite <;> intro hC)
    | with_reducible apply hF

theorem good_execRingRunStart {path : Port} {ring : Nat} {value : Word} {s : State} 
    (hG : Good b0 s) : GoodR b0 (execRingRunStart path ring value s) := by
  have hF := hG
  unfold execRingRunStart
  iterate 40 all_goals try first
    | with_reducible apply good_writeRingCtrl
    | with_reducible apply good_next
    | with_reducible apply hF
    | split

theorem good_execRingRunStop {path : Port} {ring : Nat} {value : Word} {s : State} 
    (hG : Good b0 s) : GoodR b0 (execRingRunStop path ring value s) := by
  have hF := hG
  unfold execRingRunStop
  iterate 40 all_goals try first
    | with_reducible apply good_writeRingCtrl
    | with_reducible apply good_next
    | with_reducible apply hF
    | split

theorem good_execRingBaseWrite {path : Port} {ring : Nat} {hi : Bool} {value : Word} {s : State} 
    (hG : Good b0 s) : GoodR b0 (execRingBaseWrite path ring hi value s) := by
  have hF := hG
  unfold execRingBaseWrite
  iterate 40 all_goals try first
    | with_reducible apply good_modRing
    | with_reducible apply good_next
    | with_reducible apply hF
    | split

theorem good_execRingConsWrite {path : Port} {ring : Nat} {value : Word} {s : State} 
    (hG : Good b0 s) : GoodR b0 (execRingConsWrite path ring value s) := by
  have hF := hG
  unfold execRingConsWrite
  iterate 40 all_goals try first
    | with_reducible apply good_modRing
    | with_reducible apply good_next
    | with_reducible apply hF
    | split

theorem good_execRingMirrorWrite {path : Port} {hi : Bool} {value : Word} {s : State} 
    (hG : Good b0 s) : GoodR b0 (execRingMirrorWrite path hi value s) := by
  have hF := hG
  unfold execRingMirrorWrite
  iterate 40 all_goals try first
    | with_reducible apply good_fullRewrite
    | with_reducible apply good_next
    | with_reducible apply hF
    | split
    | with_reducible refine good_mk rfl rfl rfl rfl rfl rfl rfl rfl rfl ?_

theorem good_execHdmaStart {path : Port} {value : Word} {s : State} 
    (hG : Good b0 s) : GoodR b0 (execHdmaStart path value s) := by
  have hF := hG
  unfold execHdmaStart
  iterate 40 all_goals try first
    | with_reducible apply good_next
    | with_reducible apply hF
    | split
    | with_reducible refine good_mk rfl rfl rfl rfl rfl rfl rfl rfl rfl ?_

theorem good_execHdmaAbort {path : Port} {value : Word} {s : State} 
    (hG : Good b0 s) : GoodR b0 (execHdmaAbort path value s) := by
  have hF := hG
  unfold execHdmaAbort
  iterate 40 all_goals try first
    | with_reducible apply good_hdmaStop
    | with_reducible apply good_next
    | with_reducible apply hF
    | split

theorem good_execHdmaDone {s : State} 
    (hG : Good b0 s) : GoodR b0 (execHdmaDone s) := by
  have hF := hG
  unfold execHdmaDone
  iterate 40 all_goals try first
    | with_reducible apply good_post
    | with_reducible apply good_hdmaMove
    | with_reducible apply good_next
    | with_reducible apply hF
    | split
    | with_reducible refine good_mk rfl rfl rfl rfl rfl rfl rfl rfl rfl ?_

end Sys2Proof.Laws
end

