-- ==== Sys2Proof/Laws/GoodSched.lean ====
section
/-! SUPPORT. What every operation and command of Machine/Sched.lean keeps, one lemma each. -/

set_option linter.all false

namespace Sys2Proof.Laws

open Sys2Proof.Machine

variable {b0 : State}

theorem good_formGangs {s : State} 
    (hG : Good b0 s) : Good b0 (State.formGangs s) := by
  have hF := hG
  unfold State.formGangs
  iterate 40 all_goals try first
    | with_reducible apply hF
    | with_reducible refine good_mk rfl rfl rfl rfl rfl rfl rfl rfl rfl ?_

theorem good_createInst {s : State} {j : JobCfg} 
    (hG : Good b0 s) : Good b0 (State.createInst s j) := by
  have hF := hG
  unfold State.createInst
  iterate 40 all_goals try first
    | with_reducible apply hF
    | split
    | with_reducible refine good_mk rfl rfl rfl rfl rfl rfl rfl rfl rfl ?_

theorem good_noteBound {s : State} {i : Inst}
    (hG : Good b0 s) : Good b0 (State.noteBound s i) := by
  have hF := hG
  unfold State.noteBound
  iterate 40 all_goals try first
    | (with_reducible apply good_foldl; intro xA yA hX)
    | (with_reducible apply good_foldl1; intro xA yA hX)
    | (with_reducible apply good_ite <;> intro hC)
    | with_reducible apply hF
    | with_reducible assumption
    | split
    | (intro xA yA zA hX; with_reducible have hY : Good b0 xA := hX)
    | (intro xA yA hX; with_reducible have hY : Good b0 xA := hX)
    | (intro xA hX; with_reducible have hY : Good b0 xA := hX)
    | with_reducible refine good_mk rfl rfl rfl rfl rfl rfl rfl rfl rfl ?_

theorem good_examineInputs {s : State} {id : Nat} 
    (hG : Good b0 s) : Good b0 (State.examineInputs s id) := by
  have hF := hG
  unfold State.examineInputs
  iterate 40 all_goals try first
    | with_reducible apply good_modStream
    | with_reducible apply good_modInst
    | with_reducible apply good_queueDecisions
    | with_reducible apply good_endInst
    | with_reducible apply good_noteBound
    | (with_reducible apply good_ite <;> intro hC)
    | with_reducible apply hF
    | split

theorem good_execJobBind {job : Nat} {s : State} 
    (hG : Good b0 s) : GoodR b0 (execJobBind job s) := by
  have hF := hG
  unfold execJobBind
  iterate 40 all_goals try first
    | with_reducible apply good_advanceTo
    | with_reducible apply good_modInst
    | with_reducible apply good_examineInputs
    | with_reducible apply good_next
    | with_reducible apply hF
    | split
    | with_reducible refine good_mk rfl rfl rfl rfl rfl rfl rfl rfl rfl ?_

theorem good_schEvent {s : State} {b : Nat} 
    (hG : Good b0 s) : Good b0 (State.schEvent s b) := by
  have hF := hG
  unfold State.schEvent
  iterate 40 all_goals try first
    | with_reducible apply hF
    | with_reducible refine good_mk rfl rfl rfl rfl rfl rfl rfl rfl rfl ?_

theorem good_admitInst {s : State} {i : Inst} {failed : Bool} 
    (hG : Good b0 s) : Good b0 (State.admitInst s i failed) := by
  have hF := hG
  unfold State.admitInst
  iterate 40 all_goals try first
    | with_reducible apply good_modInst
    | with_reducible apply hF
    | with_reducible refine good_mk rfl rfl rfl rfl rfl rfl rfl rfl rfl ?_

theorem good_takeDecision {s : State} {i : Inst} 
    (hG : Good b0 s) : Good b0 (State.takeDecision s i) := by
  have hF := hG
  unfold State.takeDecision
  iterate 40 all_goals try first
    | with_reducible apply good_report
    | with_reducible apply good_modInst
    | with_reducible apply good_endInst
    | with_reducible apply good_schEvent
    | with_reducible apply good_admitInst
    | with_reducible apply hF
    | split
    | with_reducible refine good_mk rfl rfl rfl rfl rfl rfl rfl rfl rfl ?_

theorem good_firstDecide {s : State} {i : Inst} 
    (hG : Good b0 s) : Good b0 (State.firstDecide s i) := by
  have hX := hG
  unfold State.firstDecide
  iterate 40 all_goals try first
    | with_reducible assumption
    | (extract_lets +onlyGivenNames xG; refine good_cut (A := Good b0 xG) ?_ ?_; all_goals first | (intro hX; clear_value xG) | (unfold xG; clear xG))
    | extract_lets +onlyGivenNames xG
    | with_reducible apply good_report
    | with_reducible apply good_modInst
    | with_reducible apply good_endInst
    | with_reducible apply good_faultInst
    | with_reducible apply good_schEvent
    | with_reducible apply good_takeDecision
    | split
    | (clear_value *; split)

theorem good_execAdmissionDecision {t : Nat} {s : State} 
    (hG : Good b0 s) : GoodR b0 (execAdmissionDecision t s) := by
  have hF := hG
  unfold execAdmissionDecision
  iterate 40 all_goals try first
    | with_reducible apply good_advanceTo
    | with_reducible apply good_takeDecision
    | with_reducible apply good_firstDecide
    | with_reducible apply good_killLate
    | with_reducible apply good_next
    | with_reducible apply hF
    | split
    | with_reducible refine good_mk rfl rfl rfl rfl rfl rfl rfl rfl rfl ?_

theorem good_execLatestStartRetest {job : Nat} {s : State} 
    (hG : Good b0 s) : GoodR b0 (execLatestStartRetest job s) := by
  have hF := hG
  unfold execLatestStartRetest
  iterate 40 all_goals try first
    | with_reducible apply good_advanceTo
    | with_reducible apply good_queueDecisions
    | with_reducible apply good_next
    | with_reducible apply hF
    | split

theorem good_execDispatch {gang t : Nat} {s : State}
    (hG : Good b0 s) : GoodR b0 (execDispatch gang t s) := by
  have hF := hG
  unfold execDispatch
  iterate 40 all_goals try first
    | with_reducible apply good_advanceTo
    | with_reducible apply good_modInst
    | with_reducible apply good_modTc
    | with_reducible apply good_next
    | (with_reducible apply good_foldl; intro xA yA hX)
    | (with_reducible apply good_foldl1; intro xA yA hX)
    | (with_reducible apply good_ite <;> intro hC)
    | with_reducible apply hF
    | with_reducible assumption
    | split
    | (intro xA yA zA hX; with_reducible have hY : Good b0 xA := hX)
    | (intro xA yA hX; with_reducible have hY : Good b0 xA := hX)
    | (intro xA hX; with_reducible have hY : Good b0 xA := hX)
    | with_reducible refine good_mk rfl rfl rfl rfl rfl rfl rfl rfl rfl ?_

theorem good_execOverrunStart {job : Nat} {s : State} 
    (hG : Good b0 s) : GoodR b0 (execOverrunStart job s) := by
  have hF := hG
  unfold execOverrunStart
  iterate 40 all_goals try first
    | with_reducible apply good_advanceTo
    | with_reducible apply good_modInst
    | with_reducible apply good_schEvent
    | with_reducible apply good_next
    | with_reducible apply hF
    | split
    | with_reducible refine good_mk rfl rfl rfl rfl rfl rfl rfl rfl rfl ?_

theorem good_execDeadlineKill {job : Nat} {s : State} 
    (hG : Good b0 s) : GoodR b0 (execDeadlineKill job s) := by
  have hF := hG
  unfold execDeadlineKill
  iterate 40 all_goals try first
    | extract_lets +onlyGivenNames xG
    | with_reducible apply good_advanceTo
    | with_reducible apply good_killLate
    | with_reducible apply good_next
    | with_reducible apply hF
    | split

end Sys2Proof.Laws
end

