-- ==== Sys2Proof/Laws/GoodTileEv.lean ====
section
/-! SUPPORT. What every operation and command of Machine/TileEv.lean keeps, one lemma each. -/

set_option linter.all false

namespace Sys2Proof.Laws

open Sys2Proof.Machine

variable {b0 : State}

theorem good_passDone {s : State} {t : Nat} {q : PassReq} {code : Nat} 
    (hG : Good b0 s) : Good b0 (State.passDone s t q code) := by
  have hF := hG
  unfold State.passDone
  iterate 40 all_goals try first
    | with_reducible apply good_finishTicket
    | with_reducible apply hF

theorem good_flushRejected {s : State} {t : Nat} {nR : Nat} 
    (hG : Good b0 s) : Good b0 (State.flushRejected s t nR) := by
  induction nR generalizing s t with
  | zero => exact hG
  | succ n ihG =>
  (have hF := hG; unfold State.flushRejected)
  iterate 40 all_goals try first
    | with_reducible apply good_modArr
    | with_reducible apply good_passDone
    | with_reducible apply ihG
    | with_reducible apply hF
    | split

theorem good_rejectPass {s : State} {t : Nat} {q : PassReq} {rest : List PassReq} {code : Nat}
    (hG : Good b0 s) : Good b0 (State.rejectPass s t q rest code) := by
  have hF := hG
  unfold State.rejectPass
  iterate 40 all_goals try first
    | with_reducible apply good_spmFail
    | with_reducible apply good_modArr
    | with_reducible apply good_flushRejected
    | (with_reducible apply good_foldl; intro xA yA hX)
    | (with_reducible apply good_foldl1; intro xA yA hX)
    | (with_reducible apply goodR_ite <;> intro hC)
    | (with_reducible apply good_ite <;> intro hC)
    | with_reducible apply hF
    | with_reducible assumption
    | split
    | with_reducible refine good_snd (by assumption) ?_
    | with_reducible refine good_fst (by assumption) ?_
    | (intro xA yA zA hX; with_reducible have hY : Good b0 xA := hX)
    | (intro xA yA hX; with_reducible have hY : Good b0 xA := hX)
    | (intro xA hX; with_reducible have hY : Good b0 xA := hX)
    | (refine good_lit hG ?_ ?_ ?_ ?_ ?_ ?_ ?_ ?_ ?_ <;> with_reducible rfl)
    | (refine good_lit hX ?_ ?_ ?_ ?_ ?_ ?_ ?_ ?_ ?_ <;> with_reducible rfl)
    | with_reducible refine good_mk rfl rfl rfl rfl rfl rfl rfl rfl rfl ?_

theorem good_startPass {s : State} {t : Nat} {i : Inst} {q : PassReq} {rest : List PassReq}
    (hG : Good b0 s) : Good b0 (State.startPass s t i q rest) := by
  have hF := hG
  unfold State.startPass
  iterate 40 all_goals try first
    | with_reducible apply good_modArr
    | (with_reducible apply good_foldl; intro xA yA hX)
    | (with_reducible apply good_foldl1; intro xA yA hX)
    | (with_reducible apply good_ite <;> intro hC)
    | with_reducible apply hF
    | with_reducible assumption
    | split
    | (intro xA yA zA hX; with_reducible have hY : Good b0 xA := hX)
    | (intro xA yA hX; with_reducible have hY : Good b0 xA := hX)
    | (intro xA hX; with_reducible have hY : Good b0 xA := hX)
    | with_reducible refine good_mk rfl rfl rfl rfl rfl rfl rfl rfl rfl ?_

theorem good_execPassStart {tile : Nat} {s : State} 
    (hG : Good b0 s) : GoodR b0 (execPassStart tile s) := by
  have hF := hG
  unfold execPassStart
  iterate 40 all_goals try first
    | with_reducible apply good_modArr
    | with_reducible apply good_spmFail
    | with_reducible apply good_flushRejected
    | with_reducible apply good_rejectPass
    | with_reducible apply good_startPass
    | with_reducible apply good_next
    | (with_reducible apply good_ite <;> intro hC)
    | with_reducible apply hF
    | split

theorem good_askRanges {s : State} {t : Nat} {i : Inst} {h : Half} {l : List (Nat × Nat)}
    (hG : Good b0 s) : Good b0 (State.askRanges s t i h l) := by
  have hF := hG
  unfold State.askRanges
  iterate 40 all_goals try first
    | with_reducible apply good_askRestore
    | (with_reducible apply good_foldl; intro xA yA hX)
    | (with_reducible apply good_foldl1; intro xA yA hX)
    | (with_reducible apply good_ite <;> intro hC)
    | with_reducible apply hF
    | with_reducible assumption
    | split
    | (intro xA yA zA hX; with_reducible have hY : Good b0 xA := hX)
    | (intro xA yA hX; with_reducible have hY : Good b0 xA := hX)
    | (intro xA hX; with_reducible have hY : Good b0 xA := hX)
    | with_reducible refine good_mk rfl rfl rfl rfl rfl rfl rfl rfl rfl ?_

theorem good_askPass {s : State} {t : Nat} {i : Inst} {d : Desc}
    (hG : Good b0 s) : Good b0 (State.askPass s t i d) := by
  have hF := hG
  unfold State.askPass
  iterate 40 all_goals try first
    | with_reducible apply good_askRanges
    | (with_reducible apply good_foldl; intro xA yA hX)
    | (with_reducible apply good_foldl1; intro xA yA hX)
    | (with_reducible apply good_ite <;> intro hC)
    | with_reducible apply hF
    | with_reducible assumption
    | split
    | (intro xA yA zA hX; with_reducible have hY : Good b0 xA := hX)
    | (intro xA yA hX; with_reducible have hY : Good b0 xA := hX)
    | (intro xA hX; with_reducible have hY : Good b0 xA := hX)
    | with_reducible refine good_mk rfl rfl rfl rfl rfl rfl rfl rfl rfl ?_

theorem good_drainPass {s : State} {t : Nat} {i : Inst} {q : PassReq} {d : Desc} {out : List (Nat × Byte)}
    (hG : Good b0 s) : Good b0 (State.drainPass s t i q d out) := by
  have hF := hG
  unfold State.drainPass
  iterate 40 all_goals try first
    | with_reducible apply good_modSpm
    | with_reducible apply good_modTc
    | (with_reducible apply good_foldl; intro xA yA hX)
    | (with_reducible apply good_foldl1; intro xA yA hX)
    | (with_reducible apply good_ite <;> intro hC)
    | with_reducible apply hF
    | with_reducible assumption
    | split
    | (intro xA yA zA hX; with_reducible have hY : Good b0 xA := hX)
    | (intro xA yA hX; with_reducible have hY : Good b0 xA := hX)
    | (intro xA hX; with_reducible have hY : Good b0 xA := hX)
    | with_reducible refine good_mk rfl rfl rfl rfl rfl rfl rfl rfl rfl ?_

theorem good_readPass {s : State} {t : Nat} {i : Inst} {d : Desc} {gs : List (List Nat)}
    (hG : Good b0 s) : Good b0 (State.readPass s t i d gs) := by
  have hF := hG
  unfold State.readPass
  iterate 40 all_goals try first
    | with_reducible apply good_modSpm
    | (with_reducible apply good_foldl; intro xA yA hX)
    | (with_reducible apply good_foldl1; intro xA yA hX)
    | (with_reducible apply good_ite <;> intro hC)
    | with_reducible apply hF
    | with_reducible assumption
    | split
    | (intro xA yA zA hX; with_reducible have hY : Good b0 xA := hX)
    | (intro xA yA hX; with_reducible have hY : Good b0 xA := hX)
    | (intro xA hX; with_reducible have hY : Good b0 xA := hX)
    | with_reducible refine good_mk rfl rfl rfl rfl rfl rfl rfl rfl rfl ?_

theorem good_landPass {s : State} {t : Nat} {i : Inst} {q : PassReq} {d : Desc} {r : PassOut} {last : Option (List Byte)}
    (hG : Good b0 s) : Good b0 (State.landPass s t i q d r last) := by
  have hF := hG
  unfold State.landPass
  iterate 40 all_goals try first
    | with_reducible apply good_readPass
    | with_reducible apply good_drainPass
    | with_reducible apply good_modArr
    | with_reducible apply good_issue
    | (with_reducible apply good_foldl; intro xA yA hX)
    | (with_reducible apply good_foldl1; intro xA yA hX)
    | (with_reducible apply good_ite <;> intro hC)
    | with_reducible apply hF
    | with_reducible assumption
    | split
    | with_reducible apply goodTc_ok
    | with_reducible apply goodTc_done
    | with_reducible apply goodTc_exc
    | with_reducible apply goodTc_stall
    | (intro xA yA zA hX; with_reducible have hY : Good b0 xA := hX)
    | (intro xA yA hX; with_reducible have hY : Good b0 xA := hX)
    | (intro xA hX; with_reducible have hY : Good b0 xA := hX)
    | with_reducible refine good_mk rfl rfl rfl rfl rfl rfl rfl rfl rfl ?_

theorem good_drainTo {s : State} {t : Nat} {i : Inst} {q : PassReq} {rest : List PassReq} {d : Desc} {r : PassOut} {n : Nat}
    (hG : Good b0 s) : Good b0 (State.drainTo s t i q rest d r n) := by
  have hF := hG
  unfold State.drainTo
  iterate 40 all_goals try first
    | with_reducible apply good_drainPass
    | with_reducible apply good_modArr
    | (with_reducible apply good_foldl; intro xA yA hX)
    | (with_reducible apply good_foldl1; intro xA yA hX)
    | (with_reducible apply good_ite <;> intro hC)
    | with_reducible apply hF
    | with_reducible assumption
    | split
    | (intro xA yA zA hX; with_reducible have hY : Good b0 xA := hX)
    | (intro xA yA hX; with_reducible have hY : Good b0 xA := hX)
    | (intro xA hX; with_reducible have hY : Good b0 xA := hX)
    | with_reducible refine good_mk rfl rfl rfl rfl rfl rfl rfl rfl rfl ?_

theorem good_addWaits {s : State} {a : PassIn}
    (hG : Good b0 s) : Good b0 (State.addWaits s a) := by
  have hF := hG
  unfold State.addWaits
  iterate 40 all_goals try first
    | with_reducible apply good_modArr
    | (with_reducible apply good_foldl; intro xA yA hX)
    | (with_reducible apply good_foldl1; intro xA yA hX)
    | (with_reducible apply good_ite <;> intro hC)
    | with_reducible apply hF
    | with_reducible assumption
    | split
    | (intro xA yA zA hX; with_reducible have hY : Good b0 xA := hX)
    | (intro xA yA hX; with_reducible have hY : Good b0 xA := hX)
    | (intro xA hX; with_reducible have hY : Good b0 xA := hX)
    | with_reducible refine good_mk rfl rfl rfl rfl rfl rfl rfl rfl rfl ?_

theorem good_passEcc {s : State} {a : PassIn}
    (hG : Good b0 s) : Good b0 (State.passEcc s a) := by
  have hF := hG
  unfold State.passEcc
  iterate 40 all_goals try first
    | with_reducible apply good_modArr
    | with_reducible apply good_modSpm
    | with_reducible apply good_reportEccCorr
    | (with_reducible apply good_foldl; intro xA yA hX)
    | (with_reducible apply good_foldl1; intro xA yA hX)
    | (with_reducible apply good_ite <;> intro hC)
    | with_reducible apply hF
    | with_reducible assumption
    | split
    | (intro xA yA zA hX; with_reducible have hY : Good b0 xA := hX)
    | (intro xA yA hX; with_reducible have hY : Good b0 xA := hX)
    | (intro xA hX; with_reducible have hY : Good b0 xA := hX)
    | with_reducible refine good_mk rfl rfl rfl rfl rfl rfl rfl rfl rfl ?_

theorem good_execPassComplete {a : PassIn} {s : State} 
    (hG : Good b0 s) : GoodR b0 (execPassComplete a s) := by
  have hX := hG
  unfold execPassComplete
  iterate 40 all_goals try first
    | with_reducible assumption
    | (extract_lets +onlyGivenNames xG; refine good_cut (A := Good b0 xG) ?_ ?_; all_goals first | (intro hX; clear_value xG) | (unfold xG; clear xG))
    | with_reducible apply good_modSpm
    | with_reducible apply good_modArr
    | with_reducible apply good_modBow
    | with_reducible apply good_report
    | with_reducible apply good_reportEccCorr
    | with_reducible apply good_exclude
    | with_reducible apply good_faultInst
    | with_reducible apply good_passDone
    | with_reducible apply good_flushRejected
    | with_reducible apply good_askAll
    | with_reducible apply good_landPass
    | with_reducible apply good_addWaits
    | with_reducible apply good_passEcc
    | with_reducible apply good_drainTo
    | with_reducible apply good_askPass
    | with_reducible apply good_next
    | split
    | with_reducible refine good_mk rfl rfl rfl rfl rfl rfl rfl rfl rfl ?_

theorem good_memopFault {s : State} {t id : Nat}
    (hG : Good b0 s) : Good b0 (State.memopFault s t id) := by
  have hF := hG
  unfold State.memopFault
  iterate 40 all_goals try first
    | with_reducible apply good_modSpm
    | with_reducible apply good_report
    | with_reducible apply good_faultInst
    | (with_reducible apply good_foldl; intro xA yA hX)
    | (with_reducible apply good_foldl1; intro xA yA hX)
    | (with_reducible apply good_ite <;> intro hC)
    | with_reducible apply hF
    | with_reducible assumption
    | split
    | (intro xA yA zA hX; with_reducible have hY : Good b0 xA := hX)
    | (intro xA yA hX; with_reducible have hY : Good b0 xA := hX)
    | (intro xA hX; with_reducible have hY : Good b0 xA := hX)
    | with_reducible refine good_mk rfl rfl rfl rfl rfl rfl rfl rfl rfl ?_

theorem good_execMemopComplete {tile ecc : Nat} {s : State} 
    (hG : Good b0 s) : GoodR b0 (execMemopComplete tile ecc s) := by
  have hF := hG
  unfold execMemopComplete
  iterate 40 all_goals try first
    | with_reducible apply good_modSpm
    | with_reducible apply good_report
    | with_reducible apply good_reportEccCorr
    | with_reducible apply good_spmFail
    | with_reducible apply good_askRestore
    | with_reducible apply good_faultInst
    | with_reducible apply good_finishTicket
    | with_reducible apply good_memopFault
    | with_reducible apply good_next
    | (with_reducible apply good_ite <;> intro hC)
    | with_reducible apply hF
    | split

theorem good_execScrubFretDone {tile : Nat} {s : State} 
    (hG : Good b0 s) : GoodR b0 (execScrubFretDone tile s) := by
  have hF := hG
  unfold execScrubFretDone
  iterate 40 all_goals try first
    | with_reducible apply good_scrubOne
    | with_reducible apply good_next
    | with_reducible apply hF

theorem good_execAllocRequestDecision {tile t : Nat} {s : State} 
    (hG : Good b0 s) : GoodR b0 (execAllocRequestDecision tile t s) := by
  have hF := hG
  unfold execAllocRequestDecision
  iterate 40 all_goals try first
    | with_reducible apply good_advanceTo
    | with_reducible apply good_allocOne
    | with_reducible apply good_notePeak
    | with_reducible apply good_next
    | with_reducible apply hF
    | split

theorem good_fillSlot {s : State} {tile k : Nat} {bs : List Byte} (h : Good b0 s) : Good b0 (State.fillSlot s tile k bs) :=
  good_dram h (wf_ite_write h.1.4) rfl rfl rfl rfl rfl

theorem good_execSpillComplete {tile ecc : Nat} {s : State}
    (hG : Good b0 s) : GoodR b0 (execSpillComplete tile ecc s) := by
  have hF := hG
  unfold execSpillComplete
  iterate 40 all_goals try first
    | with_reducible apply good_modSpm
    | with_reducible apply good_report
    | with_reducible apply good_faultInst
    | with_reducible apply good_reportEccCorr
    | with_reducible apply good_fillSlot
    | with_reducible apply good_moveBusy
    | with_reducible apply good_next
    | (with_reducible apply good_foldl; intro xA yA hX)
    | (with_reducible apply good_foldl1; intro xA yA hX)
    | (with_reducible apply good_ite <;> intro hC)
    | with_reducible apply hF
    | with_reducible assumption
    | split
    | (intro xA yA zA hX; with_reducible have hY : Good b0 xA := hX)
    | (intro xA yA hX; with_reducible have hY : Good b0 xA := hX)
    | (intro xA hX; with_reducible have hY : Good b0 xA := hX)
    | with_reducible refine good_mk rfl rfl rfl rfl rfl rfl rfl rfl rfl ?_

theorem good_restoreFails {s : State} {tile e : Nat} 
    (hG : Good b0 s) : Good b0 (State.restoreFails s tile e) := by
  have hF := hG
  unfold State.restoreFails
  iterate 40 all_goals try first
    | with_reducible apply good_report
    | with_reducible apply good_faultInst
    | with_reducible apply hF
    | with_reducible refine good_mk rfl rfl rfl rfl rfl rfl rfl rfl rfl ?_

theorem good_execRestoreComplete {tile : Nat} {s : State} 
    (hG : Good b0 s) : GoodR b0 (execRestoreComplete tile s) := by
  have hF := hG
  unfold execRestoreComplete
  iterate 40 all_goals try first
    | extract_lets +onlyGivenNames xG
    | with_reducible apply good_modSpm
    | with_reducible apply good_freeSlot
    | with_reducible apply good_restoreFails
    | with_reducible apply good_moveBusy
    | with_reducible apply good_next
    | with_reducible apply hF
    | split

theorem good_execFretAgeTick {s : State} 
    (hG : Good b0 s) : GoodR b0 (execFretAgeTick s) := by
  have hX := hG
  unfold execFretAgeTick
  iterate 40 all_goals try first
    | with_reducible assumption
    | with_reducible apply good_modSpm
    | with_reducible apply good_next
    | (with_reducible apply good_foldl; intro xA yA hX)

theorem good_linkDiscard {s : State} {k : Nat}
    (hG : Good b0 s) : Good b0 (State.linkDiscard s k) := by
  have hF := hG
  unfold State.linkDiscard
  iterate 40 all_goals try first
    | with_reducible apply good_modLink
    | (with_reducible apply good_foldl; intro xA yA hX)
    | (with_reducible apply good_foldl1; intro xA yA hX)
    | (with_reducible apply good_ite <;> intro hC)
    | with_reducible apply hF
    | with_reducible assumption
    | split
    | (intro xA yA zA hX; with_reducible have hY : Good b0 xA := hX)
    | (intro xA yA hX; with_reducible have hY : Good b0 xA := hX)
    | (intro xA hX; with_reducible have hY : Good b0 xA := hX)
    | with_reducible refine good_mk rfl rfl rfl rfl rfl rfl rfl rfl rfl ?_

theorem good_discardMsg {s : State} {t : Nat} 
    (hG : Good b0 s) : Good b0 (State.discardMsg s t) := by
  have hF := hG
  unfold State.discardMsg
  iterate 40 all_goals try first
    | with_reducible apply good_modTc
    | with_reducible apply hF

theorem good_returnMsg {s : State} {m : Msg} 
    (hG : Good b0 s) : Good b0 (State.returnMsg s m) := by
  have hF := hG
  unfold State.returnMsg
  iterate 40 all_goals try first
    | with_reducible apply good_modTc
    | with_reducible apply good_discardMsg
    | with_reducible apply hF
    | split

theorem good_pumpMsgs {s : State} {k : Nat} {nR : Nat} 
    (hG : Good b0 s) : Good b0 (State.pumpMsgs s k nR) := by
  induction nR generalizing s k with
  | zero => exact hG
  | succ n ihG =>
  (have hF := hG; unfold State.pumpMsgs)
  iterate 40 all_goals try first
    | extract_lets +onlyGivenNames xG
    | with_reducible apply good_modLink
    | with_reducible apply good_sendFlit
    | with_reducible apply ihG
    | with_reducible apply hF
    | split

theorem good_deliver {s : State} {m : Msg} 
    (hG : Good b0 s) : Good b0 (State.deliver s m) := by
  have hF := hG
  unfold State.deliver
  iterate 40 all_goals try first
    | with_reducible apply good_modTc
    | with_reducible apply good_modLink
    | with_reducible apply good_discardMsg
    | with_reducible apply good_returnMsg
    | with_reducible apply good_pumpMsgs
    | with_reducible apply good_linkDiscard
    | with_reducible apply hF
    | split

theorem good_laneError {s : State} {m : Msg} {ecc : Nat}
    (hG : Good b0 s) : Good b0 (State.laneError s m ecc) := by
  have hF := hG
  unfold State.laneError
  iterate 40 all_goals try first
    | with_reducible apply good_reportEccCorr
    | with_reducible apply good_deliver
    | with_reducible apply good_report
    | with_reducible apply good_discardMsg
    | with_reducible apply good_faultInst
    | (with_reducible apply good_foldl; intro xA yA hX)
    | (with_reducible apply good_foldl1; intro xA yA hX)
    | (with_reducible apply good_ite <;> intro hC)
    | with_reducible apply hF
    | with_reducible assumption
    | split
    | (intro xA yA zA hX; with_reducible have hY : Good b0 xA := hX)
    | (intro xA yA hX; with_reducible have hY : Good b0 xA := hX)
    | (intro xA hX; with_reducible have hY : Good b0 xA := hX)
    | with_reducible refine good_mk rfl rfl rfl rfl rfl rfl rfl rfl rfl ?_

theorem good_execMsgArrive {src dst mbox ecc : Nat} {s : State}
    (hG : Good b0 s) : GoodR b0 (execMsgArrive src dst mbox s ecc) := by
  have hF := hG
  unfold execMsgArrive
  iterate 40 all_goals try first
    | with_reducible apply good_deliver
    | with_reducible apply good_laneError
    | with_reducible apply good_next
    | (with_reducible apply good_foldl; intro xA yA hX)
    | (with_reducible apply good_foldl1; intro xA yA hX)
    | (with_reducible apply good_ite <;> intro hC)
    | with_reducible apply hF
    | with_reducible assumption
    | split
    | (intro xA yA zA hX; with_reducible have hY : Good b0 xA := hX)
    | (intro xA yA hX; with_reducible have hY : Good b0 xA := hX)
    | (intro xA hX; with_reducible have hY : Good b0 xA := hX)
    | with_reducible refine good_mk rfl rfl rfl rfl rfl rfl rfl rfl rfl ?_

theorem good_execMsgRetry {tile : Nat} {s : State} 
    (hG : Good b0 s) : GoodR b0 (execMsgRetry tile s) := by
  have hF := hG
  unfold execMsgRetry
  iterate 40 all_goals try first
    | with_reducible apply good_modTc
    | with_reducible apply good_next
    | with_reducible apply hF
    | split
    | with_reducible refine good_mk rfl rfl rfl rfl rfl rfl rfl rfl rfl ?_

theorem good_execWdogExpire {tile : Nat} {s : State} 
    (hG : Good b0 s) : GoodR b0 (execWdogExpire tile s) := by
  have hF := hG
  unfold execWdogExpire
  iterate 40 all_goals try first
    | with_reducible apply good_modTc
    | with_reducible apply good_tcException
    | with_reducible apply good_next
    | with_reducible apply hF
    | split

end Sys2Proof.Laws
end

