-- ==== Sys2Proof/Laws/GoodCapo.lean ====
section
/-! SUPPORT. What every operation and command of Machine/Capo.lean keeps, one lemma each. -/

set_option linter.all false

namespace Sys2Proof.Laws

open Sys2Proof.Machine

variable {b0 : State}

theorem good_sampleAbsent {s : State} {first : Bool}
    (hG : Good b0 s) : Good b0 (State.sampleAbsent s first) := by
  have hF := hG
  unfold State.sampleAbsent
  iterate 40 all_goals try first
    | with_reducible apply good_schEvent
    | with_reducible apply good_logEv
    | (with_reducible apply good_foldl; intro xA yA hX)
    | (with_reducible apply good_foldl1; intro xA yA hX)
    | (with_reducible apply good_ite <;> intro hC)
    | with_reducible apply hF
    | with_reducible assumption
    | split
    | (intro xA yA zA hX; with_reducible have hY : Good b0 xA := hX)
    | (intro xA yA hX; with_reducible have hY : Good b0 xA := hX)
    | (intro xA hX; with_reducible have hY : Good b0 xA := hX)
    | with_reducible refine good_mk rfl rfl rfl rfl rfl rfl rfl rfl rfl ?_

theorem good_sendBoundaries {s : State} 
    (hG : Good b0 s) : Good b0 (State.sendBoundaries s) := by
  have hX := hG
  unfold State.sendBoundaries
  iterate 40 all_goals try first
    | with_reducible assumption
    | with_reducible apply good_sendFlit
    | (with_reducible apply good_foldl; intro xA yA hX)

theorem good_planSkew {s : State} {k : Nat} 
    (hG : Good b0 s) : Good b0 (State.planSkew s k) := by
  have hF := hG
  unfold State.planSkew
  iterate 40 all_goals try first
    | with_reducible apply good_logEv
    | with_reducible apply good_report
    | with_reducible apply good_modLink
    | with_reducible apply good_takeFree
    | with_reducible apply good_logMismatch
    | with_reducible apply good_mismatch
    | with_reducible apply hF
    | with_reducible refine good_mk rfl rfl rfl rfl rfl rfl rfl rfl rfl ?_

theorem good_linkPeriod {s : State} {k : Nat} {b : BndInfo} 
    (hG : Good b0 s) : Good b0 (State.linkPeriod s k b) := by
  have hF := hG
  unfold State.linkPeriod
  iterate 40 all_goals try first
    | with_reducible apply good_modLink
    | with_reducible apply good_planSkew
    | with_reducible apply hF
    | split
    | with_reducible refine good_mk rfl rfl rfl rfl rfl rfl rfl rfl rfl ?_

theorem good_evalLink {s : State} {k : Nat} {b : BndInfo} 
    (hG : Good b0 s) : Good b0 (State.evalLink s k b) := by
  have hF := hG
  unfold State.evalLink
  iterate 40 all_goals try first
    | extract_lets +onlyGivenNames xG
    | with_reducible apply good_modLink
    | with_reducible apply good_unlink
    | with_reducible apply good_linkPeriod
    | with_reducible apply hF
    | split

theorem good_evalStored {s : State} 
    (hG : Good b0 s) : Good b0 (State.evalStored s) := by
  have hX := hG
  unfold State.evalStored
  iterate 40 all_goals try first
    | with_reducible assumption
    | with_reducible apply good_modLink
    | with_reducible apply good_evalLink
    | (with_reducible apply good_foldl; intro xA yA hX)
    | split

theorem good_closeLinkEval {s : State} 
    (hG : Good b0 s) : Good b0 (State.closeLinkEval s) := by
  have hX := hG
  unfold State.closeLinkEval
  iterate 40 all_goals try first
    | with_reducible assumption
    | with_reducible apply good_modLink
    | with_reducible apply good_unlink
    | (with_reducible apply good_foldl; intro xA yA hX)
    | (with_reducible apply good_ite <;> intro hC)

theorem good_clearTiles {s : State} 
    (hG : Good b0 s) : Good b0 (State.clearTiles s) := by
  have hX := hG
  unfold State.clearTiles
  iterate 40 all_goals try first
    | with_reducible assumption
    | with_reducible apply good_modTile
    | (with_reducible apply good_foldl; intro xA yA hX)
    | with_reducible refine good_mk rfl rfl rfl rfl rfl rfl rfl rfl rfl ?_

theorem good_dirtyAll {s : State} {t : Nat} 
    (hG : Good b0 s) : Good b0 (State.dirtyAll s t) := by
  have hF := hG
  unfold State.dirtyAll
  iterate 40 all_goals try first
    | with_reducible apply good_modSpm
    | with_reducible apply good_endEntries
    | with_reducible apply hF

theorem good_commitTile {s : State} {t : Nat} 
    (hG : Good b0 s) : Good b0 (State.commitTile s t) := by
  have hF := hG
  unfold State.commitTile
  iterate 40 all_goals try first
    | with_reducible apply good_modSpm
    | with_reducible apply hF

theorem good_placeStates {s : State} {t : Nat} 
    (hG : Good b0 s) : Good b0 (State.placeStates s t) := by
  have hF := hG
  unfold State.placeStates
  iterate 40 all_goals try first
    | with_reducible apply good_modSpm
    | with_reducible apply hF

theorem good_placeTile {s : State} {t : Nat} 
    (hG : Good b0 s) : Good b0 (State.placeTile s t) := by
  have hX := hG
  unfold State.placeTile
  iterate 40 all_goals try first
    | with_reducible assumption
    | with_reducible apply good_claimFret
    | with_reducible apply good_placeStates
    | (with_reducible apply good_foldl; intro xA yA hX)

theorem good_capoClear {s : State} {late : List Nat} 
    (hG : Good b0 s) : Good b0 (State.capoClear s late) := by
  have hX := hG
  unfold State.capoClear
  iterate 40 all_goals try first
    | with_reducible assumption
    | with_reducible apply good_scrubAll
    | with_reducible apply good_emptyPager
    | with_reducible apply good_drainRings
    | with_reducible apply good_clearTiles
    | with_reducible apply good_dirtyAll
    | with_reducible apply good_commitTile
    | with_reducible apply good_placeTile
    | (with_reducible apply good_foldl; intro xA yA hX)
    | with_reducible refine good_mk rfl rfl rfl rfl rfl rfl rfl rfl rfl ?_

theorem good_checkSteps {s : State} {a : CapoIn} 
    (hG : Good b0 s) : Good b0 (State.checkSteps s a) := by
  have hX := hG
  unfold State.checkSteps
  iterate 40 all_goals try first
    | with_reducible assumption
    | with_reducible apply good_report
    | with_reducible apply good_endInj
    | with_reducible apply good_applyInj
    | with_reducible apply good_exclude
    | (with_reducible apply good_foldl; intro xA yA hX)
    | (with_reducible apply good_ite <;> intro hC)

theorem good_failSentinel {s : State} {t : Nat} {fails : List (Nat × DWord)}
    (hG : Good b0 s) : Good b0 (State.failSentinel s t fails) := by
  have hF := hG
  unfold State.failSentinel
  iterate 40 all_goals try first
    | with_reducible apply good_modArr
    | (with_reducible apply good_foldl; intro xA yA hX)
    | (with_reducible apply good_foldl1; intro xA yA hX)
    | (with_reducible apply good_ite <;> intro hC)
    | with_reducible apply hF
    | with_reducible assumption
    | split
    | (intro xA yA zA hX; with_reducible have hY : Good b0 xA := hX)
    | (intro xA yA hX; with_reducible have hY : Good b0 xA := hX)
    | (intro xA hX; with_reducible have hY : Good b0 xA := hX)
    | with_reducible refine good_mk rfl rfl rfl rfl rfl rfl rfl rfl rfl ?_

theorem good_passSentinel {s : State} {t : Nat} {late : Bool} 
    (hG : Good b0 s) : Good b0 (State.passSentinel s t late) := by
  have hF := hG
  unfold State.passSentinel
  iterate 40 all_goals try first
    | with_reducible apply good_modTile
    | with_reducible apply good_modArr
    | with_reducible apply hF

theorem good_withInjected {s : State} {l : List (Nat × DWord)} (hG : Good b0 s) : Good b0 (s.withInjected l).2 := by
  unfold State.withInjected
  split
  · exact hG
  · exact good_takeFree hG

theorem good_sentinelTile {s : State} {a : CapoIn} {t : Nat}
    (hG : Good b0 s) : Good b0 (State.sentinelTile s a t) := by
  have hF := hG
  unfold State.sentinelTile
  iterate 40 all_goals try first
    | with_reducible apply good_report
    | with_reducible apply good_exclude
    | with_reducible apply good_withInjected
    | with_reducible apply good_failSentinel
    | with_reducible apply good_passSentinel
    | (with_reducible apply good_foldl; intro xA yA hX)
    | (with_reducible apply good_foldl1; intro xA yA hX)
    | (with_reducible apply good_ite <;> intro hC)
    | with_reducible apply hF
    | with_reducible assumption
    | split
    | (intro xA yA zA hX; with_reducible have hY : Good b0 xA := hX)
    | (intro xA yA hX; with_reducible have hY : Good b0 xA := hX)
    | (intro xA hX; with_reducible have hY : Good b0 xA := hX)
    | with_reducible refine good_mk rfl rfl rfl rfl rfl rfl rfl rfl rfl ?_

theorem good_sentinelPass {s : State} {a : CapoIn} 
    (hG : Good b0 s) : Good b0 (State.sentinelPass s a) := by
  have hX := hG
  unfold State.sentinelPass
  iterate 40 all_goals try first
    | with_reducible assumption
    | with_reducible apply good_endInj
    | with_reducible apply good_applyInj
    | with_reducible apply good_sentinelTile
    | (with_reducible apply good_foldl; intro xA yA hX)
    | (with_reducible apply good_ite <;> intro hC)

theorem good_forceFault {s : State} {a : CapoIn} 
    (hG : Good b0 s) : Good b0 (State.forceFault s a) := by
  have hF := hG
  unfold State.forceFault
  iterate 40 all_goals try first
    | with_reducible apply good_report
    | with_reducible apply good_endInj
    | with_reducible apply good_applyInj
    | with_reducible apply hF
    | split

theorem good_publishPennant {s : State} {n : Word} {b : DWord} {reason : Nat} {a : CapoIn} 
    (hG : Good b0 s) : Good b0 (State.publishPennant s n b reason a) := by
  have hF := hG
  unfold State.publishPennant
  iterate 40 all_goals try first
    | with_reducible apply good_logEv
    | with_reducible apply good_mirrorPennant
    | with_reducible apply good_forceFault
    | with_reducible apply hF
    | split
    | with_reducible refine good_mk rfl rfl rfl rfl rfl rfl rfl rfl rfl ?_

theorem good_closeCapture {s : State} {n : Word} 
    (hG : Good b0 s) : Good b0 (State.closeCapture s n) := by
  have hF := hG
  unfold State.closeCapture
  iterate 40 all_goals try first
    | with_reducible apply hF
    | split
    | with_reducible refine good_mk rfl rfl rfl rfl rfl rfl rfl rfl rfl ?_

theorem good_capoStep10 {s : State} {pennant : Option (Word × DWord × Nat)} {a : CapoIn} 
    (hG : Good b0 s) : Good b0 (State.capoStep10 s pennant a) := by
  have hF := hG
  unfold State.capoStep10
  iterate 40 all_goals try first
    | with_reducible apply good_closeSuppression
    | with_reducible apply good_capoClose
    | with_reducible apply good_publishPennant
    | with_reducible apply good_closeCapture
    | with_reducible apply hF
    | split
    | with_reducible refine good_mk rfl rfl rfl rfl rfl rfl rfl rfl rfl ?_

theorem good_stepOne {s : State} 
    (hG : Good b0 s) : Good b0 (State.stepOne s) := by
  have hF := hG
  unfold State.stepOne
  iterate 40 all_goals try first
    | with_reducible apply good_sampleAbsent
    | with_reducible apply hF
    | with_reducible refine good_mk rfl rfl rfl rfl rfl rfl rfl rfl rfl ?_

theorem good_closeWindow {s : State} 
    (hG : Good b0 s) : Good b0 (State.closeWindow s) := by
  have hF := hG
  unfold State.closeWindow
  iterate 40 all_goals try first
    | with_reducible apply good_endInj
    | with_reducible apply hF
    | split
    | with_reducible refine good_mk rfl rfl rfl rfl rfl rfl rfl rfl rfl ?_

theorem good_killAll {s : State} 
    (hG : Good b0 s) : Good b0 (State.killAll s) := by
  have hX := hG
  unfold State.killAll
  iterate 40 all_goals try first
    | with_reducible assumption
    | with_reducible apply good_killLate
    | (with_reducible apply good_foldl; intro xA yA hX)
    | split

theorem good_execBoundary {a : CapoIn} {s : State} 
    (hG : Good b0 s) : GoodR b0 (execBoundary a s) := by
  have hX := hG
  unfold execBoundary
  iterate 40 all_goals try first
    | with_reducible assumption
    | (extract_lets +onlyGivenNames xG; refine good_cut (A := Good b0 xG) ?_ ?_; all_goals first | (intro hX; clear_value xG) | (unfold xG; clear xG))
    | with_reducible apply good_advanceTo
    | with_reducible apply good_logEv
    | with_reducible apply good_setRdy
    | with_reducible apply good_refreshStreams
    | with_reducible apply good_prefetch
    | with_reducible apply good_enterStandby
    | with_reducible apply good_sendBoundaries
    | with_reducible apply good_evalStored
    | with_reducible apply good_capoClear
    | with_reducible apply good_checkSteps
    | with_reducible apply good_sentinelPass
    | with_reducible apply good_capoStep10
    | with_reducible apply good_stepOne
    | with_reducible apply good_closeWindow
    | with_reducible apply good_killAll
    | with_reducible apply good_mainReset
    | with_reducible apply good_next
    | split
    | with_reducible refine good_mk rfl rfl rfl rfl rfl rfl rfl rfl rfl ?_

theorem good_abort {s : State} {reason : Nat} {a : CapoIn} 
    (hG : Good b0 s) : Good b0 (State.abort s reason a) := by
  have hX := hG
  unfold State.abort
  iterate 40 all_goals try first
    | with_reducible assumption
    | with_reducible apply good_logEv
    | with_reducible apply good_endInst
    | with_reducible apply good_capoClear
    | with_reducible apply good_checkSteps
    | with_reducible apply good_sentinelPass
    | with_reducible apply good_capoStep10
    | (with_reducible apply good_foldl; intro xA yA hX)
    | with_reducible refine good_mk rfl rfl rfl rfl rfl rfl rfl rfl rfl ?_

theorem good_condition {s : State} {reason : Nat} {a : CapoIn} {inj : Bool} 
    (hG : Good b0 s) : Good b0 (State.condition s reason a inj) := by
  have hF := hG
  unfold State.condition
  iterate 40 all_goals try first
    | with_reducible apply good_report
    | with_reducible apply good_abort
    | with_reducible apply good_idle
    | with_reducible apply hF
    | split
    | with_reducible refine good_mk rfl rfl rfl rfl rfl rfl rfl rfl rfl ?_

theorem good_execPrdAbort {path : Port} {value : Word} {t : Nat} {a : CapoIn} {s : State} 
    (hG : Good b0 s) : GoodR b0 (execPrdAbort path value t a s) := by
  have hF := hG
  unfold execPrdAbort
  iterate 40 all_goals try first
    | with_reducible apply good_advanceTo
    | with_reducible apply good_logEv
    | with_reducible apply good_abort
    | with_reducible apply good_next
    | with_reducible apply hF
    | split
    | with_reducible refine good_mk rfl rfl rfl rfl rfl rfl rfl rfl rfl ?_

theorem good_switchPlan {s : State} 
    (hG : Good b0 s) : Good b0 (State.switchPlan s) := by
  have hF := hG
  unfold State.switchPlan
  iterate 40 all_goals try first
    | with_reducible apply good_logEv
    | with_reducible apply good_formGangs
    | with_reducible apply good_schEvent
    | with_reducible apply hF
    | split
    | with_reducible refine good_mk rfl rfl rfl rfl rfl rfl rfl rfl rfl ?_

theorem good_takeSlot {s : State} 
    (hG : Good b0 s) : Good b0 (State.takeSlot s) := by
  have hF := hG
  unfold State.takeSlot
  iterate 40 all_goals try first
    | with_reducible apply hF
    | split
    | with_reducible refine good_mk rfl rfl rfl rfl rfl rfl rfl rfl rfl ?_

theorem good_applyExclusion {s : State} {t : Nat} 
    (hG : Good b0 s) : Good b0 (State.applyExclusion s t) := by
  have hF := hG
  unfold State.applyExclusion
  iterate 40 all_goals try first
    | extract_lets +onlyGivenNames xG
    | with_reducible apply good_logEv
    | with_reducible apply good_modTile
    | with_reducible apply good_report
    | with_reducible apply hF
    | split

theorem good_createJobs {s : State} 
    (hG : Good b0 s) : Good b0 (State.createJobs s) := by
  have hX := hG
  unfold State.createJobs
  iterate 40 all_goals try first
    | with_reducible assumption
    | with_reducible apply good_sendFlit
    | with_reducible apply good_createInst
    | (with_reducible apply good_foldl; intro xA yA hX)
    | split

theorem good_takeEarly {s : State} 
    (hG : Good b0 s) : Good b0 (State.takeEarly s) := by
  have hX := hG
  unfold State.takeEarly
  iterate 40 all_goals try first
    | with_reducible assumption
    | with_reducible apply good_takePeer
    | (with_reducible apply good_foldl; intro xA yA hX)
    | split
    | with_reducible refine good_mk rfl rfl rfl rfl rfl rfl rfl rfl rfl ?_

theorem good_abortAtRelease {s : State} {reason : Nat} 
    (hG : Good b0 s) : Good b0 (State.abortAtRelease s reason) := by
  have hX := hG
  unfold State.abortAtRelease
  iterate 40 all_goals try first
    | with_reducible assumption
    | (extract_lets +onlyGivenNames xG; refine good_cut (A := Good b0 xG) ?_ ?_; all_goals first | (intro hX; clear_value xG) | (unfold xG; clear xG))
    | with_reducible apply good_closeCapture
    | with_reducible apply good_publishPennant
    | with_reducible apply good_logEv
    | with_reducible apply good_endInst
    | with_reducible apply good_emptyPager
    | (with_reducible apply good_foldl; intro xA yA hX)
    | with_reducible refine good_mk rfl rfl rfl rfl rfl rfl rfl rfl rfl ?_

theorem good_execCapoRelease {s : State} 
    (hG : Good b0 s) : GoodR b0 (execCapoRelease s) := by
  have hX := hG
  unfold execCapoRelease
  iterate 40 all_goals try first
    | with_reducible assumption
    | (extract_lets +onlyGivenNames xG; refine good_cut (A := Good b0 xG) ?_ ?_; all_goals first | (intro hX; clear_value xG) | (unfold xG; clear xG))
    | with_reducible apply good_advanceTo
    | with_reducible apply good_report
    | with_reducible apply good_endInj
    | with_reducible apply good_pagerRun
    | with_reducible apply good_closeLinkEval
    | with_reducible apply good_abortAtRelease
    | with_reducible apply good_switchPlan
    | with_reducible apply good_takeSlot
    | with_reducible apply good_applyExclusion
    | with_reducible apply good_createJobs
    | with_reducible apply good_takeEarly
    | with_reducible apply good_next
    | (with_reducible apply good_foldl; intro xA yA hX)
    | split
    | with_reducible refine good_mk rfl rfl rfl rfl rfl rfl rfl rfl rfl ?_

end Sys2Proof.Laws
end

