-- ==== Sys2Proof/Laws/GoodPorts.lean ====
section
/-! SUPPORT. What every operation and command of Machine/Ports.lean keeps, one lemma each. -/

set_option linter.all false

namespace Sys2Proof.Laws

open Sys2Proof.Machine

variable {b0 : State}

theorem good_modCsi {s : State} {p : Nat} {f : CsiPort → CsiPort} 
    (hG : Good b0 s) : Good b0 (State.modCsi s p f) := by
  have hF := hG
  unfold State.modCsi
  iterate 40 all_goals try first
    | with_reducible apply hF
    | with_reducible refine good_mk rfl rfl rfl rfl rfl rfl rfl rfl rfl ?_

theorem good_modEth {s : State} {e : Nat} {f : EthPort → EthPort} 
    (hG : Good b0 s) : Good b0 (State.modEth s e f) := by
  have hF := hG
  unfold State.modEth
  iterate 40 all_goals try first
    | with_reducible apply hF
    | with_reducible refine good_mk rfl rfl rfl rfl rfl rfl rfl rfl rfl ?_

theorem good_modT1s {s : State} {t : Nat} {f : T1sPort → T1sPort} 
    (hG : Good b0 s) : Good b0 (State.modT1s s t f) := by
  have hF := hG
  unfold State.modT1s
  iterate 40 all_goals try first
    | with_reducible apply hF
    | with_reducible refine good_mk rfl rfl rfl rfl rfl rfl rfl rfl rfl ?_

theorem good_refreshPorts {s : State} 
    (hG : Good b0 s) : Good b0 (State.refreshPorts s) := by
  have hX := hG
  unfold State.refreshPorts
  iterate 40 all_goals try first
    | with_reducible assumption
    | with_reducible apply good_setPort
    | with_reducible apply good_failPort
    | with_reducible apply good_refreshStreams
    | with_reducible apply good_modT1s
    | (with_reducible apply good_foldl; intro xA yA hX)
    | split

theorem good_execDphyCalibrationDone {port : Nat} {ok : Bool} {s : State} 
    (hG : Good b0 s) : GoodR b0 (execDphyCalibrationDone port ok s) := by
  have hF := hG
  unfold execDphyCalibrationDone
  iterate 40 all_goals try first
    | extract_lets +onlyGivenNames xG
    | with_reducible apply good_modCsi
    | with_reducible apply good_refreshPorts
    | with_reducible apply good_next
    | with_reducible apply hF
    | split

theorem good_pushItem {s : State} {k : Nat} {i : LandItem} 
    (hG : Good b0 s) : Good b0 (State.pushItem s k i) := by
  have hF := hG
  unfold State.pushItem
  iterate 40 all_goals try first
    | with_reducible apply good_modStream
    | with_reducible apply hF

theorem good_pushEvent {s : State} {k : Nat} {i : LandItem}
    (hG : Good b0 s) : Good b0 (State.pushEvent s k i) := by
  have hF := hG
  unfold State.pushEvent
  iterate 40 all_goals try first
    | with_reducible apply good_modStream
    | with_reducible apply good_pushItem
    | (with_reducible apply good_foldl; intro xA yA hX)
    | (with_reducible apply good_foldl1; intro xA yA hX)
    | (with_reducible apply good_ite <;> intro hC)
    | with_reducible apply hF
    | with_reducible assumption
    | split
    | (intro xA yA zA hX; with_reducible have hY : Good b0 xA := hX)
    | (intro xA yA hX; with_reducible have hY : Good b0 xA := hX)
    | (intro xA hX; with_reducible have hY : Good b0 xA := hX)
    | with_reducible refine good_mk rfl rfl rfl rfl rfl rfl rfl rfl rfl ?_

theorem good_endFrame {s : State} {k : Nat} {eof : Bool} {t : Nat} 
    (hG : Good b0 s) : Good b0 (State.endFrame s k eof t) := by
  have hF := hG
  unfold State.endFrame
  iterate 40 all_goals try first
    | extract_lets +onlyGivenNames xG
    | with_reducible apply good_modStream
    | with_reducible apply good_modFrame
    | with_reducible apply good_pushItem
    | with_reducible apply good_pushEvent
    | with_reducible apply hF
    | split

theorem good_expire {s : State} {k t : Nat} {eof : Bool} 
    (hG : Good b0 s) : Good b0 (State.expire s k t eof) := by
  have hF := hG
  unfold State.expire
  iterate 40 all_goals try first
    | with_reducible apply good_endFrame
    | with_reducible apply hF
    | split

theorem good_openFrame {s : State} {k raw t : Nat} 
    (hG : Good b0 s) : Good b0 (State.openFrame s k raw t) := by
  have hF := hG
  unfold State.openFrame
  iterate 40 all_goals try first
    | with_reducible apply good_modStream
    | with_reducible apply good_modFrame
    | with_reducible apply good_pushItem
    | with_reducible apply good_endFrame
    | with_reducible apply good_expire
    | with_reducible apply good_pushEvent
    | with_reducible apply hF
    | split
    | with_reducible refine good_mk rfl rfl rfl rfl rfl rfl rfl rfl rfl ?_

theorem good_landFull {s : State} {k : Nat} 
    (hG : Good b0 s) : Good b0 (State.landFull s k) := by
  have hF := hG
  unfold State.landFull
  iterate 40 all_goals try first
    | with_reducible apply good_modStream
    | with_reducible apply hF
    | with_reducible refine good_mk rfl rfl rfl rfl rfl rfl rfl rfl rfl ?_

theorem good_slotFor {s : State} {k : Nat} {slot : LandSlot} {t : State} (hG : Good b0 s)
    (e : s.slotFor k = some (slot, t)) : Good b0 t := by
  unfold State.slotFor at e
  split at e
  · injection e with e; injection e with _ e; exact e ▸ hG
  · cases h : s.oldestLine k with
    | none => simp [h] at e
    | some x =>
      simp only [h, Option.map_some, Option.some.injEq, Prod.mk.injEq] at e
      exact e.2 ▸ good_modStream hG

theorem good_placeLine {s : State} {k row : Nat} {data : List Byte}
    (hG : Good b0 s) : Good b0 (State.placeLine s k row data).1 := by
  have hF := hG
  unfold State.placeLine
  split
  · exact hG
  · extract_lets x c
    apply good_ite1 <;> intro _
    · dsimp only; exact good_modFrame hG
    · split
      · show Good b0 (if _ then _ else _)
        apply good_ite <;> intro _
        · exact good_landFull hG
        · exact hG
      · rename_i e
        dsimp only
        exact good_pushItem (good_modFrame (good_slotFor hG e))

theorem good_csiHeader {s : State} {port : Nat} {h : CsiHdr} 
    (hG : Good b0 s) : Good b0 (State.csiHeader s port h) := by
  have hF := hG
  unfold State.csiHeader
  iterate 40 all_goals try first
    | with_reducible apply good_modCsi
    | with_reducible apply hF

theorem good_execCsiFs {port vc frame t : Nat} {h : CsiHdr} {s : State} 
    (hG : Good b0 s) : GoodR b0 (execCsiFs port vc frame t h s) := by
  have hX := hG
  unfold execCsiFs
  iterate 40 all_goals try first
    | with_reducible assumption
    | with_reducible apply good_advanceTo
    | with_reducible apply good_openFrame
    | with_reducible apply good_csiHeader
    | with_reducible apply good_next
    | (with_reducible apply good_foldl; intro xA yA hX)
    | split

theorem good_csiOrphan {s : State} {port : Nat} 
    (hG : Good b0 s) : Good b0 (State.csiOrphan s port) := by
  have hF := hG
  unfold State.csiOrphan
  iterate 40 all_goals try first
    | with_reducible apply good_modCsi
    | with_reducible apply hF

theorem good_execCsiFe {port vc _frame t : Nat} {h : CsiHdr} {s : State} 
    (hG : Good b0 s) : GoodR b0 (execCsiFe port vc _frame t h s) := by
  have hX := hG
  unfold execCsiFe
  iterate 40 all_goals try first
    | with_reducible assumption
    | with_reducible apply good_advanceTo
    | with_reducible apply good_endFrame
    | with_reducible apply good_expire
    | with_reducible apply good_csiHeader
    | with_reducible apply good_csiOrphan
    | with_reducible apply good_next
    | (with_reducible apply good_foldl; intro xA yA hX)
    | extract_lets +onlyGivenNames xG
    | split

theorem good_execCsiLs {port vc line : Nat} {h : CsiHdr} {s : State} 
    (hG : Good b0 s) : GoodR b0 (execCsiLs port vc line h s) := by
  have hX := hG
  unfold execCsiLs
  iterate 40 all_goals try first
    | with_reducible assumption
    | with_reducible apply good_modStream
    | with_reducible apply good_csiHeader
    | with_reducible apply good_next
    | (with_reducible apply good_foldl; intro xA yA hX)
    | split

theorem good_execCsiLe {port _vc _line : Nat} {h : CsiHdr} {s : State} 
    (hG : Good b0 s) : GoodR b0 (execCsiLe port _vc _line h s) := by
  have hF := hG
  unfold execCsiLe
  iterate 40 all_goals try first
    | with_reducible apply good_csiHeader
    | with_reducible apply good_next
    | with_reducible apply hF
    | split

theorem good_execCsiDiscardPacket {port : Nat} {kind : CsiDiscard} {h : CsiHdr} {s : State}
    (hG : Good b0 s) : GoodR b0 (execCsiDiscardPacket port kind s h) := by
  have hF := hG
  unfold execCsiDiscardPacket
  iterate 40 all_goals try first
    | with_reducible apply good_modCsi
    | with_reducible apply good_csiHeader
    | with_reducible apply good_next
    | (with_reducible apply good_foldl; intro xA yA hX)
    | (with_reducible apply good_foldl1; intro xA yA hX)
    | (with_reducible apply good_ite <;> intro hC)
    | with_reducible apply hF
    | with_reducible assumption
    | split
    | (intro xA yA zA hX; with_reducible have hY : Good b0 xA := hX)
    | (intro xA yA hX; with_reducible have hY : Good b0 xA := hX)
    | (intro xA hX; with_reducible have hY : Good b0 xA := hX)
    | with_reducible refine good_mk rfl rfl rfl rfl rfl rfl rfl rfl rfl ?_

theorem good_csiRow {s : State} {port k row : Nat} {data : List Byte} 
    (hG : Good b0 s) : Good b0 (State.csiRow s port k row data) := by
  have hX := hG
  unfold State.csiRow
  iterate 40 all_goals try first
    | with_reducible assumption
    | (extract_lets +onlyGivenNames xG; refine good_cut (A := Good b0 xG) ?_ ?_; all_goals first | (intro hX; clear_value xG) | (unfold xG; clear xG))
    | extract_lets +onlyGivenNames xG
    | with_reducible apply good_modFrame
    | with_reducible apply good_modCsi
    | with_reducible apply good_pushItem
    | with_reducible apply good_placeLine
    | split
    | (clear_value *; split)
    | with_reducible refine good_fst (by assumption) ?_

theorem good_execCsiLongPacket {a : CsiPkt} {s : State} 
    (hG : Good b0 s) : GoodR b0 (execCsiLongPacket a s) := by
  have hX := hG
  unfold execCsiLongPacket
  iterate 40 all_goals try first
    | with_reducible assumption
    | (extract_lets +onlyGivenNames xG; refine good_cut (A := Good b0 xG) ?_ ?_; all_goals first | (intro hX; clear_value xG) | (unfold xG; clear xG))
    | extract_lets +onlyGivenNames xG
    | with_reducible apply good_advanceTo
    | with_reducible apply good_modStream
    | with_reducible apply good_modCsi
    | with_reducible apply good_expire
    | with_reducible apply good_csiHeader
    | with_reducible apply good_csiOrphan
    | with_reducible apply good_csiRow
    | with_reducible apply good_next
    | split
    | (clear_value *; split)

theorem good_execCsiClockLaneChange {port : Nat} {on : Bool} {s : State} 
    (hG : Good b0 s) : GoodR b0 (execCsiClockLaneChange port on s) := by
  have hF := hG
  unfold execCsiClockLaneChange
  iterate 40 all_goals try first
    | extract_lets +onlyGivenNames xG
    | with_reducible apply good_logEv
    | with_reducible apply good_modCsi
    | with_reducible apply good_next
    | with_reducible apply hF
    | split

theorem good_handSegment {s : State} {kind port k t : Nat} {data : List Byte}
    (hG : Good b0 s) : Good b0 (State.handSegment s kind port k t data) := by
  have hF := hG
  unfold State.handSegment
  iterate 40 all_goals try first
    | (with_reducible apply good_foldl; intro xA yA hX)
    | (with_reducible apply good_foldl1; intro xA yA hX)
    | (with_reducible apply good_ite <;> intro hC)
    | with_reducible apply hF
    | with_reducible assumption
    | split
    | (intro xA yA zA hX; with_reducible have hY : Good b0 xA := hX)
    | (intro xA yA hX; with_reducible have hY : Good b0 xA := hX)
    | (intro xA hX; with_reducible have hY : Good b0 xA := hX)
    | with_reducible refine good_mk rfl rfl rfl rfl rfl rfl rfl rfl rfl ?_

theorem good_noteSeq {s : State} {k : Nat} {q : Byte} 
    (hG : Good b0 s) : Good b0 (State.noteSeq s k q) := by
  have hF := hG
  unfold State.noteSeq
  iterate 40 all_goals try first
    | with_reducible apply good_modStream
    | with_reducible apply hF

theorem good_ethUnmatched {s : State} {port : Nat} 
    (hG : Good b0 s) : Good b0 (State.ethUnmatched s port) := by
  have hF := hG
  unfold State.ethUnmatched
  iterate 40 all_goals try first
    | with_reducible apply good_modEth
    | with_reducible apply hF

theorem good_ethMalformed {s : State} {port : Nat} 
    (hG : Good b0 s) : Good b0 (State.ethMalformed s port) := by
  have hF := hG
  unfold State.ethMalformed
  iterate 40 all_goals try first
    | with_reducible apply good_modEth
    | with_reducible apply hF

theorem good_ethTake {s : State} {port : Nat} {n : Nat} {v : EthVerdict}
    (hG : Good b0 s) : Good b0 (State.ethTake s port n v) := by
  have hF := hG
  cases v <;> unfold State.ethTake
  iterate 40 all_goals try first
    | (with_reducible apply good_ite <;> intro hC)
    | with_reducible apply good_modEth
    | with_reducible apply good_handSegment
    | with_reducible apply good_noteSeq
    | with_reducible apply good_ethUnmatched
    | with_reducible apply good_ethMalformed
    | with_reducible apply hF
    | split

theorem good_execEthFrame {a : EthIn} {s : State}
    (hG : Good b0 s) : GoodR b0 (execEthFrame a s) := by
  have hF := hG
  unfold execEthFrame
  iterate 40 all_goals try first
    | with_reducible apply good_advanceTo
    | with_reducible apply good_modEth
    | with_reducible apply good_ethTake
    | with_reducible apply good_next
    | (with_reducible apply good_foldl; intro xA yA hX)
    | (with_reducible apply good_foldl1; intro xA yA hX)
    | (with_reducible apply goodR_ite <;> intro hC)
    | (with_reducible apply good_ite <;> intro hC)
    | with_reducible apply hF
    | with_reducible assumption
    | split
    | with_reducible refine good_snd (by assumption) ?_
    | with_reducible refine good_fst (by assumption) ?_
    | (intro xA yA zA hX; with_reducible have hY : Good b0 xA := hX)
    | (intro xA yA hX; with_reducible have hY : Good b0 xA := hX)
    | (intro xA hX; with_reducible have hY : Good b0 xA := hX)
    | (refine good_lit hG ?_ ?_ ?_ ?_ ?_ ?_ ?_ ?_ ?_ <;> with_reducible rfl)
    | (refine good_lit hX ?_ ?_ ?_ ?_ ?_ ?_ ?_ ?_ ?_ <;> with_reducible rfl)
    | with_reducible refine good_mk rfl rfl rfl rfl rfl rfl rfl rfl rfl ?_

theorem good_nextOpp {s : State} {port : Nat} 
    (hG : Good b0 s) : Good b0 (State.nextOpp s port) := by
  have hF := hG
  unfold State.nextOpp
  iterate 40 all_goals try first
    | with_reducible apply good_modT1s
    | with_reducible apply hF

theorem good_execPlcaOpportunityExpiry {port : Nat} {s : State} 
    (hG : Good b0 s) : GoodR b0 (execPlcaOpportunityExpiry port s) := by
  have hF := hG
  unfold execPlcaOpportunityExpiry
  iterate 40 all_goals try first
    | with_reducible apply good_nextOpp
    | with_reducible apply good_next
    | with_reducible apply hF
    | split

theorem good_execT1sFrame {a : T1sIn} {s : State} 
    (hG : Good b0 s) : GoodR b0 (execT1sFrame a s) := by
  have hX := hG
  have hF := hG
  unfold execT1sFrame
  iterate 40 all_goals try first
    | with_reducible assumption
    | (extract_lets +onlyGivenNames xG; refine good_cut (A := Good b0 xG) ?_ ?_; all_goals first | (intro hX; clear_value xG) | (unfold xG; clear xG))
    | (extract_lets +onlyGivenNames xG; refine good_cut (A := ∀ y, Good b0 y → Good b0 (xG y)) ?gp ?gk; (case' gk => (intro hF; clear_value xG)); (case' gp => (unfold xG; clear xG; intro yA hX)))
    | extract_lets +onlyGivenNames xG
    | with_reducible apply good_advanceTo
    | with_reducible apply good_modT1s
    | with_reducible apply good_handSegment
    | with_reducible apply good_nextOpp
    | with_reducible apply good_next
    | with_reducible apply hF
    | split
    | (clear_value *; split)

theorem good_execPlcaRecovery {port : Nat} {collision : Bool} {s : State} 
    (hG : Good b0 s) : GoodR b0 (execPlcaRecovery port collision s) := by
  have hF := hG
  unfold execPlcaRecovery
  iterate 40 all_goals try first
    | with_reducible apply good_logEv
    | with_reducible apply good_modT1s
    | with_reducible apply good_next
    | with_reducible apply hF
    | split

theorem good_execPlcaRecoverySilenceEnd {port : Nat} {s : State} 
    (hG : Good b0 s) : GoodR b0 (execPlcaRecoverySilenceEnd port s) := by
  have hF := hG
  unfold execPlcaRecoverySilenceEnd
  iterate 40 all_goals try first
    | with_reducible apply good_modT1s
    | with_reducible apply good_next
    | with_reducible apply hF
    | split

theorem good_segMalformed {s : State} {q : SegReq} 
    (hG : Good b0 s) : Good b0 (State.segMalformed s q) := by
  have hF := hG
  unfold State.segMalformed
  iterate 40 all_goals try first
    | with_reducible apply good_modT1s
    | with_reducible apply good_ethMalformed
    | with_reducible apply hF
    | split

theorem good_segOrphan {s : State} {q : SegReq} 
    (hG : Good b0 s) : Good b0 (State.segOrphan s q) := by
  have hF := hG
  unfold State.segOrphan
  iterate 40 all_goals try first
    | with_reducible apply good_modEth
    | with_reducible apply good_modT1s
    | with_reducible apply hF
    | split

theorem good_segLines {s : State} {q : SegReq} 
    (hG : Good b0 s) : Good b0 (State.segLines s q) := by
  have hX := hG
  unfold State.segLines
  iterate 40 all_goals try first
    | with_reducible assumption
    | (extract_lets +onlyGivenNames xG; refine good_cut (A := Good b0 xG) ?_ ?_; all_goals first | (intro hX; clear_value xG) | (unfold xG; clear xG))
    | extract_lets +onlyGivenNames xG
    | with_reducible apply good_pushItem
    | with_reducible apply good_endFrame
    | with_reducible apply good_placeLine
    | (with_reducible apply good_foldl; intro xA yA hX)
    | split
    | (clear_value *; split)

theorem good_execSegment {s : State} 
    (hG : Good b0 s) : GoodR b0 (execSegment s) := by
  have hF := hG
  unfold execSegment
  iterate 40 all_goals try first
    | with_reducible apply good_endFrame
    | with_reducible apply good_expire
    | with_reducible apply good_openFrame
    | with_reducible apply good_segMalformed
    | with_reducible apply good_segOrphan
    | with_reducible apply good_segLines
    | with_reducible apply good_next
    | with_reducible apply hF
    | split
    | with_reducible refine good_mk rfl rfl rfl rfl rfl rfl rfl rfl rfl ?_

theorem good_execFrameWindowEnd {stream : Nat} {s : State} 
    (hG : Good b0 s) : GoodR b0 (execFrameWindowEnd stream s) := by
  have hF := hG
  unfold execFrameWindowEnd
  iterate 40 all_goals try first
    | with_reducible apply good_endFrame
    | with_reducible apply good_next
    | with_reducible apply hF
    | split

end Sys2Proof.Laws
end

