-- ==== Sys2Proof/Laws/GoodPower.lean ====
section
/-! SUPPORT. What every operation and command of Machine/Power.lean keeps, one lemma each. -/

set_option linter.all false

namespace Sys2Proof.Laws

open Sys2Proof.Machine

variable {b0 : State}

theorem base_mainReset {s : State} (h : Base b0 s) : Base b0 s.mainReset :=
  have g : Good { b0 with aon := s.aon, evr := { b0.evr with starts := s.evr.starts } } s :=
    ⟨⟨h.1, h.2, h.3, h.4, h.5, h.6⟩, id, id, rfl⟩
  have g := (good_mainReset g).1
  ⟨g.1, g.2, g.3, g.4, g.5, g.6⟩

/-- A cold start keeps what every command keeps. -/
theorem base_execColdStart {s : State} (h : Base b0 s) : ∀ t, execColdStart s = .next t → Base b0 t := by
  intro t e
  injection e with e
  subst e
  have g := base_mainReset h
  exact ⟨g.1, g.2, g.3, g.4, g.5, g.6⟩

theorem good_execAlwaysOnReset {s : State} (hG : Good b0 s) : GoodR b0 (execAlwaysOnReset s) := by
  unfold execAlwaysOnReset
  apply good_next
  extract_lets t
  have h : Good b0 t := good_mainReset hG
  clear_value t
  exact ⟨⟨h.1.1, h.1.2, h.1.3, h.1.4, h.1.5, h.1.6⟩, h.2, (fun e => by cases e), h.4⟩

theorem good_resetFor {s : State} {cause : Nat} 
    (hG : Good b0 s) : Good b0 (State.resetFor s cause) := by
  have hF := hG
  unfold State.resetFor
  iterate 40 all_goals try first
    | with_reducible apply good_mainReset
    | with_reducible apply good_addCause
    | with_reducible apply hF
    | with_reducible refine good_mk rfl rfl rfl rfl rfl rfl rfl rfl rfl ?_

theorem good_execBrownout {s : State} 
    (hG : Good b0 s) : GoodR b0 (execBrownout s) := by
  have hF := hG
  unfold execBrownout
  iterate 40 all_goals try first
    | with_reducible apply good_resetFor
    | with_reducible apply good_next
    | with_reducible apply hF
    | split

theorem good_stampReset {s old : State}
    (hG : Good b0 s) : Good b0 (State.stampReset s old) := by
  have hF := hG
  unfold State.stampReset
  iterate 40 all_goals try first
    | (with_reducible apply good_foldl; intro xA yA hX)
    | (with_reducible apply good_foldl1; intro xA yA hX)
    | (with_reducible apply good_ite <;> intro hC)
    | with_reducible apply hF
    | with_reducible assumption
    | split
    | (intro xA yA zA hX; with_reducible have hY : Good b0 xA := hX)
    | (intro xA yA hX; with_reducible have hY : Good b0 xA := hX)
    | (intro xA hX; with_reducible have hY : Good b0 xA := hX)
    | with_reducible refine good_mk rfl rfl rfl rfl rfl rfl rfl rfl rfl ?_

theorem good_execPinReset {s : State} 
    (hG : Good b0 s) : GoodR b0 (execPinReset s) := by
  have hF := hG
  unfold execPinReset
  iterate 40 all_goals try first
    | with_reducible apply good_resetFor
    | with_reducible apply good_stampReset
    | with_reducible apply good_next
    | with_reducible apply hF
    | split
    | with_reducible refine good_mk rfl rfl rfl rfl rfl rfl rfl rfl rfl ?_

theorem good_logControl {s : State} {path : Port} {off block : Nat} {v : Word} 
    (hG : Good b0 s) : Good b0 (State.logControl s path off block v) := by
  have hF := hG
  unfold State.logControl
  iterate 40 all_goals try first
    | with_reducible apply good_logEv
    | with_reducible apply hF

theorem good_execSoftReset {path : Port} {value : Word} {s : State} 
    (hG : Good b0 s) : GoodR b0 (execSoftReset path value s) := by
  have hF := hG
  unfold execSoftReset
  iterate 40 all_goals try first
    | with_reducible apply good_drainEvents
    | with_reducible apply good_resetFor
    | with_reducible apply good_logControl
    | with_reducible apply good_stampReset
    | with_reducible apply good_next
    | with_reducible apply hF
    | split
    | with_reducible refine good_mk rfl rfl rfl rfl rfl rfl rfl rfl rfl ?_

theorem good_execSoftResetHoldExpiry {s : State} 
    (hG : Good b0 s) : GoodR b0 (execSoftResetHoldExpiry s) := by
  have hF := hG
  unfold execSoftResetHoldExpiry
  iterate 40 all_goals try first
    | with_reducible apply good_next
    | with_reducible apply hF
    | with_reducible refine good_mk rfl rfl rfl rfl rfl rfl rfl rfl rfl ?_

theorem base_logEv {s : State} {code src arg : Nat} {inj : Bool} (h : Base b0 s) :
    Base b0 (s.logEv code src arg inj) := by
  unfold State.logEv
  split
  · exact ⟨h.1, h.2, by simp; omega, h.4, h.5, h.6⟩
  · exact ⟨h.1, h.2, h.3, h.4, h.5, h.6⟩

/-- An internal reset release keeps what every command keeps. -/
theorem base_execInternalResetRelease {straps : BitVec 9} {s : State} (h : Base b0 s) :
    ∀ t, execInternalResetRelease straps s = .next t → Base b0 t := by
  intro t e
  injection e with e
  subst e
  split
  · exact h
  · exact base_logEv ⟨h.1, h.2, h.3, h.4, h.5, h.6⟩

theorem good_execPllLock {s : State} 
    (hG : Good b0 s) : GoodR b0 (execPllLock s) := by
  have hF := hG
  unfold execPllLock
  iterate 40 all_goals try first
    | with_reducible apply good_takeFree
    | with_reducible apply good_setRdy
    | with_reducible apply good_mainReset
    | with_reducible apply good_next
    | with_reducible apply hF
    | split
    | with_reducible refine good_mk rfl rfl rfl rfl rfl rfl rfl rfl rfl ?_

theorem good_execStandbyRequest {path : Port} {value : Word} {s : State} 
    (hG : Good b0 s) : GoodR b0 (execStandbyRequest path value s) := by
  have hF := hG
  unfold execStandbyRequest
  iterate 40 all_goals try first
    | with_reducible apply good_enterStandby
    | with_reducible apply good_logControl
    | with_reducible apply good_idle
    | with_reducible apply good_next
    | with_reducible apply hF
    | split
    | with_reducible refine good_mk rfl rfl rfl rfl rfl rfl rfl rfl rfl ?_

theorem good_powerUp {s : State} 
    (hG : Good b0 s) : Good b0 (State.powerUp s) := by
  have hF := hG
  unfold State.powerUp
  iterate 40 all_goals try first
    | with_reducible apply hF
    | with_reducible refine good_mk rfl rfl rfl rfl rfl rfl rfl rfl rfl ?_

theorem good_execWakeRise {passed : Bool} {s : State} 
    (hG : Good b0 s) : GoodR b0 (execWakeRise passed s) := by
  have hF := hG
  unfold execWakeRise
  iterate 40 all_goals try first
    | with_reducible apply good_powerUp
    | with_reducible apply good_next
    | with_reducible apply hF
    | split
    | with_reducible refine good_mk rfl rfl rfl rfl rfl rfl rfl rfl rfl ?_

theorem good_execPwrEnMainRise {s : State} 
    (hG : Good b0 s) : GoodR b0 (execPwrEnMainRise s) := by
  have hF := hG
  unfold execPwrEnMainRise
  iterate 40 all_goals try first
    | with_reducible apply good_powerUp
    | with_reducible apply good_next
    | with_reducible apply hF
    | split

theorem good_execAonOscillatorStop {s : State} (h : Good b0 s) : GoodR b0 (execAonOscillatorStop s) := by
  unfold execAonOscillatorStop
  apply good_next
  exact ⟨⟨h.1.1, h.1.2, h.1.3, h.1.4, h.1.5, h.1.6⟩, h.2, (fun e => by cases e), h.4⟩

theorem good_monBits {s : State} {m : Word} {inj : Bool} 
    (hG : Good b0 s) : Good b0 (State.monBits s m inj) := by
  have hF := hG
  unfold State.monBits
  iterate 40 all_goals try first
    | with_reducible apply good_logEv
    | with_reducible apply hF
    | split
    | with_reducible refine good_mk rfl rfl rfl rfl rfl rfl rfl rfl rfl ?_

theorem good_monClear {s : State} {m : Word} 
    (hG : Good b0 s) : Good b0 (State.monClear s m) := by
  have hF := hG
  unfold State.monClear
  iterate 40 all_goals try first
    | with_reducible apply hF
    | with_reducible refine good_mk rfl rfl rfl rfl rfl rfl rfl rfl rfl ?_

theorem good_execSupplyMonitorCross {bit t : Nat} {a : CapoIn} {s : State} 
    (hG : Good b0 s) : GoodR b0 (execSupplyMonitorCross bit t a s) := by
  have hF := hG
  unfold execSupplyMonitorCross
  iterate 40 all_goals try first
    | with_reducible apply good_advanceTo
    | with_reducible apply good_condition
    | with_reducible apply good_monBits
    | with_reducible apply good_next
    | with_reducible apply hF
    | split
    | with_reducible refine good_mk rfl rfl rfl rfl rfl rfl rfl rfl rfl ?_

theorem good_execSupplyConditionClear {t : Nat} {s : State} 
    (hG : Good b0 s) : GoodR b0 (execSupplyConditionClear t s) := by
  have hF := hG
  unfold execSupplyConditionClear
  iterate 40 all_goals try first
    | with_reducible apply good_advanceTo
    | with_reducible apply good_monClear
    | with_reducible apply good_next
    | with_reducible apply hF
    | with_reducible refine good_mk rfl rfl rfl rfl rfl rfl rfl rfl rfl ?_

theorem good_clockFault {s : State} {m : Word} {a : CapoIn} 
    (hG : Good b0 s) : Good b0 (State.clockFault s m a) := by
  have hF := hG
  unfold State.clockFault
  iterate 40 all_goals try first
    | with_reducible apply good_clrRdy
    | with_reducible apply good_condition
    | with_reducible apply good_monBits
    | with_reducible apply hF
    | with_reducible refine good_mk rfl rfl rfl rfl rfl rfl rfl rfl rfl ?_

theorem good_execPllLockLoss {pll t : Nat} {a : CapoIn} {s : State} 
    (hG : Good b0 s) : GoodR b0 (execPllLockLoss pll t a s) := by
  have hF := hG
  unfold execPllLockLoss
  iterate 40 all_goals try first
    | with_reducible apply good_advanceTo
    | with_reducible apply good_clockFault
    | with_reducible apply good_next
    | with_reducible apply hF
    | split

theorem good_execPllFreqWindowEnd {off : BitVec 5} {t : Nat} {a : CapoIn} {s : State} 
    (hG : Good b0 s) : GoodR b0 (execPllFreqWindowEnd off t a s) := by
  have hF := hG
  unfold execPllFreqWindowEnd
  iterate 40 all_goals try first
    | with_reducible apply good_advanceTo
    | with_reducible apply good_clockFault
    | with_reducible apply good_next
    | with_reducible apply hF
    | split

theorem good_execReferenceLoss {t : Nat} {a : CapoIn} {s : State} 
    (hG : Good b0 s) : GoodR b0 (execReferenceLoss t a s) := by
  have hF := hG
  unfold execReferenceLoss
  iterate 40 all_goals try first
    | with_reducible apply good_advanceTo
    | with_reducible apply good_clockFault
    | with_reducible apply good_report
    | with_reducible apply good_next
    | with_reducible apply hF
    | split
    | with_reducible refine good_mk rfl rfl rfl rfl rfl rfl rfl rfl rfl ?_

theorem good_execClockConditionClear {t : Nat} {s : State} (hG : Good b0 s) :
    GoodR b0 (execClockConditionClear t s) := by
  unfold execClockConditionClear
  apply good_next
  apply good_ite <;> intro _
  · exact hG
  · extract_lets s1 x y s2
    have h2 : Good b0 s2 := good_lit (good_monClear (good_advanceTo hG)) rfl rfl rfl rfl rfl rfl rfl rfl rfl
    clear_value s2
    apply good_ite <;> intro _
    · exact good_refreshPorts (good_setRdy h2)
    · exact h2

theorem good_execDdrPllLockLoss {chan t : Nat} {a : CapoIn} {s : State} 
    (hG : Good b0 s) : GoodR b0 (execDdrPllLockLoss chan t a s) := by
  have hF := hG
  unfold execDdrPllLockLoss
  iterate 40 all_goals try first
    | with_reducible apply good_advanceTo
    | with_reducible apply good_condition
    | with_reducible apply good_monBits
    | with_reducible apply good_next
    | with_reducible apply hF
    | split
    | with_reducible refine good_mk rfl rfl rfl rfl rfl rfl rfl rfl rfl ?_

theorem good_leaveL0 {s : State} 
    (hG : Good b0 s) : Good b0 (State.leaveL0 s) := by
  have hF := hG
  unfold State.leaveL0
  iterate 40 all_goals try first
    | with_reducible apply good_clrRdy
    | with_reducible apply hF
    | with_reducible refine good_mk rfl rfl rfl rfl rfl rfl rfl rfl rfl ?_

theorem good_execPcieSerdesPllLoss {s : State} 
    (hG : Good b0 s) : GoodR b0 (execPcieSerdesPllLoss s) := by
  have hF := hG
  unfold execPcieSerdesPllLoss
  iterate 40 all_goals try first
    | with_reducible apply good_monBits
    | with_reducible apply good_leaveL0
    | with_reducible apply good_next
    | with_reducible apply hF
    | split
    | with_reducible refine good_mk rfl rfl rfl rfl rfl rfl rfl rfl rfl ?_

theorem good_execCourseTxPllLoss {link : Nat} {s : State} 
    (hG : Good b0 s) : GoodR b0 (execCourseTxPllLoss link s) := by
  have hF := hG
  unfold execCourseTxPllLoss
  iterate 40 all_goals try first
    | with_reducible apply good_linkDown
    | with_reducible apply good_monBits
    | with_reducible apply good_next
    | with_reducible apply hF
    | split
    | with_reducible refine good_mk rfl rfl rfl rfl rfl rfl rfl rfl rfl ?_

theorem good_thermal {s : State} {l : List Int} {a : CapoIn} {inj : Bool} 
    (hG : Good b0 s) : Good b0 (State.thermal s l a inj) := by
  have hX := hG
  unfold State.thermal
  iterate 40 all_goals try first
    | with_reducible assumption
    | (extract_lets +onlyGivenNames xG; refine good_cut (A := Good b0 xG) ?_ ?_; all_goals first | (intro hX; clear_value xG) | (unfold xG; clear xG))
    | extract_lets +onlyGivenNames xG
    | with_reducible apply good_logEv
    | with_reducible apply good_condition
    | with_reducible apply good_monBits
    | with_reducible apply good_monClear
    | split
    | exact ⟨⟨hX.1.1, hX.1.2, hX.1.3, hX.1.4, hX.1.5, hX.1.6⟩, (fun e => by cases e), hX.3, hX.4⟩
    | with_reducible refine good_mk rfl rfl rfl rfl rfl rfl rfl rfl rfl ?_

theorem good_execTempSample {milliC : List Int} {t : Nat} {a : CapoIn} {s : State} 
    (hG : Good b0 s) : GoodR b0 (execTempSample milliC t a s) := by
  have hX := hG
  unfold execTempSample
  iterate 40 all_goals try first
    | with_reducible assumption
    | (extract_lets +onlyGivenNames xG; refine good_cut (A := Good b0 xG) ?_ ?_; all_goals first | (intro hX; clear_value xG) | (unfold xG; clear xG))
    | with_reducible apply good_advanceTo
    | with_reducible apply good_thermal
    | with_reducible apply good_timeDue
    | with_reducible apply good_next
    | split
    | (clear_value *; split)
    | with_reducible refine good_mk rfl rfl rfl rfl rfl rfl rfl rfl rfl ?_

end Sys2Proof.Laws
end

