-- ==== Sys2Proof/Laws/GoodCourse.lean ====
section
/-! SUPPORT. What every operation and command of Machine/Course.lean keeps, one lemma each. -/

set_option linter.all false

namespace Sys2Proof.Laws

open Sys2Proof.Machine

variable {b0 : State}

theorem good_logLink {s : State} {k : Nat} 
    (hG : Good b0 s) : Good b0 (State.logLink s k) := by
  have hF := hG
  unfold State.logLink
  iterate 40 all_goals try first
    | with_reducible apply good_logEv
    | with_reducible apply hF

theorem good_beginTraining {s : State} {k : Nat} 
    (hG : Good b0 s) : Good b0 (State.beginTraining s k) := by
  have hF := hG
  unfold State.beginTraining
  iterate 40 all_goals try first
    | with_reducible apply good_modLink
    | with_reducible apply good_logLink
    | with_reducible apply hF
    | split

theorem good_linkFail {s : State} {k cause : Nat} 
    (hG : Good b0 s) : Good b0 (State.linkFail s k cause) := by
  have hF := hG
  unfold State.linkFail
  iterate 40 all_goals try first
    | with_reducible apply good_modLink
    | with_reducible apply good_linkUnready
    | with_reducible apply good_unlink
    | with_reducible apply good_failPort
    | with_reducible apply good_logLink
    | with_reducible apply hF

theorem good_comparePlan {s : State} {k : Nat} 
    (hG : Good b0 s) : Good b0 (State.comparePlan s k) := by
  have hF := hG
  unfold State.comparePlan
  iterate 40 all_goals try first
    | extract_lets +onlyGivenNames xG
    | with_reducible apply good_linkFail
    | with_reducible apply hF
    | split

theorem good_sendPlanInfo {s : State} {k : Nat} 
    (hG : Good b0 s) : Good b0 (State.sendPlanInfo s k) := by
  have hF := hG
  unfold State.sendPlanInfo
  iterate 40 all_goals try first
    | extract_lets +onlyGivenNames xG
    | with_reducible apply good_modLink
    | with_reducible apply good_sendFlit
    | with_reducible apply hF
    | split

theorem good_announcePlan {s : State} 
    (hG : Good b0 s) : Good b0 (State.announcePlan s) := by
  have hX := hG
  unfold State.announcePlan
  iterate 40 all_goals try first
    | with_reducible assumption
    | with_reducible apply good_comparePlan
    | with_reducible apply good_sendPlanInfo
    | (with_reducible apply good_foldl; intro xA yA hX)

theorem good_sendShare {s : State} {k net : Nat} 
    (hG : Good b0 s) : Good b0 (State.sendShare s k net) := by
  have hF := hG
  unfold State.sendShare
  iterate 40 all_goals try first
    | with_reducible apply good_modLink
    | with_reducible apply good_sendFlit
    | with_reducible apply hF
    | split

theorem good_shareNet {s : State} {net : Nat} 
    (hG : Good b0 s) : Good b0 (State.shareNet s net) := by
  have hX := hG
  unfold State.shareNet
  iterate 40 all_goals try first
    | with_reducible assumption
    | with_reducible apply good_sendShare
    | (with_reducible apply good_foldl; intro xA yA hX)

theorem good_shareAll {s : State} {k : Nat} 
    (hG : Good b0 s) : Good b0 (State.shareAll s k) := by
  have hX := hG
  unfold State.shareAll
  iterate 40 all_goals try first
    | with_reducible assumption
    | with_reducible apply good_sendShare
    | (with_reducible apply good_foldl; intro xA yA hX)
    | split

theorem good_rewind {s : State} {k : Nat} 
    (hG : Good b0 s) : Good b0 (State.rewind s k) := by
  have hF := hG
  unfold State.rewind
  iterate 40 all_goals try first
    | with_reducible apply good_modLink
    | with_reducible apply good_linkDown
    | with_reducible apply hF
    | split
    | with_reducible refine good_mk rfl rfl rfl rfl rfl rfl rfl rfl rfl ?_

theorem good_takeNak {s : State} {k : Nat} {n : Byte}
    (hG : Good b0 s) : Good b0 (State.takeNak s k n) := by
  have hF := hG
  unfold State.takeNak
  iterate 40 all_goals try first
    | with_reducible apply good_modLink
    | with_reducible apply good_rewind
    | (with_reducible apply good_foldl; intro xA yA hX)
    | (with_reducible apply good_foldl1; intro xA yA hX)
    | (with_reducible apply good_ite <;> intro hC)
    | with_reducible apply hF
    | with_reducible assumption
    | split
    | (intro xA yA zA hX; with_reducible have hY : Good b0 xA := hX)
    | (intro xA yA hX; with_reducible have hY : Good b0 xA := hX)
    | (intro xA hX; with_reducible have hY : Good b0 xA := hX)
    | with_reducible refine good_mk rfl rfl rfl rfl rfl rfl rfl rfl rfl ?_

theorem good_takeAck {s : State} {k : Nat} {f : FlitIn} 
    (hG : Good b0 s) : Good b0 (State.takeAck s k f) := by
  have hF := hG
  unfold State.takeAck
  iterate 40 all_goals try first
    | with_reducible apply good_modLink
    | with_reducible apply good_takeFree
    | with_reducible apply good_pumpLink
    | with_reducible apply good_pumpMsgs
    | with_reducible apply good_rewind
    | with_reducible apply good_takeNak
    | (with_reducible apply good_ite <;> intro hC)
    | with_reducible apply hF

theorem good_discardFlit {s : State} {k : Nat} {crcBad : Bool}
    (hG : Good b0 s) : Good b0 (State.discardFlit s k crcBad) := by
  have hF := hG
  unfold State.discardFlit
  iterate 40 all_goals try first
    | with_reducible apply good_modLink
    | with_reducible apply good_linkDown
    | (with_reducible apply good_foldl; intro xA yA hX)
    | (with_reducible apply good_foldl1; intro xA yA hX)
    | (with_reducible apply good_ite <;> intro hC)
    | with_reducible apply hF
    | with_reducible assumption
    | split
    | (intro xA yA zA hX; with_reducible have hY : Good b0 xA := hX)
    | (intro xA yA hX; with_reducible have hY : Good b0 xA := hX)
    | (intro xA hX; with_reducible have hY : Good b0 xA := hX)
    | with_reducible refine good_mk rfl rfl rfl rfl rfl rfl rfl rfl rfl ?_

theorem good_takeFlit {s : State} {k typ : Nat} {f : FlitIn}
    (hG : Good b0 s) : Good b0 (State.takeFlit s k typ f).1 := by
  have hF := hG
  unfold State.takeFlit
  iterate 40 all_goals try first
    | with_reducible apply good_advanceTo
    | with_reducible apply good_discardFlit
    | with_reducible apply good_linkDown
    | with_reducible apply good_takeAck
    | (with_reducible apply good_foldl; intro xA yA hX)
    | (with_reducible apply good_foldl1; intro xA yA hX)
    | (with_reducible apply good_ite <;> intro hC)
    | with_reducible apply hF
    | with_reducible assumption
    | split
    | (intro xA yA zA hX; with_reducible have hY : Good b0 xA := hX)
    | (intro xA yA hX; with_reducible have hY : Good b0 xA := hX)
    | (intro xA hX; with_reducible have hY : Good b0 xA := hX)
    | with_reducible refine good_mk rfl rfl rfl rfl rfl rfl rfl rfl rfl ?_

theorem good_accept {s : State} {k typ : Nat} {f : FlitIn}
    (hG : Good b0 s) : Good b0 (State.accept s k typ f).1 := by
  have hX := hG
  unfold State.accept
  iterate 40 all_goals try first
    | with_reducible assumption
    | (extract_lets +onlyGivenNames xG; refine good_cut (A := Good b0 xG) ?_ ?_; all_goals first | (intro hX; clear_value xG) | (unfold xG; clear xG))
    | (extract_lets +onlyGivenNames xG; refine good_cut (A := Good b0 (Prod.fst xG)) ?gp ?gk; (case' gk => (intro hX; clear_value xG)); (case' gp => (unfold xG; clear xG)))
    | (extract_lets +onlyGivenNames xG; refine good_cut (A := Good b0 (Prod.snd xG)) ?gp ?gk; (case' gk => (intro hX; clear_value xG)); (case' gp => (unfold xG; clear xG)))
    | (extract_lets +onlyGivenNames xG; refine good_cut (A := ∀ y, Good b0 y → Good b0 (xG y)) ?gp ?gk; (case' gk => (intro hF; clear_value xG)); (case' gp => (unfold xG; clear xG; intro yA hX)))
    | extract_lets +onlyGivenNames xG
    | with_reducible apply good_takeFlit
    | with_reducible apply good_modLink
    | with_reducible apply good_discardFlit
    | (with_reducible apply good_foldl; intro xA yA hX)
    | (with_reducible apply good_foldl1; intro xA yA hX)
    | split
    | (intro xA yA zA hX; with_reducible have hY : Good b0 xA := hX)
    | (intro xA yA hX; with_reducible have hY : Good b0 xA := hX)
    | (intro xA hX; with_reducible have hY : Good b0 xA := hX)
    | with_reducible refine good_snd (by assumption) ?_
    | with_reducible refine good_fst (by assumption) ?_
    | with_reducible refine good_mk rfl rfl rfl rfl rfl rfl rfl rfl rfl ?_

theorem good_onFlit {s : State} {k typ : Nat} {f : FlitIn} {g : State → State} (g_g : ∀ x, Good b0 x → Good b0 (g x))
    (hG : Good b0 s) : Good b0 (State.onFlit s k typ f g) := by
  have hF := hG
  unfold State.onFlit
  iterate 40 all_goals try first
    | with_reducible apply g_g
    | with_reducible apply good_accept
    | (with_reducible apply good_foldl; intro xA yA hX)
    | (with_reducible apply good_foldl1; intro xA yA hX)
    | (with_reducible apply good_ite <;> intro hC)
    | with_reducible apply hF
    | with_reducible assumption
    | split
    | (intro xA yA zA hX; with_reducible have hY : Good b0 xA := hX)
    | (intro xA yA hX; with_reducible have hY : Good b0 xA := hX)
    | (intro xA hX; with_reducible have hY : Good b0 xA := hX)
    | with_reducible refine good_mk rfl rfl rfl rfl rfl rfl rfl rfl rfl ?_

theorem good_execFlitIdle {link : Nat} {f : FlitIn} {s : State} 
    (hG : Good b0 s) : GoodR b0 (execFlitIdle link f s) := by
  have hF := hG
  unfold execFlitIdle
  iterate 40 all_goals try first
    | with_reducible apply good_takeFlit
    | with_reducible apply good_next
    | with_reducible apply hF

theorem good_execFlitCrcFail {link : Nat} {crcBad : Bool} {t : Nat} {s : State} 
    (hG : Good b0 s) : GoodR b0 (execFlitCrcFail link crcBad t s) := by
  have hF := hG
  unfold execFlitCrcFail
  iterate 40 all_goals try first
    | extract_lets +onlyGivenNames xG
    | with_reducible apply good_advanceTo
    | with_reducible apply good_modLink
    | with_reducible apply good_linkDown
    | with_reducible apply good_discardFlit
    | with_reducible apply good_next
    | with_reducible apply hF
    | split

theorem good_execReplayTimerExpiry {link : Nat} {s : State} 
    (hG : Good b0 s) : GoodR b0 (execReplayTimerExpiry link s) := by
  have hF := hG
  unfold execReplayTimerExpiry
  iterate 40 all_goals try first
    | with_reducible apply good_rewind
    | with_reducible apply good_next
    | with_reducible apply hF
    | split

theorem good_execLinkSilenceTimeout {link : Nat} {s : State} 
    (hG : Good b0 s) : GoodR b0 (execLinkSilenceTimeout link s) := by
  have hF := hG
  unfold execLinkSilenceTimeout
  iterate 40 all_goals try first
    | with_reducible apply good_linkDown
    | with_reducible apply good_next
    | with_reducible apply hF
    | split

theorem good_execLaneLockLoss {link : Nat} {s : State} 
    (hG : Good b0 s) : GoodR b0 (execLaneLockLoss link s) := by
  have hF := hG
  unfold execLaneLockLoss
  iterate 40 all_goals try first
    | with_reducible apply good_linkDown
    | with_reducible apply good_next
    | with_reducible apply hF
    | split

theorem good_execLinkRetrainTimer {link : Nat} {s : State} 
    (hG : Good b0 s) : GoodR b0 (execLinkRetrainTimer link s) := by
  have hF := hG
  unfold execLinkRetrainTimer
  iterate 40 all_goals try first
    | with_reducible apply good_beginTraining
    | with_reducible apply good_next
    | with_reducible apply hF
    | split

theorem good_execSkipInsert {link : Nat} {s : State}
    (hG : Good b0 s) : GoodR b0 (execSkipInsert link s) := by
  have hF := hG
  unfold execSkipInsert
  iterate 40 all_goals try first
    | with_reducible apply good_modLink
    | with_reducible apply good_next
    | (with_reducible apply good_foldl; intro xA yA hX)
    | (with_reducible apply good_foldl1; intro xA yA hX)
    | (with_reducible apply good_ite <;> intro hC)
    | with_reducible apply hF
    | with_reducible assumption
    | split
    | (intro xA yA zA hX; with_reducible have hY : Good b0 xA := hX)
    | (intro xA yA hX; with_reducible have hY : Good b0 xA := hX)
    | (intro xA hX; with_reducible have hY : Good b0 xA := hX)
    | with_reducible refine good_mk rfl rfl rfl rfl rfl rfl rfl rfl rfl ?_

theorem good_execHelloTimer {link : Nat} {s : State} 
    (hG : Good b0 s) : GoodR b0 (execHelloTimer link s) := by
  have hF := hG
  unfold execHelloTimer
  iterate 40 all_goals try first
    | with_reducible apply good_modLink
    | with_reducible apply good_sendFlit
    | with_reducible apply good_next
    | with_reducible apply hF
    | split

theorem good_linkUp {s : State} {k : Nat} {p : List Byte} 
    (hG : Good b0 s) : Good b0 (State.linkUp s k p) := by
  have hF := hG
  unfold State.linkUp
  iterate 40 all_goals try first
    | extract_lets +onlyGivenNames xG
    | with_reducible apply good_modLink
    | with_reducible apply good_setPort
    | with_reducible apply good_coordinate
    | with_reducible apply good_logLink
    | with_reducible apply good_comparePlan
    | with_reducible apply good_sendPlanInfo
    | with_reducible apply good_shareAll
    | with_reducible apply good_serdesLevel
    | with_reducible apply hF
    | split
    | with_reducible refine good_mk rfl rfl rfl rfl rfl rfl rfl rfl rfl ?_

theorem good_execHello {link : Nat} {f : FlitIn} {s : State} 
    (hG : Good b0 s) : GoodR b0 (execHello link f s) := by
  have hF := hG
  unfold execHello
  iterate 40 all_goals try first
    | extract_lets +onlyGivenNames xG
    | with_reducible apply good_modLink
    | with_reducible apply good_linkDown
    | with_reducible apply good_linkFail
    | with_reducible apply good_accept
    | with_reducible apply good_linkUp
    | with_reducible apply good_next
    | with_reducible apply hF
    | split

theorem good_execPlaninfo {link : Nat} {f : FlitIn} {s : State} 
    (hG : Good b0 s) : GoodR b0 (execPlaninfo link f s) := by
  have hX := hG
  unfold execPlaninfo
  iterate 40 all_goals try first
    | with_reducible assumption
    | with_reducible apply good_modLink
    | with_reducible apply good_comparePlan
    | with_reducible apply good_onFlit
    | with_reducible apply good_next
    | (intro xA hX; with_reducible have hY : Good b0 xA := hX)

theorem good_execCrsStartFlit {link : Nat} {f : FlitIn} {s : State} 
    (hG : Good b0 s) : GoodR b0 (execCrsStartFlit link f s) := by
  have hX := hG
  unfold execCrsStartFlit
  iterate 40 all_goals try first
    | with_reducible assumption
    | with_reducible apply good_modLink
    | with_reducible apply good_coordinate
    | with_reducible apply good_onFlit
    | with_reducible apply good_next
    | (intro xA hX; with_reducible have hY : Good b0 xA := hX)

theorem good_execShare {link : Nat} {f : FlitIn} {s : State} 
    (hG : Good b0 s) : GoodR b0 (execShare link f s) := by
  have hX := hG
  unfold execShare
  iterate 40 all_goals try first
    | with_reducible assumption
    | with_reducible apply good_modLink
    | with_reducible apply good_onFlit
    | with_reducible apply good_next
    | (intro xA hX; with_reducible have hY : Good b0 xA := hX)

theorem good_execBoundaryFlit {link : Nat} {f : FlitIn} {s : State} 
    (hG : Good b0 s) : GoodR b0 (execBoundaryFlit link f s) := by
  have hX := hG
  unfold execBoundaryFlit
  iterate 40 all_goals try first
    | with_reducible assumption
    | extract_lets +onlyGivenNames xG
    | with_reducible apply good_modLink
    | with_reducible apply good_coordinate
    | with_reducible apply good_evalLink
    | with_reducible apply good_onFlit
    | with_reducible apply good_next
    | split
    | (intro xA hX; with_reducible have hY : Good b0 xA := hX)

theorem good_peerFlit {s : State} {k typ : Nat} {p : List Byte} 
    (hG : Good b0 s) : Good b0 (State.peerFlit s k typ p) := by
  have hF := hG
  unfold State.peerFlit
  iterate 40 all_goals try first
    | with_reducible apply good_takePeer
    | with_reducible apply hF
    | split
    | with_reducible refine good_mk rfl rfl rfl rfl rfl rfl rfl rfl rfl ?_

theorem good_execDigestFlit {link : Nat} {f : FlitIn} {s : State} 
    (hG : Good b0 s) : GoodR b0 (execDigestFlit link f s) := by
  have hX := hG
  unfold execDigestFlit
  iterate 40 all_goals try first
    | with_reducible assumption
    | with_reducible apply good_onFlit
    | with_reducible apply good_peerFlit
    | with_reducible apply good_next
    | (intro xA hX; with_reducible have hY : Good b0 xA := hX)

theorem good_execEndFlit {link : Nat} {f : FlitIn} {s : State} 
    (hG : Good b0 s) : GoodR b0 (execEndFlit link f s) := by
  have hX := hG
  unfold execEndFlit
  iterate 40 all_goals try first
    | with_reducible assumption
    | with_reducible apply good_onFlit
    | with_reducible apply good_peerFlit
    | with_reducible apply good_next
    | (intro xA hX; with_reducible have hY : Good b0 xA := hX)

theorem good_offer {s : State} {k : Nat} {r : RemMsg} 
    (hG : Good b0 s) : Good b0 (State.offer s k r).1 := by
  have hF := hG
  unfold State.offer
  iterate 40 all_goals try first
    | with_reducible apply good_modTc
    | with_reducible apply good_linkDiscard
    | (with_reducible apply good_ite1 <;> intro hC)
    | with_reducible apply hF
    | split

theorem good_takeMsg {s : State} {k : Nat} {a b : List Byte}
    (hG : Good b0 s) : Good b0 (State.takeMsg s k a b) := by
  have hF := hG
  unfold State.takeMsg
  iterate 40 all_goals try first
    | with_reducible apply good_offer
    | with_reducible apply good_linkDiscard
    | with_reducible apply good_modLink
    | (with_reducible apply good_foldl; intro xA yA hX)
    | (with_reducible apply good_foldl1; intro xA yA hX)
    | (with_reducible apply good_ite <;> intro hC)
    | with_reducible apply hF
    | with_reducible assumption
    | split
    | (intro xA yA zA hX; with_reducible have hY : Good b0 xA := hX)
    | (intro xA yA hX; with_reducible have hY : Good b0 xA := hX)
    | (intro xA hX; with_reducible have hY : Good b0 xA := hX)
    | with_reducible refine good_mk rfl rfl rfl rfl rfl rfl rfl rfl rfl ?_

theorem good_execMsgPair {link : Nat} {f : FlitIn} {g : FlitIn} {s : State}
    (hG : Good b0 s) : GoodR b0 (execMsgPair link f g s) := by
  have hF := hG
  unfold execMsgPair
  iterate 40 all_goals try first
    | with_reducible apply good_onFlit
    | with_reducible apply good_modLink
    | with_reducible apply good_takeMsg
    | with_reducible apply good_next
    | (with_reducible apply good_foldl; intro xA yA hX)
    | (with_reducible apply good_foldl1; intro xA yA hX)
    | (with_reducible apply good_ite <;> intro hC)
    | with_reducible apply hF
    | with_reducible assumption
    | split
    | (intro xA yA zA hX; with_reducible have hY : Good b0 xA := hX)
    | (intro xA yA hX; with_reducible have hY : Good b0 xA := hX)
    | (intro xA hX; with_reducible have hY : Good b0 xA := hX)
    | with_reducible refine good_mk rfl rfl rfl rfl rfl rfl rfl rfl rfl ?_

theorem good_execRemoteMsgReoffer {link : Nat} {s : State} 
    (hG : Good b0 s) : GoodR b0 (execRemoteMsgReoffer link s) := by
  have hX := hG
  unfold execRemoteMsgReoffer
  iterate 40 all_goals try first
    | with_reducible assumption
    | extract_lets +onlyGivenNames xG
    | with_reducible apply good_modLink
    | with_reducible apply good_offer
    | with_reducible apply good_next
    | (with_reducible apply good_foldl; intro xA yA hX)
    | split

theorem good_execPageReq {link : Nat} {f : FlitIn} {s : State} 
    (hG : Good b0 s) : GoodR b0 (execPageReq link f s) := by
  have hX := hG
  unfold execPageReq
  iterate 40 all_goals try first
    | with_reducible assumption
    | extract_lets +onlyGivenNames xG
    | with_reducible apply good_addFetch
    | with_reducible apply good_pagerRun
    | with_reducible apply good_sendPage
    | with_reducible apply good_onFlit
    | with_reducible apply good_next
    | split
    | (intro xA hX; with_reducible have hY : Good b0 xA := hX)

theorem good_fallBack {s : State} {k net page : Nat} 
    (hG : Good b0 s) : Good b0 (State.fallBack s k net page) := by
  have hF := hG
  unfold State.fallBack
  iterate 40 all_goals try first
    | with_reducible apply good_modLink
    | with_reducible apply good_modStaging
    | with_reducible apply hF

theorem good_execPageHead {link : Nat} {f : FlitIn} {s : State} 
    (hG : Good b0 s) : GoodR b0 (execPageHead link f s) := by
  have hX := hG
  unfold execPageHead
  iterate 40 all_goals try first
    | with_reducible assumption
    | extract_lets +onlyGivenNames xG
    | with_reducible apply good_modLink
    | with_reducible apply good_onFlit
    | with_reducible apply good_fallBack
    | with_reducible apply good_next
    | split
    | (intro xA hX; with_reducible have hY : Good b0 xA := hX)

theorem good_execPageData {link : Nat} {f : FlitIn} {s : State} 
    (hG : Good b0 s) : GoodR b0 (execPageData link f s) := by
  have hX := hG
  unfold execPageData
  iterate 40 all_goals try first
    | with_reducible assumption
    | extract_lets +onlyGivenNames xG
    | with_reducible apply good_modLink
    | with_reducible apply good_stagePage
    | with_reducible apply good_onFlit
    | with_reducible apply good_fallBack
    | with_reducible apply good_next
    | split
    | (intro xA hX; with_reducible have hY : Good b0 xA := hX)

theorem good_execSharedPageFallback {net page : Nat} {s : State} 
    (hG : Good b0 s) : GoodR b0 (execSharedPageFallback net page s) := by
  have hF := hG
  unfold execSharedPageFallback
  iterate 40 all_goals try first
    | with_reducible apply good_fallBack
    | with_reducible apply good_next
    | with_reducible apply hF
    | split

theorem good_execLinkFence {path : Port} {link : Nat} {s : State} 
    (hG : Good b0 s) : GoodR b0 (execLinkFence path link s) := by
  have hF := hG
  unfold execLinkFence
  iterate 40 all_goals try first
    | with_reducible apply good_logEv
    | with_reducible apply good_modLink
    | with_reducible apply good_linkUnready
    | with_reducible apply good_unlink
    | with_reducible apply good_logLink
    | with_reducible apply good_next
    | with_reducible apply hF
    | split
    | with_reducible refine good_mk rfl rfl rfl rfl rfl rfl rfl rfl rfl ?_

theorem good_execLinkUnfence {path : Port} {link : Nat} {s : State} 
    (hG : Good b0 s) : GoodR b0 (execLinkUnfence path link s) := by
  have hF := hG
  unfold execLinkUnfence
  iterate 40 all_goals try first
    | with_reducible apply good_logEv
    | with_reducible apply good_beginTraining
    | with_reducible apply good_next
    | with_reducible apply hF
    | split
    | with_reducible refine good_mk rfl rfl rfl rfl rfl rfl rfl rfl rfl ?_

end Sys2Proof.Laws
end

