-- ==== Sys2Proof/Laws/GoodTimebase.lean ====
section
/-! SUPPORT. What every operation and command of Machine/Timebase.lean keeps, one lemma each. -/

set_option linter.all false

namespace Sys2Proof.Laws

open Sys2Proof.Machine

variable {b0 : State}

theorem good_setRate {s : State} {ppb : Int} 
    (hG : Good b0 s) : Good b0 (State.setRate s ppb) := by
  have hF := hG
  unfold State.setRate
  iterate 40 all_goals try first
    | with_reducible apply good_takeFree
    | with_reducible apply hF
    | with_reducible refine good_mk rfl rfl rfl rfl rfl rfl rfl rfl rfl ?_

theorem good_nominalRate {s : State}
    (hG : Good b0 s) : Good b0 (State.nominalRate s) := by
  have hF := hG
  unfold State.nominalRate
  iterate 40 all_goals try first
    | (with_reducible apply good_foldl; intro xA yA hX)
    | (with_reducible apply good_foldl1; intro xA yA hX)
    | (with_reducible apply good_ite <;> intro hC)
    | with_reducible apply hF
    | with_reducible assumption
    | split
    | (intro xA yA zA hX; with_reducible have hY : Good b0 xA := hX)
    | (intro xA yA hX; with_reducible have hY : Good b0 xA := hX)
    | (intro xA hX; with_reducible have hY : Good b0 xA := hX)
    | with_reducible refine good_mk rfl rfl rfl rfl rfl rfl rfl rfl rfl ?_

theorem good_loseLock {s : State} 
    (hG : Good b0 s) : Good b0 (State.loseLock s) := by
  have hF := hG
  unfold State.loseLock
  iterate 40 all_goals try first
    | with_reducible apply good_logEv
    | with_reducible apply good_report
    | with_reducible apply good_clrRdy
    | with_reducible apply good_setRate
    | with_reducible apply hF
    | split
    | with_reducible refine good_mk rfl rfl rfl rfl rfl rfl rfl rfl rfl ?_

theorem good_setCapable {s : State} {on : Bool} 
    (hG : Good b0 s) : Good b0 (State.setCapable s on) := by
  have hF := hG
  unfold State.setCapable
  iterate 40 all_goals try first
    | with_reducible apply good_loseLock
    | with_reducible apply hF
    | split
    | with_reducible refine good_mk rfl rfl rfl rfl rfl rfl rfl rfl rfl ?_

theorem good_setEpoch {s : State} {e : Int} 
    (hG : Good b0 s) : Good b0 (State.setEpoch s e) := by
  have hF := hG
  unfold State.setEpoch
  iterate 40 all_goals try first
    | with_reducible apply good_logEv
    | with_reducible apply hF
    | with_reducible refine good_mk rfl rfl rfl rfl rfl rfl rfl rfl rfl ?_

theorem good_stepTime {s : State} 
    (hG : Good b0 s) : Good b0 (State.stepTime s) := by
  have hF := hG
  unfold State.stepTime
  iterate 40 all_goals try first
    | with_reducible apply good_setEpoch
    | with_reducible apply hF
    | split
    | with_reducible refine good_mk rfl rfl rfl rfl rfl rfl rfl rfl rfl ?_

theorem good_gainLock {s : State} 
    (hG : Good b0 s) : Good b0 (State.gainLock s) := by
  have hF := hG
  unfold State.gainLock
  iterate 40 all_goals try first
    | with_reducible apply good_logEv
    | with_reducible apply good_setRdy
    | with_reducible apply good_tryStart
    | with_reducible apply good_stepTime
    | with_reducible apply hF
    | with_reducible refine good_mk rfl rfl rfl rfl rfl rfl rfl rfl rfl ?_

theorem good_acquire {s : State} {gptp t : Nat}
    (hG : Good b0 s) : Good b0 (State.acquire s gptp t) := by
  have hF := hG
  unfold State.acquire
  iterate 40 all_goals try first
    | with_reducible apply good_setEpoch
    | (with_reducible apply good_foldl; intro xA yA hX)
    | (with_reducible apply good_foldl1; intro xA yA hX)
    | (with_reducible apply good_ite <;> intro hC)
    | with_reducible apply hF
    | with_reducible assumption
    | split
    | (intro xA yA zA hX; with_reducible have hY : Good b0 xA := hX)
    | (intro xA yA hX; with_reducible have hY : Good b0 xA := hX)
    | (intro xA hX; with_reducible have hY : Good b0 xA := hX)
    | with_reducible refine good_mk rfl rfl rfl rfl rfl rfl rfl rfl rfl ?_

theorem good_noteSync {s : State} {a : SyncIn} {gptp t : Nat}
    (hG : Good b0 s) : Good b0 (State.noteSync s a gptp t) := by
  have hF := hG
  unfold State.noteSync
  iterate 40 all_goals try first
    | with_reducible apply good_takeFree
    | with_reducible apply good_setRate
    | (with_reducible apply good_foldl; intro xA yA hX)
    | (with_reducible apply good_foldl1; intro xA yA hX)
    | (with_reducible apply good_ite <;> intro hC)
    | with_reducible apply hF
    | with_reducible assumption
    | split
    | (intro xA yA zA hX; with_reducible have hY : Good b0 xA := hX)
    | (intro xA yA hX; with_reducible have hY : Good b0 xA := hX)
    | (intro xA hX; with_reducible have hY : Good b0 xA := hX)
    | with_reducible refine good_mk rfl rfl rfl rfl rfl rfl rfl rfl rfl ?_

theorem good_execGptpSync {a : SyncIn} {s : State} 
    (hG : Good b0 s) : GoodR b0 (execGptpSync a s) := by
  have hF := hG
  unfold execGptpSync
  iterate 40 all_goals try first
    | with_reducible apply good_advanceTo
    | with_reducible apply good_loseLock
    | with_reducible apply good_gainLock
    | with_reducible apply good_acquire
    | with_reducible apply good_noteSync
    | with_reducible apply good_next
    | with_reducible apply hF
    | split
    | with_reducible refine good_mk rfl rfl rfl rfl rfl rfl rfl rfl rfl ?_

theorem good_execGptpAnnounce {domain : Nat} {gm : DWord} {s : State} 
    (hG : Good b0 s) : GoodR b0 (execGptpAnnounce domain gm s) := by
  have hF := hG
  unfold execGptpAnnounce
  iterate 40 all_goals try first
    | with_reducible apply good_next
    | with_reducible apply hF
    | split
    | with_reducible refine good_mk rfl rfl rfl rfl rfl rfl rfl rfl rfl ?_

theorem good_execSyncReceiptTimeout {announce : Bool} {s : State} 
    (hG : Good b0 s) : GoodR b0 (execSyncReceiptTimeout announce s) := by
  have hF := hG
  unfold execSyncReceiptTimeout
  iterate 40 all_goals try first
    | with_reducible apply good_loseLock
    | with_reducible apply good_nominalRate
    | with_reducible apply good_next
    | with_reducible apply hF
    | split
    | with_reducible refine good_mk rfl rfl rfl rfl rfl rfl rfl rfl rfl ?_

theorem good_sendPtp {s : State} {typ flags : Nat} {seq : Half} {body : List Byte} 
    (hG : Good b0 s) : Good b0 (State.sendPtp s typ flags seq body) := by
  have hF := hG
  unfold State.sendPtp
  iterate 40 all_goals try first
    | with_reducible apply good_modEth
    | with_reducible apply hF
    | with_reducible refine good_mk rfl rfl rfl rfl rfl rfl rfl rfl rfl ?_

theorem good_execPdelayReqTimer {s : State} 
    (hG : Good b0 s) : GoodR b0 (execPdelayReqTimer s) := by
  have hF := hG
  unfold execPdelayReqTimer
  iterate 40 all_goals try first
    | with_reducible apply good_setCapable
    | with_reducible apply good_sendPtp
    | with_reducible apply good_next
    | with_reducible apply hF
    | split
    | with_reducible refine good_mk rfl rfl rfl rfl rfl rfl rfl rfl rfl ?_

theorem good_execPdelayReqReceived {domain : Nat} {seq : Half} {source : List Byte} {t1 t2 : Nat} {s : State} 
    (hG : Good b0 s) : GoodR b0 (execPdelayReqReceived domain seq source t1 t2 s) := by
  have hF := hG
  unfold execPdelayReqReceived
  iterate 40 all_goals try first
    | with_reducible apply good_sendPtp
    | with_reducible apply good_next
    | with_reducible apply hF
    | split

theorem good_execPdelayRespReceived {seq : Half} {t1 t2 t3 t4 : Nat} {s : State} 
    (hG : Good b0 s) : GoodR b0 (execPdelayRespReceived seq t1 t2 t3 t4 s) := by
  have hF := hG
  unfold execPdelayRespReceived
  iterate 40 all_goals try first
    | with_reducible apply good_setCapable
    | with_reducible apply good_next
    | with_reducible apply hF
    | split
    | with_reducible refine good_mk rfl rfl rfl rfl rfl rfl rfl rfl rfl ?_

theorem good_execEthLinkUp {port rate : Nat} {s : State} 
    (hG : Good b0 s) : GoodR b0 (execEthLinkUp port rate s) := by
  have hF := hG
  unfold execEthLinkUp
  iterate 40 all_goals try first
    | with_reducible apply good_modEth
    | with_reducible apply good_refreshPorts
    | with_reducible apply good_next
    | with_reducible apply hF
    | split

theorem good_execEthLinkDown {port : Nat} {s : State} 
    (hG : Good b0 s) : GoodR b0 (execEthLinkDown port s) := by
  have hF := hG
  unfold execEthLinkDown
  iterate 40 all_goals try first
    | with_reducible apply good_logEv
    | with_reducible apply good_clrPort
    | with_reducible apply good_refreshStreams
    | with_reducible apply good_modEth
    | with_reducible apply good_setCapable
    | with_reducible apply good_next
    | with_reducible apply hF
    | split

theorem good_execEthAddrWrite {path : Port} {port : Nat} {hi : Bool} {value : Word} {s : State} 
    (hG : Good b0 s) : GoodR b0 (execEthAddrWrite path port hi value s) := by
  have hF := hG
  unfold execEthAddrWrite
  iterate 40 all_goals try first
    | with_reducible apply good_modEth
    | with_reducible apply good_next
    | with_reducible apply hF
    | split

end Sys2Proof.Laws
end

