-- ==== Sys2Proof/Laws/GoodLoader.lean ====
section
/-! SUPPORT. What every operation and command of Machine/Loader.lean keeps, one lemma each. -/

set_option linter.all false

namespace Sys2Proof.Laws

open Sys2Proof.Machine

variable {b0 : State}

theorem good_logPair {s : State} {typ inst : Nat} {f : Fault1} {src : Nat} {o : LoadOut} 
    (hG : Good b0 s) : Good b0 (State.logPair s typ inst f src o) := by
  have hF := hG
  unfold State.logPair
  iterate 40 all_goals try first
    | with_reducible apply good_logEv
    | with_reducible apply hF
    | split
    | with_reducible refine good_mk rfl rfl rfl rfl rfl rfl rfl rfl rfl ?_

theorem good_rejectSection {s : State} {typ inst : Nat} {f : Fault1} {src : Nat} 
    (hG : Good b0 s) : Good b0 (State.rejectSection s typ inst f src) := by
  have hF := hG
  unfold State.rejectSection
  iterate 40 all_goals try first
    | with_reducible apply good_failRdy
    | with_reducible apply good_logPair
    | with_reducible apply hF
    | split

theorem good_refreshNets {s : State} 
    (hG : Good b0 s) : Good b0 (State.refreshNets s) := by
  have hX := hG
  unfold State.refreshNets
  iterate 40 all_goals try first
    | with_reducible assumption
    | with_reducible apply good_refreshStreams
    | with_reducible apply good_shareNet
    | (with_reducible apply good_foldl; intro xA yA hX)
    | split
    | with_reducible refine good_mk rfl rfl rfl rfl rfl rfl rfl rfl rfl ?_

theorem good_tellAlloc {s : State}
    (hG : Good b0 s) : Good b0 (State.tellAlloc s) := by
  have hF := hG
  unfold State.tellAlloc
  iterate 40 all_goals try first
    | with_reducible apply good_logPair
    | (with_reducible apply good_foldl; intro xA yA hX)
    | (with_reducible apply good_foldl1; intro xA yA hX)
    | (with_reducible apply good_ite <;> intro hC)
    | with_reducible apply hF
    | with_reducible assumption
    | split
    | (intro xA yA zA hX; with_reducible have hY : Good b0 xA := hX)
    | (intro xA yA hX; with_reducible have hY : Good b0 xA := hX)
    | (intro xA hX; with_reducible have hY : Good b0 xA := hX)
    | with_reducible refine good_mk rfl rfl rfl rfl rfl rfl rfl rfl rfl ?_

theorem good_spillCheck {s : State} 
    (hG : Good b0 s) : Good b0 (State.spillCheck s) := by
  have hF := hG
  unfold State.spillCheck
  iterate 40 all_goals try first
    | with_reducible apply good_rejectSection
    | with_reducible apply good_tellAlloc
    | with_reducible apply hF
    | split
    | with_reducible refine good_mk rfl rfl rfl rfl rfl rfl rfl rfl rfl ?_

theorem good_finishLoad {s : State} 
    (hG : Good b0 s) : Good b0 (State.finishLoad s) := by
  have hF := hG
  unfold State.finishLoad
  iterate 40 all_goals try first
    | with_reducible apply good_logEv
    | with_reducible apply good_setRdy
    | with_reducible apply good_recover
    | with_reducible apply good_spillCheck
    | with_reducible apply hF
    | split
    | with_reducible refine good_mk rfl rfl rfl rfl rfl rfl rfl rfl rfl ?_

theorem good_taskDone {s : State} {t : LoadTask} 
    (hG : Good b0 s) : Good b0 (State.taskDone s t) := by
  have hF := hG
  unfold State.taskDone
  iterate 40 all_goals try first
    | with_reducible apply hF
    | with_reducible refine good_mk rfl rfl rfl rfl rfl rfl rfl rfl rfl ?_

theorem good_beginRead {s : State} {i : Nat} 
    (hG : Good b0 s) : Good b0 (State.beginRead s i) := by
  have hF := hG
  unfold State.beginRead
  iterate 40 all_goals try first
    | with_reducible apply hF
    | split
    | with_reducible refine good_mk rfl rfl rfl rfl rfl rfl rfl rfl rfl ?_

theorem good_runTask {s : State} {k : LoadTask} (hG : Good b0 s) : GoodO b0 (s.runTask k) := by
  have hX := hG
  cases k <;> unfold State.runTask
  iterate 40 all_goals try first
    | with_reducible assumption
    | with_reducible apply goodO_some
    | with_reducible apply goodO_none
    | (with_reducible apply goodO_ite <;> intro hC)
    | with_reducible apply good_logPair
    | with_reducible apply good_taskDone
    | with_reducible apply good_rejectSection
    | with_reducible apply good_beginRead
    | with_reducible apply good_beginTraining
    | with_reducible apply good_failRdy
    | with_reducible apply good_spillCheck
    | with_reducible apply good_finishLoad
    | (refine good_lit hX ?_ ?_ ?_ ?_ ?_ ?_ ?_ ?_ ?_ <;> with_reducible rfl)
    | (with_reducible apply good_foldl; intro xA yA hX)
    | split

theorem good_goTasks : ∀ (l : List LoadTask) {s : State}, Good b0 s → Good b0 (goTasks l s)
  | [], s, h => by unfold goTasks; exact h
  | t :: ts, s, h => by
    unfold goTasks
    apply good_ite <;> intro _
    · exact good_goTasks ts h
    · split
      · exact h
      · rename_i e
        exact good_goTasks ts (good_runTask h _ _ e)
      · rename_i e
        exact good_runTask h _ _ e

theorem good_advanceLoad {s : State} 
    (hG : Good b0 s) : Good b0 (State.advanceLoad s) := by
  have hF := hG
  unfold State.advanceLoad
  iterate 40 all_goals try first
    | with_reducible apply good_goTasks
    | with_reducible apply hF
    | split

theorem good_takeLinks {s : State} {d : List Byte} 
    (hG : Good b0 s) : Good b0 (State.takeLinks s d) := by
  have hF := hG
  unfold State.takeLinks
  iterate 40 all_goals try first
    | with_reducible apply hF
    | with_reducible refine good_mk rfl rfl rfl rfl rfl rfl rfl rfl rfl ?_

theorem good_takeStreams {s : State} {d : List Byte} 
    (hG : Good b0 s) : Good b0 (State.takeStreams s d) := by
  have hF := hG
  unfold State.takeStreams
  iterate 40 all_goals try first
    | with_reducible apply good_setRdy
    | with_reducible apply good_refreshPorts
    | with_reducible apply hF
    | with_reducible refine good_mk rfl rfl rfl rfl rfl rfl rfl rfl rfl ?_

theorem good_takeRings {s : State} {d : List Byte} 
    (hG : Good b0 s) : Good b0 (State.takeRings s d) := by
  have hX := hG
  unfold State.takeRings
  iterate 40 all_goals try first
    | with_reducible assumption
    | with_reducible apply good_setRdy
    | with_reducible apply good_tryStart
    | (with_reducible apply good_foldl; intro xA yA hX)
    | split
    | with_reducible refine good_mk rfl rfl rfl rfl rfl rfl rfl rfl rfl ?_

theorem good_takeSafety {s : State} {d : List Byte} 
    (hG : Good b0 s) : Good b0 (State.takeSafety s d) := by
  have hF := hG
  unfold State.takeSafety
  iterate 40 all_goals try first
    | with_reducible apply good_setRdy
    | with_reducible apply good_tryStart
    | with_reducible apply hF
    | with_reducible refine good_mk rfl rfl rfl rfl rfl rfl rfl rfl rfl ?_

theorem good_takeChecks {s : State} {d : List Byte} 
    (hG : Good b0 s) : Good b0 (State.takeChecks s d) := by
  have hF := hG
  unfold State.takeChecks
  iterate 40 all_goals try first
    | with_reducible apply hF
    | with_reducible refine good_mk rfl rfl rfl rfl rfl rfl rfl rfl rfl ?_

theorem good_takeAlloc {s : State} {d : List Byte} 
    (hG : Good b0 s) : Good b0 (State.takeAlloc s d) := by
  have hF := hG
  unfold State.takeAlloc
  iterate 40 all_goals try first
    | with_reducible apply hF
    | with_reducible refine good_mk rfl rfl rfl rfl rfl rfl rfl rfl rfl ?_

theorem good_takeOrder {s : State} {d : List Byte} 
    (hG : Good b0 s) : Good b0 (State.takeOrder s d) := by
  have hF := hG
  unfold State.takeOrder
  iterate 40 all_goals try first
    | with_reducible apply hF
    | with_reducible refine good_mk rfl rfl rfl rfl rfl rfl rfl rfl rfl ?_

theorem good_takePlan {s : State} {d : List Byte} {v : Nat} 
    (hG : Good b0 s) : Good b0 (State.takePlan s d v) := by
  have hX := hG
  unfold State.takePlan
  iterate 40 all_goals try first
    | with_reducible assumption
    | with_reducible apply good_formGangs
    | with_reducible apply good_setRdy
    | with_reducible apply good_tryStart
    | with_reducible apply good_refreshPorts
    | with_reducible apply good_placeTile
    | with_reducible apply good_announcePlan
    | with_reducible apply good_refreshNets
    | (with_reducible apply good_foldl; intro xA yA hX)
    | split
    | with_reducible refine good_mk rfl rfl rfl rfl rfl rfl rfl rfl rfl ?_

theorem good_putBlock {s : State} {d : List Byte} {x : Nat × BlockCfg} 
    (hG : Good b0 s) : Good b0 (State.putBlock s d x) := by
  have hF := hG
  unfold State.putBlock
  iterate 40 all_goals try first
    | with_reducible apply good_modTile
    | with_reducible apply hF

theorem good_takeNetwork {s : State} {d : List Byte} {k : Nat} 
    (hG : Good b0 s) : Good b0 (State.takeNetwork s d k) := by
  have hX := hG
  unfold State.takeNetwork
  iterate 40 all_goals try first
    | with_reducible assumption
    | with_reducible apply good_formGangs
    | with_reducible apply good_refreshNets
    | with_reducible apply good_putBlock
    | (with_reducible apply good_foldl; intro xA yA hX)
    | with_reducible refine good_mk rfl rfl rfl rfl rfl rfl rfl rfl rfl ?_

theorem good_takeWeights {s : State} {d : List Byte} {k : Nat}
    (hG : Good b0 s) : Good b0 (State.takeWeights s d k) := by
  have hF := hG
  unfold State.takeWeights
  iterate 40 all_goals try first
    | with_reducible apply good_refreshNets
    | with_reducible apply good_dramPut
    | (with_reducible apply good_foldl; intro xA yA hX)
    | (with_reducible apply good_foldl1; intro xA yA hX)
    | (with_reducible apply good_ite <;> intro hC)
    | with_reducible apply hF
    | with_reducible assumption
    | split
    | (intro xA yA zA hX; with_reducible have hY : Good b0 xA := hX)
    | (intro xA yA hX; with_reducible have hY : Good b0 xA := hX)
    | (intro xA hX; with_reducible have hY : Good b0 xA := hX)
    | with_reducible refine good_mk rfl rfl rfl rfl rfl rfl rfl rfl rfl ?_

theorem good_takeSection {s : State} {e : DirEntry} {d : List Byte} 
    (hG : Good b0 s) : Good b0 (State.takeSection s e d) := by
  have hF := hG
  unfold State.takeSection
  iterate 40 all_goals try first
    | with_reducible apply good_takeLinks
    | with_reducible apply good_takeStreams
    | with_reducible apply good_takeRings
    | with_reducible apply good_takeSafety
    | with_reducible apply good_takeChecks
    | with_reducible apply good_takeAlloc
    | with_reducible apply good_takeOrder
    | with_reducible apply good_takePlan
    | with_reducible apply good_takeNetwork
    | with_reducible apply good_takeWeights
    | with_reducible apply hF
    | split

theorem good_decideSection {s : State} {e : DirEntry} {a : SectionIn}
    (hG : Good b0 s) : Good b0 (State.decideSection s e a) := by
  have hF := hG
  unfold State.decideSection
  iterate 40 all_goals try first
    | with_reducible apply good_takeSection
    | with_reducible apply good_logPair
    | with_reducible apply good_rejectSection
    | (with_reducible apply good_foldl; intro xA yA hX)
    | (with_reducible apply good_foldl1; intro xA yA hX)
    | (with_reducible apply good_ite <;> intro hC)
    | with_reducible apply hF
    | with_reducible assumption
    | split
    | (intro xA yA zA hX; with_reducible have hY : Good b0 xA := hX)
    | (intro xA yA hX; with_reducible have hY : Good b0 xA := hX)
    | (intro xA hX; with_reducible have hY : Good b0 xA := hX)
    | with_reducible refine good_mk rfl rfl rfl rfl rfl rfl rfl rfl rfl ?_

theorem good_addLoadBytes {s : State} {l : List (Option (List Byte))} 
    (hG : Good b0 s) : Good b0 (State.addLoadBytes s l) := by
  have hF := hG
  unfold State.addLoadBytes
  iterate 40 all_goals try first
    | with_reducible apply good_loadBytes
    | with_reducible apply hF
    | with_reducible refine good_mk rfl rfl rfl rfl rfl rfl rfl rfl rfl ?_

theorem good_execSectionReadDone {a : SectionIn} {s : State} 
    (hG : Good b0 s) : GoodR b0 (execSectionReadDone a s) := by
  have hF := hG
  unfold execSectionReadDone
  iterate 40 all_goals try first
    | with_reducible apply good_taskDone
    | with_reducible apply good_advanceLoad
    | with_reducible apply good_decideSection
    | with_reducible apply good_addLoadBytes
    | with_reducible apply good_next
    | with_reducible apply hF
    | split
    | with_reducible refine good_mk rfl rfl rfl rfl rfl rfl rfl rfl rfl ?_

theorem good_failXspi {s : State} 
    (hG : Good b0 s) : Good b0 (State.failXspi s) := by
  have hF := hG
  unfold State.failXspi
  iterate 40 all_goals try first
    | with_reducible apply good_failRdy
    | with_reducible apply good_finishLoad
    | with_reducible apply hF

theorem good_execXspiDiscoveryDone {a : SfdpIn} {s : State} 
    (hG : Good b0 s) : GoodR b0 (execXspiDiscoveryDone a s) := by
  have hF := hG
  unfold execXspiDiscoveryDone
  iterate 40 all_goals try first
    | with_reducible apply good_setRdy
    | with_reducible apply good_examineSlots
    | with_reducible apply good_finishLoad
    | with_reducible apply good_failXspi
    | with_reducible apply good_next
    | with_reducible apply hF
    | split
    | with_reducible refine good_mk rfl rfl rfl rfl rfl rfl rfl rfl rfl ?_

theorem good_useCopy {s : State} {copy base : Nat} {h : List Byte} {dir alt : List DirEntry} {altValid : Bool} 
    (hG : Good b0 s) : Good b0 (State.useCopy s copy base h dir alt altValid) := by
  have hF := hG
  unfold State.useCopy
  iterate 40 all_goals try first
    | with_reducible apply good_setRdy
    | with_reducible apply good_advanceLoad
    | with_reducible apply hF
    | with_reducible refine good_mk rfl rfl rfl rfl rfl rfl rfl rfl rfl ?_

theorem good_execHeaderAndDirectoryRead {a : HeaderIn} {s : State} 
    (hG : Good b0 s) : GoodR b0 (execHeaderAndDirectoryRead a s) := by
  have hF := hG
  unfold execHeaderAndDirectoryRead
  iterate 40 all_goals try first
    | with_reducible apply good_failRdy
    | with_reducible apply good_finishLoad
    | with_reducible apply good_addLoadBytes
    | with_reducible apply good_useCopy
    | with_reducible apply good_next
    | with_reducible apply hF
    | split
    | with_reducible refine good_mk rfl rfl rfl rfl rfl rfl rfl rfl rfl ?_

theorem good_emmcEnd {s : State} {ok : Bool} 
    (hG : Good b0 s) : Good b0 (State.emmcEnd s ok) := by
  have hF := hG
  unfold State.emmcEnd
  iterate 40 all_goals try first
    | with_reducible apply good_setRdy
    | with_reducible apply good_failRdy
    | with_reducible apply good_advanceLoad
    | with_reducible apply hF
    | split
    | with_reducible refine good_mk rfl rfl rfl rfl rfl rfl rfl rfl rfl ?_

theorem good_execEmmcBringupDone {hs400 : Bool} {s : State} 
    (hG : Good b0 s) : GoodR b0 (execEmmcBringupDone hs400 s) := by
  have hF := hG
  unfold execEmmcBringupDone
  iterate 40 all_goals try first
    | with_reducible apply good_emmcEnd
    | with_reducible apply good_next
    | with_reducible apply hF
    | split

theorem good_dramEnd {s : State} {ok : Bool} {capacityMiB : Nat} 
    (hG : Good b0 s) : Good b0 (State.dramEnd s ok capacityMiB) := by
  have hF := hG
  unfold State.dramEnd
  iterate 40 all_goals try first
    | with_reducible apply good_setRdy
    | with_reducible apply good_failRdy
    | with_reducible apply good_refreshNets
    | with_reducible apply good_spillCheck
    | with_reducible apply good_advanceLoad
    | with_reducible apply good_tellAlloc
    | with_reducible apply hF
    | split
    | with_reducible refine good_mk rfl rfl rfl rfl rfl rfl rfl rfl rfl ?_

theorem good_execDramTrainingDone {ok : Bool} {capacityMiB : Nat} {s : State} 
    (hG : Good b0 s) : GoodR b0 (execDramTrainingDone ok capacityMiB s) := by
  have hF := hG
  unfold execDramTrainingDone
  iterate 40 all_goals try first
    | with_reducible apply good_dramEnd
    | with_reducible apply good_next
    | with_reducible apply hF
    | split

theorem good_execBringupBoundExpiry {which : Bringup} {s : State} 
    (hG : Good b0 s) : GoodR b0 (execBringupBoundExpiry which s) := by
  have hF := hG
  unfold execBringupBoundExpiry
  iterate 40 all_goals try first
    | with_reducible apply good_modCsi
    | with_reducible apply good_refreshPorts
    | with_reducible apply good_failXspi
    | with_reducible apply good_emmcEnd
    | with_reducible apply good_dramEnd
    | with_reducible apply good_next
    | with_reducible apply hF
    | split

end Sys2Proof.Laws
end

