-- ==== Sys2Proof/Laws/GoodRegs.lean ====
section
/-! SUPPORT. What every operation and command of Machine/Regs.lean keeps, one lemma each. -/

set_option linter.all false

namespace Sys2Proof.Laws

open Sys2Proof.Machine

variable {b0 : State}

/-- What a read finds keeps it. -/
def GoodV (b : State) (v : RegVal) : Prop := ∀ w t, v = .eff w t → Good b t

theorem goodV_val {w : Word} : GoodV b0 (.val w) := fun _ _ e => by cases e

theorem goodV_lo {d : DWord} : GoodV b0 (.lo d) := fun _ _ e => by cases e

theorem goodV_hi : GoodV b0 .hi := fun _ _ e => by cases e

theorem goodV_eff {w : Word} {t : State} (h : Good b0 t) : GoodV b0 (.eff w t) := fun _ _ e => by
  injection e with _ e; exact e ▸ h

theorem goodV_ite {c : Prop} [Decidable c] {a b : RegVal} (h1 : c → GoodV b0 a) (h2 : ¬c → GoodV b0 b) :
    GoodV b0 (if c then a else b) := by split <;> simp_all

theorem good_n2v {n : Nat} : GoodV b0 (n2v n) := goodV_val

theorem good_pairsAt {l : List DWord} {k : Nat} 
     : GoodV b0 (pairsAt l k) := by
  have hG := trivial
  unfold pairsAt
  iterate 40 all_goals try first
    | with_reducible apply goodV_lo
    | with_reducible apply goodV_hi
    | split

theorem good_bytesAt {l : List Byte} {off : Nat} 
     : GoodV b0 (bytesAt l off) := by
  have hG := trivial
  unfold bytesAt
  iterate 40 all_goals try first
    | with_reducible apply goodV_val

theorem good_mapWord {m : BitVec 256} {i : Nat} 
     : GoodV b0 (mapWord m i) := by
  have hG := trivial
  unfold mapWord
  iterate 40 all_goals try first
    | with_reducible apply goodV_val

theorem good_sysReg {s : State} {path : Port} {off : Nat} 
    (hG : Good b0 s) : GoodV b0 (State.sysReg s path off) := by
  unfold State.sysReg
  iterate 40 all_goals try first
    | with_reducible apply good_n2v
    | with_reducible apply good_ovlSys
    | with_reducible apply good_ovlPrd
    | with_reducible apply good_ovlSch
    | with_reducible apply good_ovlRing
    | with_reducible apply good_ovlStrm
    | with_reducible apply good_ovlSaf
    | with_reducible apply good_ovlEvr
    | with_reducible apply good_ovlCrs
    | with_reducible apply good_ovlDram
    | with_reducible apply goodV_val
    | with_reducible apply goodV_lo
    | with_reducible apply goodV_hi
    | split

theorem good_rdyReg {s : State} {off : Nat} 
    (hG : Good b0 s) : GoodV b0 (State.rdyReg s off) := by
  unfold State.rdyReg
  iterate 40 all_goals try first
    | with_reducible apply good_n2v
    | with_reducible apply good_mapWord
    | with_reducible apply good_loadBytes
    | with_reducible apply goodV_val
    | with_reducible apply goodV_lo
    | with_reducible apply goodV_hi
    | split

theorem good_prdReg {s : State} {off : Nat} 
    (hG : Good b0 s) : GoodV b0 (State.prdReg s off) := by
  unfold State.prdReg
  iterate 40 all_goals try first
    | with_reducible apply good_n2v
    | with_reducible apply goodV_val
    | with_reducible apply goodV_lo
    | with_reducible apply goodV_hi
    | split

theorem good_penReg {s : State} {off : Nat} 
    (hG : Good b0 s) : GoodV b0 (State.penReg s off) := by
  unfold State.penReg
  iterate 40 all_goals try first
    | with_reducible apply good_n2v
    | with_reducible apply goodV_val
    | split

theorem good_schReg {s : State} {off : Nat} 
    (hG : Good b0 s) : GoodV b0 (State.schReg s off) := by
  have hF := hG
  unfold State.schReg
  iterate 40 all_goals try first
    | extract_lets +onlyGivenNames xG
    | with_reducible apply good_n2v
    | with_reducible apply goodV_val
    | with_reducible apply goodV_eff
    | with_reducible apply hF
    | split
    | with_reducible refine good_mk rfl rfl rfl rfl rfl rfl rfl rfl rfl ?_

theorem good_ringReg {s : State} {k off : Nat} 
    (hG : Good b0 s) : GoodV b0 (State.ringReg s k off) := by
  unfold State.ringReg
  iterate 40 all_goals try first
    | with_reducible apply good_n2v
    | with_reducible apply goodV_val
    | split

theorem good_ringBlkReg {s : State} {off : Nat} 
    (hG : Good b0 s) : GoodV b0 (State.ringBlkReg s off) := by
  have hF := hG
  unfold State.ringBlkReg
  iterate 40 all_goals try first
    | with_reducible apply good_n2v
    | with_reducible apply good_ringReg
    | with_reducible apply goodV_val
    | with_reducible apply goodV_eff
    | with_reducible apply hF
    | split
    | with_reducible refine good_mk rfl rfl rfl rfl rfl rfl rfl rfl rfl ?_

theorem good_ctxReg {s : State} {k off : Nat} 
    (hG : Good b0 s) : GoodV b0 (State.ctxReg s k off) := by
  unfold State.ctxReg
  iterate 40 all_goals try first
    | with_reducible apply goodV_val
    | split

theorem good_csiReg {s : State} {p off : Nat} 
    (hG : Good b0 s) : GoodV b0 (State.csiReg s p off) := by
  unfold State.csiReg
  iterate 40 all_goals try first
    | with_reducible apply good_n2v
    | with_reducible apply goodV_val
    | split

theorem good_ethReg {s : State} {e off : Nat} 
    (hG : Good b0 s) : GoodV b0 (State.ethReg s e off) := by
  unfold State.ethReg
  iterate 40 all_goals try first
    | with_reducible apply good_n2v
    | with_reducible apply goodV_val
    | split

theorem good_t1sReg {s : State} {t off : Nat} 
    (hG : Good b0 s) : GoodV b0 (State.t1sReg s t off) := by
  unfold State.t1sReg
  iterate 40 all_goals try first
    | with_reducible apply good_n2v
    | with_reducible apply goodV_val
    | split

theorem good_intakeReg {s : State} {off : Nat} 
    (hG : Good b0 s) : GoodV b0 (State.intakeReg s off) := by
  have hF := hG
  unfold State.intakeReg
  iterate 40 all_goals try first
    | with_reducible apply good_n2v
    | with_reducible apply goodV_val
    | with_reducible apply goodV_lo
    | with_reducible apply goodV_hi
    | with_reducible apply goodV_eff
    | with_reducible apply hF
    | split
    | with_reducible refine good_mk rfl rfl rfl rfl rfl rfl rfl rfl rfl ?_

theorem good_StreamRt_guardReg {x : StreamRt} {off : Nat} 
     : GoodV b0 (StreamRt.guardReg x off) := by
  have hG := trivial
  unfold StreamRt.guardReg
  iterate 40 all_goals try first
    | with_reducible apply good_n2v
    | split

theorem good_StreamRt_statReg {x : StreamRt} {off : Nat} 
     : GoodV b0 (StreamRt.statReg x off) := by
  have hG := trivial
  unfold StreamRt.statReg
  iterate 40 all_goals try first
    | with_reducible apply good_n2v
    | with_reducible apply goodV_val
    | with_reducible apply goodV_lo
    | with_reducible apply goodV_hi
    | split

theorem good_tbReg {s : State} {off : Nat} 
    (hG : Good b0 s) : GoodV b0 (State.tbReg s off) := by
  unfold State.tbReg
  iterate 40 all_goals try first
    | with_reducible apply good_n2v
    | with_reducible apply goodV_val
    | with_reducible apply goodV_lo
    | with_reducible apply goodV_hi
    | split

theorem good_strmReg {s : State} {off : Nat} 
    (hG : Good b0 s) : GoodV b0 (State.strmReg s off) := by
  have hF := hG
  unfold State.strmReg
  iterate 40 all_goals try first
    | extract_lets +onlyGivenNames xG
    | with_reducible apply good_n2v
    | with_reducible apply good_ctxReg
    | with_reducible apply good_csiReg
    | with_reducible apply good_ethReg
    | with_reducible apply good_t1sReg
    | with_reducible apply good_intakeReg
    | with_reducible apply good_StreamRt_guardReg
    | with_reducible apply good_StreamRt_statReg
    | with_reducible apply good_tbReg
    | with_reducible apply good_guardReg
    | with_reducible apply good_statReg
    | with_reducible apply hF
    | split

theorem good_safReg {s : State} {off : Nat} 
    (hG : Good b0 s) : GoodV b0 (State.safReg s off) := by
  unfold State.safReg
  iterate 40 all_goals try first
    | with_reducible apply good_n2v
    | with_reducible apply good_bytesAt
    | with_reducible apply good_mapWord
    | with_reducible apply goodV_val
    | split

theorem good_liveWord {s : State} {i off : Nat}
    (hG : Good b0 s) : GoodV b0 (State.liveWord s i off) := by
  have hF := hG
  unfold State.liveWord
  iterate 40 all_goals try first
    | with_reducible apply good_readEntry
    | with_reducible apply good_n2v
    | (with_reducible apply good_foldl; intro xA yA hX)
    | (with_reducible apply good_foldl1; intro xA yA hX)
    | (with_reducible apply good_ite <;> intro hC)
    | with_reducible apply hF
    | with_reducible assumption
    | split
    | with_reducible apply goodV_val
    | with_reducible apply goodV_eff
    | with_reducible apply goodV_lo
    | with_reducible apply goodV_hi
    | (intro xA yA zA hX; with_reducible have hY : Good b0 xA := hX)
    | (intro xA yA hX; with_reducible have hY : Good b0 xA := hX)
    | (intro xA hX; with_reducible have hY : Good b0 xA := hX)
    | with_reducible refine good_mk rfl rfl rfl rfl rfl rfl rfl rfl rfl ?_

theorem good_evrReg {s : State} {path : Port} {off : Nat}
    (hG : Good b0 s) : GoodV b0 (State.evrReg s path off) := by
  have hF := hG
  unfold State.evrReg
  iterate 40 all_goals try first
    | with_reducible apply good_bytesAt
    | with_reducible apply good_liveWord
    | with_reducible apply good_n2v
    | (with_reducible apply good_foldl; intro xA yA hX)
    | (with_reducible apply good_foldl1; intro xA yA hX)
    | (with_reducible apply good_ite <;> intro hC)
    | with_reducible apply hF
    | with_reducible assumption
    | split
    | with_reducible apply goodV_val
    | with_reducible apply goodV_eff
    | with_reducible apply goodV_lo
    | with_reducible apply goodV_hi
    | (intro xA yA zA hX; with_reducible have hY : Good b0 xA := hX)
    | (intro xA yA hX; with_reducible have hY : Good b0 xA := hX)
    | (intro xA hX; with_reducible have hY : Good b0 xA := hX)
    | with_reducible refine good_mk rfl rfl rfl rfl rfl rfl rfl rfl rfl ?_

theorem good_linkReg {s : State} {k off : Nat} 
    (hG : Good b0 s) : GoodV b0 (State.linkReg s k off) := by
  unfold State.linkReg
  iterate 40 all_goals try first
    | with_reducible apply good_n2v
    | with_reducible apply goodV_val
    | with_reducible apply goodV_lo
    | with_reducible apply goodV_hi
    | split

theorem good_MmEntry_reg {m : MmEntry} {off : Nat} 
     : GoodV b0 (MmEntry.reg m off) := by
  have hG := trivial
  unfold MmEntry.reg
  iterate 40 all_goals try first
    | with_reducible apply good_n2v
    | with_reducible apply goodV_val
    | with_reducible apply goodV_lo
    | with_reducible apply goodV_hi
    | split

theorem good_crsReg {s : State} {off : Nat} 
    (hG : Good b0 s) : GoodV b0 (State.crsReg s off) := by
  have hF := hG
  unfold State.crsReg
  iterate 40 all_goals try first
    | with_reducible apply good_n2v
    | with_reducible apply good_linkReg
    | with_reducible apply good_MmEntry_reg
    | with_reducible apply good_reg
    | with_reducible apply goodV_val
    | with_reducible apply hF
    | split

theorem good_Hdma_reg {h : Hdma} {off : Nat} 
     : GoodV b0 (Hdma.reg h off) := by
  have hG := trivial
  unfold Hdma.reg
  iterate 40 all_goals try first
    | with_reducible apply good_n2v
    | with_reducible apply goodV_val
    | split

theorem good_dramReg {s : State} {path : Port} {off : Nat} 
    (hG : Good b0 s) : GoodV b0 (State.dramReg s path off) := by
  have hF := hG
  unfold State.dramReg
  iterate 40 all_goals try first
    | with_reducible apply good_n2v
    | with_reducible apply good_Hdma_reg
    | with_reducible apply good_reg
    | with_reducible apply good_dataBusy
    | with_reducible apply goodV_val
    | with_reducible apply goodV_lo
    | with_reducible apply goodV_hi
    | with_reducible apply goodV_eff
    | with_reducible apply hF
    | split
    | with_reducible refine good_mk rfl rfl rfl rfl rfl rfl rfl rfl rfl ?_

theorem good_arrReg {s : State} {t off : Nat} 
    (hG : Good b0 s) : GoodV b0 (State.arrReg s t off) := by
  have hF := hG
  unfold State.arrReg
  iterate 40 all_goals try first
    | extract_lets +onlyGivenNames xG
    | with_reducible apply good_takeFree
    | with_reducible apply good_n2v
    | with_reducible apply good_pairsAt
    | with_reducible apply good_issue
    | with_reducible apply goodV_val
    | with_reducible apply goodV_eff
    | with_reducible apply hF
    | split

theorem good_fourBytes {f : Nat → Nat} 
     : GoodV b0 (fourBytes f) := by
  have hG := trivial
  unfold fourBytes
  iterate 40 all_goals try first
    | with_reducible apply good_bytesAt

theorem good_spmReg {s : State} {t off : Nat} 
    (hG : Good b0 s) : GoodV b0 (State.spmReg s t off) := by
  have hF := hG
  unfold State.spmReg
  iterate 40 all_goals try first
    | with_reducible apply good_modSpm
    | with_reducible apply good_n2v
    | with_reducible apply good_bytesAt
    | with_reducible apply good_fourBytes
    | with_reducible apply goodV_val
    | with_reducible apply goodV_eff
    | with_reducible apply hF
    | split

theorem good_subWord {o : Option BowSub} : GoodV b0 (subWord o) := by
  unfold subWord
  split <;> exact goodV_val

theorem good_bowReg {s : State} {t off : Nat} 
    (hG : Good b0 s) : GoodV b0 (State.bowReg s t off) := by
  have hF := hG
  unfold State.bowReg
  iterate 40 all_goals try first
    | with_reducible apply good_modBow
    | with_reducible apply good_n2v
    | with_reducible apply good_subWord
    | with_reducible apply goodV_val
    | with_reducible apply goodV_eff
    | with_reducible apply hF
    | split

theorem good_tcReg {s : State} {t off : Nat} 
    (hG : Good b0 s) : GoodV b0 (State.tcReg s t off) := by
  unfold State.tcReg
  iterate 40 all_goals try first
    | with_reducible apply good_n2v
    | with_reducible apply goodV_val
    | with_reducible apply goodV_lo
    | with_reducible apply goodV_hi
    | split

theorem good_aperture {s : State} {t off : Nat} 
    (hG : Good b0 s) : GoodV b0 (State.aperture s t off) := by
  unfold State.aperture
  iterate 40 all_goals try first
    | extract_lets +onlyGivenNames xG
    | with_reducible apply good_n2v
    | with_reducible apply good_bytesAt
    | split

theorem good_tileReg {s : State} {t off : Nat} 
    (hG : Good b0 s) : GoodV b0 (State.tileReg s t off) := by
  have hF := hG
  unfold State.tileReg
  iterate 40 all_goals try first
    | with_reducible apply good_n2v
    | with_reducible apply good_arrReg
    | with_reducible apply good_spmReg
    | with_reducible apply good_bowReg
    | with_reducible apply good_tcReg
    | with_reducible apply good_aperture
    | with_reducible apply goodV_val
    | with_reducible apply hF
    | split

theorem good_regAt {s : State} {path : Port} {a : Nat} 
    (hG : Good b0 s) : GoodV b0 (State.regAt s path a) := by
  have hF := hG
  unfold State.regAt
  iterate 40 all_goals try first
    | with_reducible apply good_n2v
    | with_reducible apply good_sysReg
    | with_reducible apply good_rdyReg
    | with_reducible apply good_prdReg
    | with_reducible apply good_penReg
    | with_reducible apply good_schReg
    | with_reducible apply good_ringBlkReg
    | with_reducible apply good_strmReg
    | with_reducible apply good_safReg
    | with_reducible apply good_evrReg
    | with_reducible apply good_crsReg
    | with_reducible apply good_dramReg
    | with_reducible apply good_tileReg
    | (with_reducible apply goodV_ite <;> intro hC)
    | with_reducible apply hF

theorem good_setPath {s : State} {path : Port} {x : Path} 
    (hG : Good b0 s) : Good b0 (State.setPath s path x) := by
  have hF := hG
  unfold State.setPath
  iterate 40 all_goals try first
    | with_reducible apply good_spi
    | with_reducible apply hF
    | split
    | with_reducible refine good_mk rfl rfl rfl rfl rfl rfl rfl rfl rfl ?_

theorem good_readReg {s : State} {path : Port} {a : Nat} (hG : Good b0 s) : Good b0 (s.readReg path a).2 := by
  have h := good_regAt (path := path) (a := a) hG
  unfold State.readReg
  split
  · exact hG
  · rename_i e; exact h _ _ e
  · exact good_setPath hG
  · exact hG

end Sys2Proof.Laws
end

