-- ==== Sys2Proof/Laws/GoodInject.lean ====
section
/-! SUPPORT. What every operation and command of Machine/Inject.lean keeps, one lemma each. -/

set_option linter.all false

namespace Sys2Proof.Laws

open Sys2Proof.Machine

variable {b0 : State}

theorem good_execInjectionStart {path : Port} {value : Word} {s : State} 
    (hG : Good b0 s) : GoodR b0 (execInjectionStart path value s) := by
  have hF := hG
  unfold execInjectionStart
  iterate 40 all_goals try first
    | with_reducible apply good_endInj
    | with_reducible apply good_next
    | with_reducible apply hF
    | split
    | with_reducible refine good_mk rfl rfl rfl rfl rfl rfl rfl rfl rfl ?_

theorem good_execInjectionCancel {path : Port} {value : Word} {s : State} 
    (hG : Good b0 s) : GoodR b0 (execInjectionCancel path value s) := by
  have hF := hG
  unfold execInjectionCancel
  iterate 40 all_goals try first
    | with_reducible apply good_endInj
    | with_reducible apply good_next
    | with_reducible apply hF
    | split

theorem good_dropInjector {s : State}
    (hG : Good b0 s) : Good b0 (State.dropInjector s) := by
  have hF := hG
  unfold State.dropInjector
  iterate 40 all_goals try first
    | with_reducible apply good_modTc
    | (with_reducible apply good_foldl; intro xA yA hX)
    | (with_reducible apply good_foldl1; intro xA yA hX)
    | (with_reducible apply good_ite <;> intro hC)
    | with_reducible apply hF
    | with_reducible assumption
    | split
    | (intro xA yA zA hX; with_reducible have hY : Good b0 xA := hX)
    | (intro xA yA hX; with_reducible have hY : Good b0 xA := hX)
    | (intro xA hX; with_reducible have hY : Good b0 xA := hX)
    | with_reducible refine good_mk rfl rfl rfl rfl rfl rfl rfl rfl rfl ?_

theorem good_execInjectionLimitExpiry {t : Nat} {s : State} 
    (hG : Good b0 s) : GoodR b0 (execInjectionLimitExpiry t s) := by
  have hF := hG
  unfold execInjectionLimitExpiry
  iterate 40 all_goals try first
    | with_reducible apply good_advanceTo
    | with_reducible apply good_endInj
    | with_reducible apply good_dropInjector
    | with_reducible apply good_next
    | with_reducible apply hF
    | split

theorem good_applyTiles {s : State} {bit : Nat} {silent : List Nat} 
    (hG : Good b0 s) : Good b0 (State.applyTiles s bit silent) := by
  have hX := hG
  unfold State.applyTiles
  iterate 40 all_goals try first
    | with_reducible assumption
    | with_reducible apply good_report
    | with_reducible apply good_endInj
    | (with_reducible apply good_foldl; intro xA yA hX)
    | split
    | with_reducible refine good_mk rfl rfl rfl rfl rfl rfl rfl rfl rfl ?_

theorem good_applyAbort {s : State} {a : CapoIn} 
    (hG : Good b0 s) : Good b0 (State.applyAbort s a) := by
  have hX := hG
  unfold State.applyAbort
  iterate 40 all_goals try first
    | with_reducible assumption
    | (extract_lets +onlyGivenNames xG; refine good_cut (A := Good b0 xG) ?_ ?_; all_goals first | (intro hX; clear_value xG) | (unfold xG; clear xG))
    | with_reducible apply good_endInj
    | with_reducible apply good_clrRdy
    | with_reducible apply good_condition
    | with_reducible apply good_monBits
    | with_reducible apply good_thermal
    | split
    | with_reducible refine good_mk rfl rfl rfl rfl rfl rfl rfl rfl rfl ?_

theorem good_checkUnit {s : State} {silent : List Nat} {t : Nat}
    (hG : Good b0 s) : Good b0 (State.checkUnit s silent t) := by
  have hF := hG
  unfold State.checkUnit
  iterate 40 all_goals try first
    | with_reducible apply good_modTc
    | (with_reducible apply good_foldl; intro xA yA hX)
    | (with_reducible apply good_foldl1; intro xA yA hX)
    | (with_reducible apply good_ite <;> intro hC)
    | with_reducible apply hF
    | with_reducible assumption
    | split
    | (intro xA yA zA hX; with_reducible have hY : Good b0 xA := hX)
    | (intro xA yA hX; with_reducible have hY : Good b0 xA := hX)
    | (intro xA hX; with_reducible have hY : Good b0 xA := hX)
    | with_reducible refine good_mk rfl rfl rfl rfl rfl rfl rfl rfl rfl ?_

theorem good_applyCheck {s : State} {silent : List Nat}
    (hG : Good b0 s) : Good b0 (State.applyCheck s silent) := by
  have hF := hG
  unfold State.applyCheck
  iterate 40 all_goals try first
    | with_reducible apply good_checkUnit
    | with_reducible apply good_endInj
    | (with_reducible apply good_foldl; intro xA yA hX)
    | (with_reducible apply good_foldl1; intro xA yA hX)
    | (with_reducible apply good_ite <;> intro hC)
    | with_reducible apply hF
    | with_reducible assumption
    | split
    | (intro xA yA zA hX; with_reducible have hY : Good b0 xA := hX)
    | (intro xA yA hX; with_reducible have hY : Good b0 xA := hX)
    | (intro xA hX; with_reducible have hY : Good b0 xA := hX)
    | with_reducible refine good_mk rfl rfl rfl rfl rfl rfl rfl rfl rfl ?_

theorem good_execInjectionApply {t : Nat} {silent : List Nat} {a : CapoIn} {s : State} 
    (hG : Good b0 s) : GoodR b0 (execInjectionApply t silent a s) := by
  have hF := hG
  unfold execInjectionApply
  iterate 40 all_goals try first
    | extract_lets +onlyGivenNames xG
    | with_reducible apply good_advanceTo
    | with_reducible apply good_report
    | with_reducible apply good_endInj
    | with_reducible apply good_applyInj
    | with_reducible apply good_applyTiles
    | with_reducible apply good_applyAbort
    | with_reducible apply good_applyCheck
    | with_reducible apply good_next
    | with_reducible apply hF
    | split

theorem good_execSafReadmitWrite {path : Port} {value : Word} {s : State} 
    (hG : Good b0 s) : GoodR b0 (execSafReadmitWrite path value s) := by
  have hF := hG
  unfold execSafReadmitWrite
  iterate 40 all_goals try first
    | with_reducible apply good_modTile
    | with_reducible apply good_next
    | with_reducible apply hF
    | split
    | with_reducible refine good_mk rfl rfl rfl rfl rfl rfl rfl rfl rfl ?_

theorem good_execDiagEnter {path : Port} {tile : Nat} {value : Word} {s : State} 
    (hG : Good b0 s) : GoodR b0 (execDiagEnter path tile value s) := by
  have hF := hG
  unfold execDiagEnter
  iterate 40 all_goals try first
    | with_reducible apply good_modSpm
    | with_reducible apply good_exclude
    | with_reducible apply good_next
    | with_reducible apply hF
    | split

theorem good_execDiagExit {path : Port} {tile : Nat} {value : Word} {s : State} 
    (hG : Good b0 s) : GoodR b0 (execDiagExit path tile value s) := by
  have hF := hG
  unfold execDiagExit
  iterate 40 all_goals try first
    | extract_lets +onlyGivenNames xG
    | with_reducible apply good_modTile
    | with_reducible apply good_modSpm
    | with_reducible apply good_next
    | with_reducible apply hF
    | split

end Sys2Proof.Laws
end

