-- ==== Sys2Proof/Laws/GoodAccess.lean ====
section
/-! SUPPORT. What every operation and command of Machine/Access.lean keeps, one lemma each. -/

set_option linter.all false

namespace Sys2Proof.Laws

open Sys2Proof.Machine

variable {b0 : State}

theorem good_ovlSys {s : State} {n : Word} 
    (hG : Good b0 s) : Good b0 (ovlSys s n) := by
  have hF := hG
  unfold ovlSys
  iterate 40 all_goals try first
    | with_reducible apply hF
    | with_reducible refine good_mk rfl rfl rfl rfl rfl rfl rfl rfl rfl ?_

theorem good_ovlPrd {s : State} {n : Word} 
    (hG : Good b0 s) : Good b0 (ovlPrd s n) := by
  have hF := hG
  unfold ovlPrd
  iterate 40 all_goals try first
    | with_reducible apply hF
    | with_reducible refine good_mk rfl rfl rfl rfl rfl rfl rfl rfl rfl ?_

theorem good_ovlSch {s : State} {n : Word} 
    (hG : Good b0 s) : Good b0 (ovlSch s n) := by
  have hF := hG
  unfold ovlSch
  iterate 40 all_goals try first
    | with_reducible apply hF
    | with_reducible refine good_mk rfl rfl rfl rfl rfl rfl rfl rfl rfl ?_

theorem good_ovlRing {s : State} {n : Word} 
    (hG : Good b0 s) : Good b0 (ovlRing s n) := by
  have hF := hG
  unfold ovlRing
  iterate 40 all_goals try first
    | with_reducible apply hF
    | with_reducible refine good_mk rfl rfl rfl rfl rfl rfl rfl rfl rfl ?_

theorem good_ovlStrm {s : State} {n : Word} 
    (hG : Good b0 s) : Good b0 (ovlStrm s n) := by
  have hF := hG
  unfold ovlStrm
  iterate 40 all_goals try first
    | with_reducible apply hF
    | with_reducible refine good_mk rfl rfl rfl rfl rfl rfl rfl rfl rfl ?_

theorem good_ovlSaf {s : State} {n : Word} 
    (hG : Good b0 s) : Good b0 (ovlSaf s n) := by
  have hF := hG
  unfold ovlSaf
  iterate 40 all_goals try first
    | with_reducible apply hF
    | with_reducible refine good_mk rfl rfl rfl rfl rfl rfl rfl rfl rfl ?_

theorem good_ovlEvr {s : State} {n : Word} 
    (hG : Good b0 s) : Good b0 (ovlEvr s n) := by
  have hF := hG
  unfold ovlEvr
  iterate 40 all_goals try first
    | with_reducible apply hF
    | with_reducible refine good_mk rfl rfl rfl rfl rfl rfl rfl rfl rfl ?_

theorem good_ovlCrs {s : State} {n : Word} 
    (hG : Good b0 s) : Good b0 (ovlCrs s n) := by
  have hF := hG
  unfold ovlCrs
  iterate 40 all_goals try first
    | with_reducible apply hF
    | with_reducible refine good_mk rfl rfl rfl rfl rfl rfl rfl rfl rfl ?_

theorem good_ovlDram {s : State} {n : Word} 
    (hG : Good b0 s) : Good b0 (ovlDram s n) := by
  have hF := hG
  unfold ovlDram
  iterate 40 all_goals try first
    | with_reducible apply hF
    | with_reducible refine good_mk rfl rfl rfl rfl rfl rfl rfl rfl rfl ?_

theorem good_ovlTile {t : Nat} {s : State} {n : Word} (hG : Good b0 s) : Good b0 (ovlTile t s n) := good_modTile hG

/-- A W1C register's writes keep it. -/
def GoodW (b : State) (o : Option W1c) : Prop :=
  ∀ w, o = some w → (∀ v, Good b (w.put v)) ∧ ∀ s n, Good b s → Good b (w.ovl s n)

theorem goodW_some {r m : Word} {p : Word → State} {o : State → Word → State} (hp : ∀ v, Good b0 (p v))
    (ho : ∀ s n, Good b0 s → Good b0 (o s n)) : GoodW b0 (some ⟨r, m, p, o⟩) := by
  intro w e
  injection e with e
  exact e ▸ ⟨hp, ho⟩
theorem goodW_none : GoodW b0 none := fun _ e => by cases e
theorem goodW_ite {c : Prop} [Decidable c] {a b : Option W1c} (h1 : c → GoodW b0 a) (h2 : ¬c → GoodW b0 b) :
    GoodW b0 (if c then a else b) := by split <;> simp_all

theorem good_tileW1c {s : State} {t off : Nat} 
    (hG : Good b0 s) : GoodW b0 (State.tileW1c s t off) := by
  have hF := hG
  unfold State.tileW1c
  iterate 40 all_goals try first
    | with_reducible apply good_modTc
    | with_reducible apply good_modSpm
    | with_reducible apply good_modArr
    | with_reducible apply good_modBow
    | with_reducible apply good_ovlTile
    | with_reducible apply goodW_some
    | with_reducible apply goodW_none
    | with_reducible intro xA
    | with_reducible apply hF
    | split

theorem good_strmW1c {s : State} {off : Nat} 
    (hG : Good b0 s) : GoodW b0 (State.strmW1c s off) := by
  have hF := hG
  unfold State.strmW1c
  iterate 40 all_goals try first
    | with_reducible apply good_modCsi
    | with_reducible apply good_modEth
    | with_reducible apply good_modT1s
    | with_reducible apply good_ovlStrm
    | with_reducible apply goodW_some
    | with_reducible apply goodW_none
    | (with_reducible apply goodW_ite <;> intro hC)
    | with_reducible intro xA
    | with_reducible apply hF
    | with_reducible refine good_mk rfl rfl rfl rfl rfl rfl rfl rfl rfl ?_

theorem good_putPrdStatus {s : State} {w : Word} 
    (hG : Good b0 s) : Good b0 (State.putPrdStatus s w) := by
  have hF := hG
  unfold State.putPrdStatus
  iterate 40 all_goals try first
    | with_reducible apply hF
    | with_reducible refine good_mk rfl rfl rfl rfl rfl rfl rfl rfl rfl ?_

theorem good_w1cAt {s : State} {a : Nat} 
    (hG : Good b0 s) : GoodW b0 (State.w1cAt s a) := by
  have hF := hG
  unfold State.w1cAt
  iterate 40 all_goals try first
    | with_reducible apply good_modRing
    | with_reducible apply good_modLink
    | with_reducible apply good_ovlSys
    | with_reducible apply good_ovlPrd
    | with_reducible apply good_ovlSch
    | with_reducible apply good_ovlRing
    | with_reducible apply good_ovlSaf
    | with_reducible apply good_ovlEvr
    | with_reducible apply good_ovlCrs
    | with_reducible apply good_ovlDram
    | with_reducible apply good_tileW1c
    | with_reducible apply good_strmW1c
    | with_reducible apply good_putPrdStatus
    | with_reducible apply goodW_some
    | with_reducible apply goodW_none
    | (with_reducible apply goodW_ite <;> intro hC)
    | with_reducible intro xA
    | with_reducible apply hF
    | with_reducible refine good_mk rfl rfl rfl rfl rfl rfl rfl rfl rfl ?_

theorem good_W1c_write {s : State} {a : Option W1c} {w : W1c} {v now : Word} (h : GoodW b0 a) (e : a = some w) :
    Good b0 (w.write v now) := (h w e).2 _ _ ((h w e).1 _)

theorem good_execW1cWrite {path : Port} {addr : Nat} {value setNow : Word} {s : State} (hG : Good b0 s) :
    GoodR b0 (execW1cWrite path addr value setNow s) := by
  unfold execW1cWrite
  apply good_next
  apply good_ite <;> intro _
  · exact hG
  · split
    · rename_i e; exact good_W1c_write (s := s) (good_w1cAt hG) e
    · exact hG

theorem good_execPrdDigSelWrite {path : Port} {value : Word} {s : State} 
    (hG : Good b0 s) : GoodR b0 (execPrdDigSelWrite path value s) := by
  have hF := hG
  unfold execPrdDigSelWrite
  iterate 40 all_goals try first
    | with_reducible apply good_next
    | with_reducible apply hF
    | split
    | with_reducible refine good_mk rfl rfl rfl rfl rfl rfl rfl rfl rfl ?_

theorem good_execPrdDigLayerWrite {path : Port} {value : Word} {s : State} 
    (hG : Good b0 s) : GoodR b0 (execPrdDigLayerWrite path value s) := by
  have hF := hG
  unfold execPrdDigLayerWrite
  iterate 40 all_goals try first
    | with_reducible apply good_next
    | with_reducible apply hF
    | split
    | with_reducible refine good_mk rfl rfl rfl rfl rfl rfl rfl rfl rfl ?_

theorem good_execSchClassEnWrite {path : Port} {value : Word} {s : State} 
    (hG : Good b0 s) : GoodR b0 (execSchClassEnWrite path value s) := by
  have hF := hG
  unfold execSchClassEnWrite
  iterate 40 all_goals try first
    | with_reducible apply good_logControl
    | with_reducible apply good_next
    | with_reducible apply hF
    | split
    | with_reducible refine good_mk rfl rfl rfl rfl rfl rfl rfl rfl rfl ?_

theorem good_execSchAbsentForceWrite {path : Port} {value : Word} {s : State} 
    (hG : Good b0 s) : GoodR b0 (execSchAbsentForceWrite path value s) := by
  have hF := hG
  unfold execSchAbsentForceWrite
  iterate 40 all_goals try first
    | with_reducible apply good_logControl
    | with_reducible apply good_next
    | with_reducible apply hF
    | split
    | with_reducible refine good_mk rfl rfl rfl rfl rfl rfl rfl rfl rfl ?_

theorem good_putWin {s : State} {path : Port} {v : Word} 
    (hG : Good b0 s) : Good b0 (State.putWin s path v) := by
  have hF := hG
  unfold State.putWin
  iterate 40 all_goals try first
    | with_reducible apply hF
    | split
    | with_reducible refine good_mk rfl rfl rfl rfl rfl rfl rfl rfl rfl ?_

theorem good_nextOf {s : State} {r : Host.Outcome State Fault Refusal} (hG : Good b0 s) (h : GoodR b0 r) :
    Good b0 (nextOf s r) := by
  unfold nextOf
  split
  · exact h _ rfl
  · exact hG
  · exact hG

theorem good_writeFence {s : State} {path : Port} {v : Word} 
    (hG : Good b0 s) : Good b0 (State.writeFence s path v) := by
  have hX := hG
  unfold State.writeFence
  iterate 40 all_goals try first
    | with_reducible assumption
    | with_reducible apply good_execLinkFence
    | with_reducible apply good_execLinkUnfence
    | with_reducible apply good_nextOf
    | (with_reducible apply good_foldl; intro xA yA hX)
    | split

theorem good_writeRing {s : State} {path : Port} {k off : Nat} {v : Word} 
    (hG : Good b0 s) : Good b0 (State.writeRing s path k off v) := by
  have hF := hG
  unfold State.writeRing
  iterate 40 all_goals try first
    | with_reducible apply good_execRingRunStart
    | with_reducible apply good_execRingBaseWrite
    | with_reducible apply good_execRingConsWrite
    | with_reducible apply good_nextOf
    | with_reducible apply good_next
    | with_reducible apply hF
    | split

theorem good_writeHdma {s : State} {path : Port} {a : Nat} {v : Word} 
    (hG : Good b0 s) : Good b0 (State.writeHdma s path a v) := by
  have hF := hG
  unfold State.writeHdma
  iterate 40 all_goals try first
    | with_reducible apply good_execHdmaStart
    | with_reducible apply good_execHdmaAbort
    | with_reducible apply good_nextOf
    | with_reducible apply hF
    | split
    | with_reducible refine good_mk rfl rfl rfl rfl rfl rfl rfl rfl rfl ?_

theorem good_writePview {s : State} {path : Port} {a : Nat} {v : Word} 
    (hG : Good b0 s) : Good b0 (State.writePview s path a v) := by
  have hF := hG
  unfold State.writePview
  iterate 40 all_goals try first
    | with_reducible apply good_execEvrMarkWrite
    | with_reducible apply good_execPrdAbort
    | with_reducible apply good_execEthAddrWrite
    | with_reducible apply good_execSoftReset
    | with_reducible apply good_execStandbyRequest
    | with_reducible apply good_execInjectionStart
    | with_reducible apply good_execInjectionCancel
    | with_reducible apply good_execSafReadmitWrite
    | with_reducible apply good_execDiagEnter
    | with_reducible apply good_execDiagExit
    | with_reducible apply good_execPrdDigSelWrite
    | with_reducible apply good_execPrdDigLayerWrite
    | with_reducible apply good_execSchClassEnWrite
    | with_reducible apply good_execSchAbsentForceWrite
    | with_reducible apply good_putWin
    | with_reducible apply good_nextOf
    | with_reducible apply good_writeFence
    | with_reducible apply good_writeHdma
    | with_reducible apply hF
    | split
    | with_reducible refine good_mk rfl rfl rfl rfl rfl rfl rfl rfl rfl ?_

theorem good_writeReg {s : State} {path : Port} {a : Nat} {v : Word} 
    (hG : Good b0 s) : Good b0 (State.writeReg s path a v) := by
  unfold State.writeReg
  iterate 40 all_goals try first
    | with_reducible assumption
    | with_reducible apply good_execRingMirrorWrite
    | with_reducible apply good_w1cAt
    | with_reducible apply good_W1c_write
    | with_reducible apply good_nextOf
    | with_reducible apply good_writeRing
    | with_reducible apply good_writePview
    | split

theorem good_execRegisterWrite {path : Port} {addr : Nat} {value : DWord} {bytes : Nat} {s : State} (hG : Good b0 s) :
    GoodR b0 (execRegisterWrite path addr value bytes s) := by
  unfold execRegisterWrite
  apply good_next
  apply good_ite <;> intro _
  · exact good_writeReg hG
  · apply good_ite <;> intro _
    · exact good_writeReg (good_writeReg hG)
    · exact hG

theorem good_sendPcieMsg {s : State} {code : Nat} (hG : Good b0 s) : Good b0 (s.sendPcieMsg code) :=
  good_lit hG rfl rfl rfl rfl rfl rfl rfl rfl rfl

theorem good_unsupported {s : State} {posted : Bool} (hG : Good b0 s) : Good b0 (s.unsupported posted) := by
  unfold State.unsupported
  extract_lets c fatal advisory bit t on
  have h : Good b0 t := good_lit hG rfl rfl rfl rfl rfl rfl rfl rfl rfl
  clear_value t on
  apply good_ite <;> intro _
  · apply good_ite <;> intro _
    · exact good_sendPcieMsg h
    · exact h
  · apply good_ite <;> intro _
    · apply good_ite <;> intro _
      · exact good_sendPcieMsg h
      · exact h
    · apply good_ite <;> intro _
      · exact good_sendPcieMsg h
      · exact h

theorem good_readBytes {s : State} {path : Port} {a n : Nat} (hG : Good b0 s) : Good b0 (s.readBytes path a n).2 := by
  unfold State.readBytes
  split
  · exact good_readReg (good_readReg hG)
  · split
    · exact good_readReg hG
    · exact hG

theorem good_complete {s : State} {path : Port} {data : List Word} {status : Nat} (hG : Good b0 s) :
    Good b0 (s.complete path data status) := by
  unfold State.complete
  apply good_ite <;> intro _ <;> exact good_lit hG rfl rfl rfl rfl rfl rfl rfl rfl rfl

theorem good_readOver {s : State} {path : Port} {a n : Nat} (hG : Good b0 s) : Good b0 (s.readOver path a n) := by
  unfold State.readOver
  apply good_ite <;> intro _
  · exact good_complete (good_readBytes hG)
  · apply good_ite <;> intro _
    · exact good_complete (good_unsupported hG)
    · exact good_lit hG rfl rfl rfl rfl rfl rfl rfl rfl rfl

theorem good_execRcRead {path : Port} {addr bytes : Nat} {s : State} (hG : Good b0 s) :
    GoodR b0 (execRcRead path addr s bytes) := good_next (good_readOver hG)

theorem good_execRslLowRead {path : Port} {addr bytes : Nat} {s : State} (hG : Good b0 s) :
    GoodR b0 (execRslLowRead path addr s bytes) := good_next (good_readOver hG)

theorem good_spiReads {s : State} {a : Nat} {nR : Nat} 
    (hG : Good b0 s) : Good b0 (State.spiReads s a nR).2 := by
  induction nR generalizing s a with
  | zero => exact hG
  | succ n ihG =>
  (have hF := hG; unfold State.spiReads)
  iterate 40 all_goals try first
    | with_reducible apply good_readReg
    | with_reducible apply ihG
    | with_reducible apply hF

theorem good_spiWrites {s : State} {a : Nat} {nR : List Word} 
    (hG : Good b0 s) : Good b0 (State.spiWrites s a nR) := by
  induction nR generalizing s a with
  | nil => exact hG
  | cons xA lA ihG =>
  (have hF := hG; unfold State.spiWrites)
  iterate 40 all_goals try first
    | with_reducible apply good_writeReg
    | with_reducible apply ihG
    | with_reducible apply hF

theorem good_spi {s : State} {mosi : List Byte} {done : Nat} 
    (hG : Good b0 s) : Good b0 (State.spi s mosi done) := by
  have hF := hG
  unfold State.spi
  iterate 40 all_goals try first
    | with_reducible apply good_spiReads
    | with_reducible apply good_spiWrites
    | with_reducible apply hF
    | split
    | with_reducible refine good_mk rfl rfl rfl rfl rfl rfl rfl rfl rfl ?_

theorem good_execSpiRead {mosi : List Byte} {done : Nat} {s : State} 
    (hG : Good b0 s) : GoodR b0 (execSpiRead mosi done s) := by
  have hF := hG
  unfold execSpiRead
  iterate 40 all_goals try first
    | with_reducible apply good_spi
    | with_reducible apply good_next
    | with_reducible apply hF
    | split

theorem good_execSpiWrite {mosi : List Byte} {done : Nat} {s : State} 
    (hG : Good b0 s) : GoodR b0 (execSpiWrite mosi done s) := by
  have hF := hG
  unfold execSpiWrite
  iterate 40 all_goals try first
    | with_reducible apply good_spi
    | with_reducible apply good_next
    | with_reducible apply hF
    | split

theorem good_execSpiUnknownCmd {mosi : List Byte} {s : State} 
    (hG : Good b0 s) : GoodR b0 (execSpiUnknownCmd mosi s) := by
  have hF := hG
  unfold execSpiUnknownCmd
  iterate 40 all_goals try first
    | with_reducible apply good_spi
    | with_reducible apply good_next
    | with_reducible apply hF
    | split

end Sys2Proof.Laws
end

