-- ==== Sys2Proof/Laws/GoodHoist.lean ====
section
/-! SUPPORT. What every operation and command of Machine/Hoist.lean keeps, one lemma each. -/

set_option linter.all false

namespace Sys2Proof.Laws

open Sys2Proof.Machine

variable {b0 : State}

theorem good_modHSlot {s : State} {p : Nat} {f : HSlot → HSlot} 
    (hG : Good b0 s) : Good b0 (State.modHSlot s p f) := by
  have hF := hG
  unfold State.modHSlot
  iterate 40 all_goals try first
    | with_reducible apply hF
    | with_reducible refine good_mk rfl rfl rfl rfl rfl rfl rfl rfl rfl ?_

theorem good_spiWrite {s : State} {p addr : Nat} {v : Word} 
    (hG : Good b0 s) : Good b0 (State.spiWrite s p addr v) := by
  have hF := hG
  unfold State.spiWrite
  iterate 40 all_goals try first
    | with_reducible apply hF
    | with_reducible refine good_mk rfl rfl rfl rfl rfl rfl rfl rfl rfl ?_

theorem good_contribute {s : State} {p : Nat} {f : HSlot → HSlot} 
    (hG : Good b0 s) : Good b0 (State.contribute s p f) := by
  have hX := hG
  unfold State.contribute
  iterate 40 all_goals try first
    | with_reducible assumption
    | extract_lets +onlyGivenNames xG
    | with_reducible apply good_modHSlot
    | with_reducible apply good_spiWrite
    | (with_reducible apply good_foldl; intro xA yA hX)
    | split

theorem good_hForce {s : State} {q p : Nat} {v : Bool} 
    (hG : Good b0 s) : Good b0 (State.hForce s q p v) := by
  have hF := hG
  unfold State.hForce
  iterate 40 all_goals try first
    | with_reducible apply good_contribute
    | with_reducible apply hF

theorem good_hFence {s : State} {q l : Nat} {v : Bool} 
    (hG : Good b0 s) : Good b0 (State.hFence s q l v) := by
  have hF := hG
  unfold State.hFence
  iterate 40 all_goals try first
    | with_reducible apply good_contribute
    | with_reducible apply hF

theorem good_readingsOf {s : State} {m : Nat} 
    (hG : Good b0 s) : Good b0 (State.readingsOf s m).2 := by
  have hF := hG
  unfold State.readingsOf
  iterate 40 all_goals try first
    | with_reducible apply good_takeFree
    | (with_reducible apply good_ite2 <;> intro hC)
    | with_reducible apply hF

theorem good_hlog {s : State} {r : HLog} 
    (hG : Good b0 s) : Good b0 (State.hlog s r) := by
  have hF := hG
  unfold State.hlog
  iterate 40 all_goals try first
    | with_reducible apply hF
    | with_reducible refine good_mk rfl rfl rfl rfl rfl rfl rfl rfl rfl ?_

theorem good_hrecord {s : State} {src : HSrc} {op m result outcome : Nat} {arg : Word} {old : State}
    (hG : Good b0 s) : Good b0 (State.hrecord s src op m result outcome arg old) := by
  have hF := hG
  unfold State.hrecord
  iterate 40 all_goals try first
    | with_reducible apply good_readingsOf
    | with_reducible apply good_hlog
    | (with_reducible apply good_foldl; intro xA yA hX)
    | (with_reducible apply good_foldl1; intro xA yA hX)
    | (with_reducible apply good_ite <;> intro hC)
    | with_reducible apply hF
    | with_reducible assumption
    | split
    | (intro xA yA zA hX; with_reducible have hY : Good b0 xA := hX)
    | (intro xA yA hX; with_reducible have hY : Good b0 xA := hX)
    | (intro xA hX; with_reducible have hY : Good b0 xA := hX)
    | with_reducible refine good_mk rfl rfl rfl rfl rfl rfl rfl rfl rfl ?_

theorem good_hevent {s : State} {op m : Nat} {arg : Word} {old : State}
    (hG : Good b0 s) : Good b0 (State.hevent s op m arg old) := by
  have hF := hG
  unfold State.hevent
  iterate 40 all_goals try first
    | with_reducible apply good_hrecord
    | (with_reducible apply good_foldl; intro xA yA hX)
    | (with_reducible apply good_foldl1; intro xA yA hX)
    | (with_reducible apply good_ite <;> intro hC)
    | with_reducible apply hF
    | with_reducible assumption
    | split
    | (intro xA yA zA hX; with_reducible have hY : Good b0 xA := hX)
    | (intro xA yA hX; with_reducible have hY : Good b0 xA := hX)
    | (intro xA hX; with_reducible have hY : Good b0 xA := hX)
    | with_reducible refine good_mk rfl rfl rfl rfl rfl rfl rfl rfl rfl ?_

theorem good_respond {s : State} {path : HPath} {body : List Byte} 
    (hG : Good b0 s) : Good b0 (State.respond s path body) := by
  have hF := hG
  unfold State.respond
  iterate 40 all_goals try first
    | with_reducible apply hF
    | split
    | with_reducible refine good_mk rfl rfl rfl rfl rfl rfl rfl rfl rfl ?_

theorem good_answer {s : State} {op : Nat} {a : HCmd} {result : Nat} {data : List Byte} 
    (hG : Good b0 s) : Good b0 (State.answer s op a result data) := by
  have hF := hG
  unfold State.answer
  iterate 40 all_goals try first
    | with_reducible apply good_respond
    | with_reducible apply hF

theorem good_logAction {s : State} {p : Nat} {a : HAction} {code : Option Nat} {outcome : Nat} 
    (hG : Good b0 s) : Good b0 (State.logAction s p a code outcome) := by
  have hF := hG
  unfold State.logAction
  iterate 40 all_goals try first
    | with_reducible apply good_takeFree
    | with_reducible apply good_hlog
    | with_reducible apply hF
    | split

theorem good_actionAt {s : State} {p : Nat} {a : HAction} {step wait : Nat} 
    (hG : Good b0 s) : Good b0 (State.actionAt s p a step wait) := by
  have hF := hG
  unfold State.actionAt
  iterate 40 all_goals try first
    | with_reducible apply good_modHSlot
    | with_reducible apply hF

theorem good_beginAction {s : State} {p : Nat} {a : HAction} 
    (hG : Good b0 s) : Good b0 (State.beginAction s p a) := by
  have hF := hG
  unfold State.beginAction
  iterate 40 all_goals try first
    | extract_lets +onlyGivenNames xG
    | with_reducible apply good_modHSlot
    | with_reducible apply good_actionAt
    | with_reducible apply hF
    | split

theorem good_afterAction {s : State} {p : Nat} {a : HAction} 
    (hG : Good b0 s) : Good b0 (State.afterAction s p a) := by
  have hX := hG
  unfold State.afterAction
  iterate 40 all_goals try first
    | with_reducible assumption
    | (extract_lets +onlyGivenNames xG; refine good_cut (A := Good b0 xG) ?_ ?_; all_goals first | (intro hX; clear_value xG) | (unfold xG; clear xG))
    | extract_lets +onlyGivenNames xG
    | with_reducible apply good_modHSlot
    | with_reducible apply good_beginAction
    | (clear_value *; split)

theorem good_endAction {s : State} {p : Nat} {a : HAction} {code : Option Nat} {outcome : Nat} 
    (hG : Good b0 s) : Good b0 (State.endAction s p a code outcome) := by
  have hF := hG
  unfold State.endAction
  iterate 40 all_goals try first
    | with_reducible apply good_logAction
    | with_reducible apply good_afterAction
    | with_reducible apply hF

theorem good_doneAction {s : State} {p : Nat} {a : HAction} 
    (hG : Good b0 s) : Good b0 (State.doneAction s p a) := by
  have hF := hG
  unfold State.doneAction
  iterate 40 all_goals try first
    | with_reducible apply good_endAction
    | with_reducible apply hF

theorem good_goto {s : State} {p : Nat} {a : HAction} {step wait : Nat} 
    (hG : Good b0 s) : Good b0 (State.goto s p a step wait) := by
  have hF := hG
  unfold State.goto
  iterate 40 all_goals try first
    | with_reducible apply good_logAction
    | with_reducible apply good_actionAt
    | with_reducible apply good_afterAction
    | with_reducible apply hF
    | split

theorem good_failJoin {s : State} {p : Nat} {a : HAction} {code : Option Nat} 
    (hG : Good b0 s) : Good b0 (State.failJoin s p a code) := by
  have hF := hG
  unfold State.failJoin
  iterate 40 all_goals try first
    | with_reducible apply good_modHSlot
    | with_reducible apply good_goto
    | with_reducible apply hF

theorem good_waiting {s : State} {p : Nat} {a : HAction} 
    (hG : Good b0 s) : Good b0 (State.waiting s p a) := by
  have hF := hG
  unfold State.waiting
  iterate 40 all_goals try first
    | with_reducible apply good_actionAt
    | with_reducible apply hF

theorem good_clearFacing {s : State} {p : Nat} 
    (hG : Good b0 s) : Good b0 (State.clearFacing s p) := by
  have hX := hG
  have hF := hG
  unfold State.clearFacing
  iterate 40 all_goals try first
    | with_reducible assumption
    | with_reducible apply good_modHSlot
    | with_reducible apply good_hForce
    | with_reducible apply good_hFence
    | (with_reducible apply good_foldl; intro xA yA hX)
    | split

theorem good_stepAction {s : State} {p : Nat} {a : HAction} 
    (hG : Good b0 s) : Good b0 (State.stepAction s p a) := by
  have hX := hG
  have hF := hG
  unfold State.stepAction
  iterate 40 all_goals try first
    | with_reducible assumption
    | extract_lets +onlyGivenNames xG
    | with_reducible apply good_modHSlot
    | with_reducible apply good_hForce
    | with_reducible apply good_endAction
    | with_reducible apply good_doneAction
    | with_reducible apply good_goto
    | with_reducible apply good_failJoin
    | with_reducible apply good_waiting
    | with_reducible apply good_clearFacing
    | (with_reducible apply good_foldl; intro xA yA hX)
    | split

theorem good_startAction {s : State} {p : Nat} {a : HAction} 
    (hG : Good b0 s) : Good b0 (State.startAction s p a) := by
  have hF := hG
  unfold State.startAction
  iterate 40 all_goals try first
    | with_reducible apply good_modHSlot
    | with_reducible apply good_logAction
    | with_reducible apply good_beginAction
    | with_reducible apply hF
    | split
    | with_reducible refine good_mk rfl rfl rfl rfl rfl rfl rfl rfl rfl ?_

theorem good_abortAction {s : State} {p code : Nat} 
    (hG : Good b0 s) : Good b0 (State.abortAction s p code) := by
  have hF := hG
  unfold State.abortAction
  iterate 40 all_goals try first
    | with_reducible apply good_modHSlot
    | with_reducible apply good_logAction
    | with_reducible apply hF
    | split
    | with_reducible refine good_mk rfl rfl rfl rfl rfl rfl rfl rfl rfl ?_

theorem good_tripSlot {s : State} {p : Nat} 
    (hG : Good b0 s) : Good b0 (State.tripSlot s p) := by
  have hF := hG
  unfold State.tripSlot
  iterate 40 all_goals try first
    | with_reducible apply good_modHSlot
    | with_reducible apply good_abortAction
    | with_reducible apply hF

theorem good_trayTrip {s : State} {arg : Nat} {old : State}
    (hG : Good b0 s) : Good b0 (State.trayTrip s arg old) := by
  have hF := hG
  unfold State.trayTrip
  iterate 40 all_goals try first
    | with_reducible apply good_readingsOf
    | with_reducible apply good_modHSlot
    | with_reducible apply good_tripSlot
    | (with_reducible apply good_foldl; intro xA yA hX)
    | (with_reducible apply good_foldl1; intro xA yA hX)
    | (with_reducible apply good_ite <;> intro hC)
    | with_reducible apply hF
    | with_reducible assumption
    | split
    | (intro xA yA zA hX; with_reducible have hY : Good b0 xA := hX)
    | (intro xA yA hX; with_reducible have hY : Good b0 xA := hX)
    | (intro xA hX; with_reducible have hY : Good b0 xA := hX)
    | with_reducible refine good_mk rfl rfl rfl rfl rfl rfl rfl rfl rfl ?_

theorem good_logTrip {s : State} {t : HTrip} 
    (hG : Good b0 s) : Good b0 (State.logTrip s t) := by
  have hF := hG
  unfold State.logTrip
  iterate 40 all_goals try first
    | with_reducible apply good_readingsOf
    | with_reducible apply good_hlog
    | with_reducible apply hF

theorem good_tickTrips {s : State} 
    (hG : Good b0 s) : Good b0 (State.tickTrips s) := by
  have hX := hG
  unfold State.tickTrips
  iterate 40 all_goals try first
    | with_reducible assumption
    | with_reducible apply good_logTrip
    | (with_reducible apply good_foldl; intro xA yA hX)
    | with_reducible refine good_mk rfl rfl rfl rfl rfl rfl rfl rfl rfl ?_

theorem good_yank {s : State} {p : Nat} 
    (hG : Good b0 s) : Good b0 (State.yank s p) := by
  have hX := hG
  have hF := hG
  unfold State.yank
  iterate 40 all_goals try first
    | with_reducible assumption
    | with_reducible apply good_modHSlot
    | with_reducible apply good_hForce
    | with_reducible apply good_hevent
    | with_reducible apply good_abortAction
    | (with_reducible apply good_foldl; intro xA yA hX)

theorem good_forceContest {s : State} {p : Nat} 
    (hG : Good b0 s) : Good b0 (State.forceContest s p) := by
  have hX := hG
  have hF := hG
  unfold State.forceContest
  iterate 40 all_goals try first
    | with_reducible assumption
    | with_reducible apply good_hForce
    | (with_reducible apply good_foldl; intro xA yA hX)

theorem good_hMark {s : State} {q p case : Nat} 
    (hG : Good b0 s) : Good b0 (State.hMark s q p case) := by
  have hF := hG
  unfold State.hMark
  iterate 40 all_goals try first
    | with_reducible apply hF
    | split
    | with_reducible refine good_mk rfl rfl rfl rfl rfl rfl rfl rfl rfl ?_

theorem good_enterContest {s : State} {p case : Nat} 
    (hG : Good b0 s) : Good b0 (State.enterContest s p case) := by
  have hX := hG
  have hF := hG
  unfold State.enterContest
  iterate 40 all_goals try first
    | with_reducible assumption
    | with_reducible apply good_modHSlot
    | with_reducible apply good_hFence
    | with_reducible apply good_hevent
    | with_reducible apply good_forceContest
    | with_reducible apply good_hMark
    | (with_reducible apply good_foldl; intro xA yA hX)

theorem good_endContest {s : State} {p arg : Nat} 
    (hG : Good b0 s) : Good b0 (State.endContest s p arg) := by
  have hX := hG
  have hF := hG
  unfold State.endContest
  iterate 40 all_goals try first
    | with_reducible assumption
    | with_reducible apply good_modHSlot
    | with_reducible apply good_hForce
    | with_reducible apply good_hFence
    | with_reducible apply good_hevent
    | (with_reducible apply good_foldl; intro xA yA hX)
    | (with_reducible apply good_ite <;> intro hC)

end Sys2Proof.Laws
end

