-- ==== Sys2Proof/Laws/GoodHoistCmd.lean ====
section
/-! SUPPORT. What every operation and command of Machine/HoistCmd.lean keeps, one lemma each. -/

set_option linter.all false

namespace Sys2Proof.Laws

open Sys2Proof.Machine

variable {b0 : State}

theorem good_hRefuse {s : State} {op : Nat} {a : HCmd} {code : Nat} 
    (hG : Good b0 s) : Good b0 (State.hRefuse s op a code) := by
  have hF := hG
  unfold State.hRefuse
  iterate 40 all_goals try first
    | with_reducible apply good_hrecord
    | with_reducible apply good_answer
    | with_reducible apply hF

theorem good_hDone {s : State} {op : Nat} {a : HCmd} {data : List Byte} {old : State}
    (hG : Good b0 s) : Good b0 (State.hDone s op a data old) := by
  have hF := hG
  unfold State.hDone
  iterate 40 all_goals try first
    | with_reducible apply good_answer
    | with_reducible apply good_hrecord
    | (with_reducible apply good_foldl; intro xA yA hX)
    | (with_reducible apply good_foldl1; intro xA yA hX)
    | (with_reducible apply good_ite <;> intro hC)
    | with_reducible apply hF
    | with_reducible assumption
    | split
    | (intro xA yA zA hX; with_reducible have hY : Good b0 xA := hX)
    | (intro xA yA hX; with_reducible have hY : Good b0 xA := hX)
    | (intro xA hX; with_reducible have hY : Good b0 xA := hX)
    | with_reducible refine good_mk rfl rfl rfl rfl rfl rfl rfl rfl rfl ?_

theorem good_hStart {s : State} {op : Nat} {a : HCmd} 
    (hG : Good b0 s) : Good b0 (State.hStart s op a) := by
  have hF := hG
  unfold State.hStart
  iterate 40 all_goals try first
    | with_reducible apply good_answer
    | with_reducible apply good_startAction
    | with_reducible apply hF

theorem good_hTake {s : State} {op : Nat} {a : HCmd} {refusal : Option Nat} {f : State → State} (f_g : ∀ x, Good b0 x → Good b0 (f x))
    (hG : Good b0 s) : Good b0 (State.hTake s op a refusal f) := by
  have hF := hG
  unfold State.hTake
  iterate 40 all_goals try first
    | with_reducible apply good_hRefuse
    | apply f_g
    | with_reducible apply hF
    | split
    | with_reducible refine good_mk rfl rfl rfl rfl rfl rfl rfl rfl rfl ?_

theorem good_pathContrib {s : State} {a : HCmd} {f : HContrib → HContrib} 
    (hG : Good b0 s) : Good b0 (State.pathContrib s a f) := by
  have hF := hG
  unfold State.pathContrib
  iterate 40 all_goals try first
    | with_reducible apply good_contribute
    | with_reducible apply hF

theorem good_execGetStatus {a : HCmd} {s : State} 
    (hG : Good b0 s) : GoodR b0 (execGetStatus a s) := by
  have hX := hG
  unfold execGetStatus
  iterate 40 all_goals try first
    | with_reducible assumption
    | with_reducible apply good_hDone
    | with_reducible apply good_hTake
    | with_reducible apply good_next
    | (intro xA hX; with_reducible have hY : Good b0 xA := hX)

theorem good_execGetSensors {a : HCmd} {s : State} 
    (hG : Good b0 s) : GoodR b0 (execGetSensors a s) := by
  have hX := hG
  unfold execGetSensors
  iterate 40 all_goals try first
    | with_reducible assumption
    | with_reducible apply good_readingsOf
    | with_reducible apply good_hDone
    | with_reducible apply good_hTake
    | with_reducible apply good_next
    | (intro xA hX; with_reducible have hY : Good b0 xA := hX)

theorem good_execGetLog {a : HCmd} {s : State} 
    (hG : Good b0 s) : GoodR b0 (execGetLog a s) := by
  have hX := hG
  unfold execGetLog
  iterate 40 all_goals try first
    | with_reducible assumption
    | with_reducible apply good_hDone
    | with_reducible apply good_hTake
    | with_reducible apply good_next
    | (intro xA hX; with_reducible have hY : Good b0 xA := hX)

theorem good_execModuleOut {a : HCmd} {s : State} 
    (hG : Good b0 s) : GoodR b0 (execModuleOut a s) := by
  have hX := hG
  unfold execModuleOut
  iterate 40 all_goals try first
    | with_reducible assumption
    | with_reducible apply good_hStart
    | with_reducible apply good_hTake
    | with_reducible apply good_next
    | (intro xA hX; with_reducible have hY : Good b0 xA := hX)

theorem good_execModuleIn {a : HCmd} {s : State} 
    (hG : Good b0 s) : GoodR b0 (execModuleIn a s) := by
  have hX := hG
  unfold execModuleIn
  iterate 40 all_goals try first
    | with_reducible assumption
    | with_reducible apply good_modHSlot
    | with_reducible apply good_hStart
    | with_reducible apply good_hTake
    | with_reducible apply good_next
    | (intro xA hX; with_reducible have hY : Good b0 xA := hX)

theorem good_execModuleCycle {a : HCmd} {s : State} 
    (hG : Good b0 s) : GoodR b0 (execModuleCycle a s) := by
  have hX := hG
  unfold execModuleCycle
  iterate 40 all_goals try first
    | with_reducible assumption
    | with_reducible apply good_hStart
    | with_reducible apply good_hTake
    | with_reducible apply good_next
    | (intro xA hX; with_reducible have hY : Good b0 xA := hX)

theorem good_execModuleReset {a : HCmd} {s : State} 
    (hG : Good b0 s) : GoodR b0 (execModuleReset a s) := by
  have hX := hG
  unfold execModuleReset
  iterate 40 all_goals try first
    | with_reducible assumption
    | with_reducible apply good_hStart
    | with_reducible apply good_hTake
    | with_reducible apply good_next
    | (intro xA hX; with_reducible have hY : Good b0 xA := hX)

theorem good_execModuleKill {a : HCmd} {s : State} 
    (hG : Good b0 s) : GoodR b0 (execModuleKill a s) := by
  have hX := hG
  unfold execModuleKill
  iterate 40 all_goals try first
    | with_reducible assumption
    | with_reducible apply good_hStart
    | with_reducible apply good_hTake
    | with_reducible apply good_next
    | (intro xA hX; with_reducible have hY : Good b0 xA := hX)

theorem good_execShed {a : HCmd} {s : State} 
    (hG : Good b0 s) : GoodR b0 (execShed a s) := by
  have hX := hG
  unfold execShed
  iterate 40 all_goals try first
    | with_reducible assumption
    | with_reducible apply good_hDone
    | with_reducible apply good_hTake
    | with_reducible apply good_pathContrib
    | with_reducible apply good_next
    | (intro xA hX; with_reducible have hY : Good b0 xA := hX)

theorem good_execFence {a : HCmd} {s : State} 
    (hG : Good b0 s) : GoodR b0 (execFence a s) := by
  have hX := hG
  unfold execFence
  iterate 40 all_goals try first
    | with_reducible assumption
    | with_reducible apply good_hDone
    | with_reducible apply good_hTake
    | with_reducible apply good_pathContrib
    | with_reducible apply good_next
    | (intro xA hX; with_reducible have hY : Good b0 xA := hX)

theorem good_execForceAbsent {a : HCmd} {s : State} 
    (hG : Good b0 s) : GoodR b0 (execForceAbsent a s) := by
  have hX := hG
  unfold execForceAbsent
  iterate 40 all_goals try first
    | with_reducible assumption
    | with_reducible apply good_hDone
    | with_reducible apply good_hTake
    | with_reducible apply good_pathContrib
    | with_reducible apply good_next
    | (intro xA hX; with_reducible have hY : Good b0 xA := hX)

theorem good_execPviewRead {a : HCmd} {spi : Option (List Word)} {s : State} 
    (hG : Good b0 s) : GoodR b0 (execPviewRead a spi s) := by
  have hX := hG
  unfold execPviewRead
  iterate 40 all_goals try first
    | with_reducible assumption
    | with_reducible apply good_hDone
    | with_reducible apply good_hTake
    | with_reducible apply good_spi
    | with_reducible apply good_next
    | (intro xA hX; with_reducible have hY : Good b0 xA := hX)

theorem good_execPviewWrite {a : HCmd} {spiOk : Bool} {s : State} 
    (hG : Good b0 s) : GoodR b0 (execPviewWrite a spiOk s) := by
  have hX := hG
  unfold execPviewWrite
  iterate 40 all_goals try first
    | with_reducible assumption
    | with_reducible apply good_hDone
    | with_reducible apply good_hTake
    | with_reducible apply good_next
    | (intro xA hX; with_reducible have hY : Good b0 xA := hX)
    | with_reducible refine good_mk rfl rfl rfl rfl rfl rfl rfl rfl rfl ?_

theorem good_execHold {a : HCmd} {s : State} 
    (hG : Good b0 s) : GoodR b0 (execHold a s) := by
  have hX := hG
  unfold execHold
  iterate 40 all_goals try first
    | with_reducible assumption
    | with_reducible apply good_modHSlot
    | with_reducible apply good_hDone
    | with_reducible apply good_hTake
    | with_reducible apply good_next
    | (intro xA hX; with_reducible have hY : Good b0 xA := hX)

theorem good_execHoldRelease {a : HCmd} {s : State} 
    (hG : Good b0 s) : GoodR b0 (execHoldRelease a s) := by
  have hX := hG
  unfold execHoldRelease
  iterate 40 all_goals try first
    | with_reducible assumption
    | with_reducible apply good_modHSlot
    | with_reducible apply good_hDone
    | with_reducible apply good_hTake
    | with_reducible apply good_next
    | (intro xA hX; with_reducible have hY : Good b0 xA := hX)

theorem good_execHoldExpiry {slot : Nat} {s : State} 
    (hG : Good b0 s) : GoodR b0 (execHoldExpiry slot s) := by
  have hF := hG
  unfold execHoldExpiry
  iterate 40 all_goals try first
    | with_reducible apply good_modHSlot
    | with_reducible apply good_next
    | with_reducible apply hF
    | split

theorem good_mainClose {s : State} 
    (hG : Good b0 s) : Good b0 (State.mainClose s) := by
  have hX := hG
  unfold State.mainClose
  iterate 40 all_goals try first
    | with_reducible assumption
    | with_reducible apply good_modHSlot
    | (with_reducible apply good_foldl; intro xA yA hX)
    | split
    | with_reducible refine good_mk rfl rfl rfl rfl rfl rfl rfl rfl rfl ?_

theorem good_execInterlockClear {a : HCmd} {s : State} 
    (hG : Good b0 s) : GoodR b0 (execInterlockClear a s) := by
  have hX := hG
  unfold execInterlockClear
  iterate 40 all_goals try first
    | with_reducible assumption
    | with_reducible apply good_hDone
    | with_reducible apply good_hTake
    | with_reducible apply good_mainClose
    | with_reducible apply good_next
    | (intro xA hX; with_reducible have hY : Good b0 xA := hX)
    | with_reducible refine good_mk rfl rfl rfl rfl rfl rfl rfl rfl rfl ?_

theorem good_execLatchRelease {a : HCmd} {s : State} 
    (hG : Good b0 s) : GoodR b0 (execLatchRelease a s) := by
  have hX := hG
  unfold execLatchRelease
  iterate 40 all_goals try first
    | with_reducible assumption
    | with_reducible apply good_modHSlot
    | with_reducible apply good_hDone
    | with_reducible apply good_hTake
    | with_reducible apply good_next
    | (intro xA hX; with_reducible have hY : Good b0 xA := hX)

theorem good_execClearContest {a : HCmd} {s : State} 
    (hG : Good b0 s) : GoodR b0 (execClearContest a s) := by
  have hX := hG
  unfold execClearContest
  iterate 40 all_goals try first
    | with_reducible assumption
    | with_reducible apply good_endContest
    | with_reducible apply good_hDone
    | with_reducible apply good_hTake
    | with_reducible apply good_next
    | split
    | (intro xA hX; with_reducible have hY : Good b0 xA := hX)

theorem good_execCanFrameDiscard {_ident : Nat} {_frame : List Byte} {s : State} 
    (hG : Good b0 s) : GoodR b0 (execCanFrameDiscard _ident _frame s) := by
  have hF := hG
  unfold execCanFrameDiscard
  iterate 40 all_goals try first
    | with_reducible apply good_next
    | with_reducible apply hF

theorem good_execHeartbeat {frame : List Byte} {s : State} 
    (hG : Good b0 s) : GoodR b0 (execHeartbeat frame s) := by
  have hF := hG
  unfold execHeartbeat
  iterate 40 all_goals try first
    | extract_lets +onlyGivenNames xG
    | with_reducible apply good_hevent
    | with_reducible apply good_autoCycle
    | with_reducible apply good_next
    | with_reducible apply hF
    | split
    | with_reducible refine good_mk rfl rfl rfl rfl rfl rfl rfl rfl rfl ?_

theorem good_stopService {s : State} {p : Nat} 
    (hG : Good b0 s) : Good b0 (State.stopService s p) := by
  have hF := hG
  unfold State.stopService
  iterate 40 all_goals try first
    | with_reducible apply good_modHSlot
    | with_reducible apply good_logAction
    | (with_reducible apply good_ite <;> intro hC)
    | with_reducible apply hF

theorem good_execScLost {s : State} 
    (hG : Good b0 s) : GoodR b0 (execScLost s) := by
  have hX := hG
  unfold execScLost
  iterate 40 all_goals try first
    | with_reducible assumption
    | with_reducible apply good_hevent
    | with_reducible apply good_stopService
    | with_reducible apply good_autoCycle
    | with_reducible apply good_next
    | (with_reducible apply good_foldl; intro xA yA hX)
    | split
    | with_reducible refine good_mk rfl rfl rfl rfl rfl rfl rfl rfl rfl ?_

theorem good_execStatusBroadcast {s : State} 
    (hG : Good b0 s) : GoodR b0 (execStatusBroadcast s) := by
  have hF := hG
  unfold execStatusBroadcast
  iterate 40 all_goals try first
    | with_reducible apply good_next
    | with_reducible apply hF
    | with_reducible refine good_mk rfl rfl rfl rfl rfl rfl rfl rfl rfl ?_

theorem good_execUartIdleGap {s : State} 
    (hG : Good b0 s) : GoodR b0 (execUartIdleGap s) := by
  have hF := hG
  unfold execUartIdleGap
  iterate 40 all_goals try first
    | with_reducible apply good_next
    | with_reducible apply hF
    | with_reducible refine good_mk rfl rfl rfl rfl rfl rfl rfl rfl rfl ?_

theorem good_mctpControl {s : State} {body : List Byte} 
    (hG : Good b0 s) : Good b0 (State.mctpControl s body) := by
  have hF := hG
  unfold State.mctpControl
  iterate 40 all_goals try first
    | with_reducible apply hF
    | with_reducible refine good_mk rfl rfl rfl rfl rfl rfl rfl rfl rfl ?_

theorem good_execSetEndpointId {eid : Byte} {s : State} 
    (hG : Good b0 s) : GoodR b0 (execSetEndpointId eid s) := by
  have hF := hG
  unfold execSetEndpointId
  iterate 40 all_goals try first
    | with_reducible apply good_mctpControl
    | with_reducible apply good_next
    | with_reducible apply hF
    | split
    | with_reducible refine good_mk rfl rfl rfl rfl rfl rfl rfl rfl rfl ?_

theorem good_execGetEndpointId {s : State} 
    (hG : Good b0 s) : GoodR b0 (execGetEndpointId s) := by
  have hF := hG
  unfold execGetEndpointId
  iterate 40 all_goals try first
    | with_reducible apply good_mctpControl
    | with_reducible apply good_next
    | with_reducible apply hF

theorem good_execGetMctpVersionSupport {s : State} 
    (hG : Good b0 s) : GoodR b0 (execGetMctpVersionSupport s) := by
  have hF := hG
  unfold execGetMctpVersionSupport
  iterate 40 all_goals try first
    | with_reducible apply good_takeFree
    | with_reducible apply good_mctpControl
    | with_reducible apply good_next
    | with_reducible apply hF

theorem good_execGetMessageTypeSupport {s : State} 
    (hG : Good b0 s) : GoodR b0 (execGetMessageTypeSupport s) := by
  have hF := hG
  unfold execGetMessageTypeSupport
  iterate 40 all_goals try first
    | with_reducible apply good_mctpControl
    | with_reducible apply good_next
    | with_reducible apply hF

theorem good_execGetVendorMessageSupport {s : State} 
    (hG : Good b0 s) : GoodR b0 (execGetVendorMessageSupport s) := by
  have hF := hG
  unfold execGetVendorMessageSupport
  iterate 40 all_goals try first
    | with_reducible apply good_takeFree
    | with_reducible apply good_mctpControl
    | with_reducible apply good_next
    | with_reducible apply hF

end Sys2Proof.Laws
end

