-- ==== Sys2Proof/Laws/GoodHoistExam.lean ====
section
/-! SUPPORT. What every operation and command of Machine/HoistExam.lean keeps, one lemma each. -/

set_option linter.all false

namespace Sys2Proof.Laws

open Sys2Proof.Machine

variable {b0 : State}

theorem good_execLeak {rope : Nat} {s : State} 
    (hG : Good b0 s) : GoodR b0 (execLeak rope s) := by
  have hF := hG
  unfold execLeak
  iterate 40 all_goals try first
    | with_reducible apply good_trayTrip
    | with_reducible apply good_next
    | with_reducible apply hF
    | with_reducible refine good_mk rfl rfl rfl rfl rfl rfl rfl rfl rfl ?_

theorem good_execMainOc {s : State} 
    (hG : Good b0 s) : GoodR b0 (execMainOc s) := by
  have hF := hG
  unfold execMainOc
  iterate 40 all_goals try first
    | with_reducible apply good_trayTrip
    | with_reducible apply good_next
    | with_reducible apply hF

theorem good_execShdn {slot : Nat} {s : State} 
    (hG : Good b0 s) : GoodR b0 (execShdn slot s) := by
  have hF := hG
  unfold execShdn
  iterate 40 all_goals try first
    | with_reducible apply good_modHSlot
    | with_reducible apply good_hrecord
    | with_reducible apply good_tripSlot
    | with_reducible apply good_next
    | with_reducible apply hF
    | split

theorem good_execModuleOc {slot : Nat} {s : State} 
    (hG : Good b0 s) : GoodR b0 (execModuleOc slot s) := by
  have hF := hG
  unfold execModuleOc
  iterate 40 all_goals try first
    | with_reducible apply good_modHSlot
    | with_reducible apply good_hrecord
    | with_reducible apply good_tripSlot
    | with_reducible apply good_next
    | with_reducible apply hF
    | split

theorem good_execYanked {slot : Nat} {s : State} 
    (hG : Good b0 s) : GoodR b0 (execYanked slot s) := by
  have hF := hG
  unfold execYanked
  iterate 40 all_goals try first
    | with_reducible apply good_yank
    | with_reducible apply good_next
    | with_reducible apply hF
    | split

theorem good_takeReads {s : State} {reads : List HReading} 
    (hG : Good b0 s) : Good b0 (State.takeReads s reads) := by
  have hX := hG
  unfold State.takeReads
  iterate 40 all_goals try first
    | with_reducible assumption
    | with_reducible apply good_modHSlot
    | (with_reducible apply good_foldl; intro xA yA hX)
    | split

theorem good_sampleSlot {s : State} {p : Nat} {i : HSlotIn} 
    (hG : Good b0 s) : Good b0 (State.sampleSlot s p i) := by
  have hF := hG
  unfold State.sampleSlot
  iterate 40 all_goals try first
    | with_reducible apply good_modHSlot
    | with_reducible apply good_abortAction
    | with_reducible apply good_yank
    | (with_reducible apply good_ite <;> intro hC)
    | with_reducible apply hF

theorem good_runSlot {s : State} {p : Nat} 
    (hG : Good b0 s) : Good b0 (State.runSlot s p) := by
  have hF := hG
  unfold State.runSlot
  iterate 40 all_goals try first
    | with_reducible apply good_stepAction
    | with_reducible apply hF
    | split

theorem good_execRailSample {a : RailIn} {s : State} 
    (hG : Good b0 s) : GoodR b0 (execRailSample a s) := by
  have hX := hG
  unfold execRailSample
  iterate 40 all_goals try first
    | with_reducible assumption
    | with_reducible apply good_tickTrips
    | with_reducible apply good_takeReads
    | with_reducible apply good_sampleSlot
    | with_reducible apply good_runSlot
    | with_reducible apply good_next
    | (with_reducible apply good_foldl; intro xA yA hX)
    | with_reducible refine good_mk rfl rfl rfl rfl rfl rfl rfl rfl rfl ?_

theorem good_notePins {s : State} {p : Nat} 
    (hG : Good b0 s) : Good b0 (State.notePins s p) := by
  have hF := hG
  unfold State.notePins
  iterate 40 all_goals try first
    | with_reducible apply good_modHSlot
    | with_reducible apply hF

theorem good_execLinkPinSample {a : LinkPinIn} {s : State} 
    (hG : Good b0 s) : GoodR b0 (execLinkPinSample a s) := by
  have hX := hG
  unfold execLinkPinSample
  iterate 40 all_goals try first
    | with_reducible assumption
    | with_reducible apply good_modHSlot
    | with_reducible apply good_notePins
    | with_reducible apply good_next
    | (with_reducible apply good_foldl; intro xA yA hX)

theorem good_flowShed {s : State} 
    (hG : Good b0 s) : Good b0 (State.flowShed s) := by
  have hX := hG
  unfold State.flowShed
  iterate 40 all_goals try first
    | with_reducible assumption
    | extract_lets +onlyGivenNames xG
    | with_reducible apply good_contribute
    | (with_reducible apply good_foldl; intro xA yA hX)
    | split

theorem good_execCoolantSample {tin tout : Int} {flow : Nat} {tmod : List Int} {s : State} 
    (hG : Good b0 s) : GoodR b0 (execCoolantSample tin tout flow tmod s) := by
  have hX := hG
  unfold execCoolantSample
  iterate 40 all_goals try first
    | with_reducible assumption
    | with_reducible apply good_modHSlot
    | with_reducible apply good_hevent
    | with_reducible apply good_flowShed
    | with_reducible apply good_next
    | (with_reducible apply good_foldl; intro xA yA hX)
    | split
    | with_reducible refine good_mk rfl rfl rfl rfl rfl rfl rfl rfl rfl ?_

theorem good_execRopeSample {ohmA ohmB : Nat} {s : State} 
    (hG : Good b0 s) : GoodR b0 (execRopeSample ohmA ohmB s) := by
  have hF := hG
  unfold execRopeSample
  iterate 40 all_goals try first
    | with_reducible apply good_hevent
    | with_reducible apply good_next
    | with_reducible apply hF
    | split
    | with_reducible refine good_mk rfl rfl rfl rfl rfl rfl rfl rfl rfl ?_

theorem good_rewriteOwned {s : State} {p : Nat} 
    (hG : Good b0 s) : Good b0 (State.rewriteOwned s p) := by
  have hX := hG
  unfold State.rewriteOwned
  iterate 40 all_goals try first
    | with_reducible assumption
    | extract_lets +onlyGivenNames xG
    | with_reducible apply good_spiWrite
    | with_reducible apply good_hevent
    | (with_reducible apply good_foldl; intro xA yA hX)
    | split

theorem good_execModuleRegisterPoll {reads : List HReading} {s : State} 
    (hG : Good b0 s) : GoodR b0 (execModuleRegisterPoll reads s) := by
  have hX := hG
  unfold execModuleRegisterPoll
  iterate 40 all_goals try first
    | with_reducible assumption
    | with_reducible apply good_takeReads
    | with_reducible apply good_rewriteOwned
    | with_reducible apply good_next
    | (with_reducible apply good_foldl; intro xA yA hX)

theorem good_autoCycle {s : State} {p : Nat} 
    (hG : Good b0 s) : Good b0 (State.autoCycle s p) := by
  have hF := hG
  unfold State.autoCycle
  iterate 40 all_goals try first
    | extract_lets +onlyGivenNames xG
    | with_reducible apply good_modHSlot
    | with_reducible apply good_hevent
    | with_reducible apply good_startAction
    | with_reducible apply hF
    | split

theorem good_countPoint {s : State} {p power : Nat} 
    (hG : Good b0 s) : Good b0 (State.countPoint s p power) := by
  have hF := hG
  unfold State.countPoint
  iterate 40 all_goals try first
    | extract_lets +onlyGivenNames xG
    | with_reducible apply good_modHSlot
    | with_reducible apply good_endContest
    | with_reducible apply good_autoCycle
    | with_reducible apply hF
    | split

theorem good_examineSlot {s : State} {p : Nat} 
    (hG : Good b0 s) : Good b0 (State.examineSlot s p) := by
  have hF := hG
  unfold State.examineSlot
  iterate 40 all_goals try first
    | with_reducible apply good_modHSlot
    | with_reducible apply good_hevent
    | with_reducible apply good_enterContest
    | with_reducible apply good_countPoint
    | with_reducible apply good_settle
    | (with_reducible apply good_ite <;> intro hC)
    | with_reducible apply hF
    | split

theorem good_execExaminationPoint {reads : List HReading} {s : State} 
    (hG : Good b0 s) : GoodR b0 (execExaminationPoint reads s) := by
  have hX := hG
  unfold execExaminationPoint
  iterate 40 all_goals try first
    | with_reducible assumption
    | with_reducible apply good_modHSlot
    | with_reducible apply good_takeReads
    | with_reducible apply good_examineSlot
    | with_reducible apply good_next
    | (with_reducible apply good_foldl; intro xA yA hX)
    | with_reducible refine good_mk rfl rfl rfl rfl rfl rfl rfl rfl rfl ?_

theorem good_adoptContest {s : State} {p : Nat} 
    (hG : Good b0 s) : Good b0 (State.adoptContest s p) := by
  have hF := hG
  unfold State.adoptContest
  iterate 40 all_goals try first
    | extract_lets +onlyGivenNames xG
    | with_reducible apply good_modHSlot
    | with_reducible apply hF
    | split

theorem good_execHoistStart {a : RailIn} {reads : List HReading} {s : State} 
    (hG : Good b0 s) : GoodR b0 (execHoistStart a reads s) := by
  have hX := hG
  unfold execHoistStart
  iterate 40 all_goals try first
    | with_reducible assumption
    | with_reducible apply good_takeFree
    | with_reducible apply good_modHSlot
    | with_reducible apply good_hevent
    | with_reducible apply good_takeReads
    | with_reducible apply good_adoptContest
    | with_reducible apply good_autoCycle
    | with_reducible apply good_next
    | (with_reducible apply good_foldl; intro xA yA hX)
    | with_reducible refine good_mk rfl rfl rfl rfl rfl rfl rfl rfl rfl ?_

end Sys2Proof.Laws
end

