-- ==== Sys2Proof/Laws/GoodIntake.lean ====
section
/-! SUPPORT. What every operation and command of Machine/Intake.lean keeps, one lemma each. -/

set_option linter.all false

namespace Sys2Proof.Laws

open Sys2Proof.Machine

variable {b0 : State}

theorem good_dramWrite {s : State} {a : Nat} {bs : List Byte}
    (hG : Good b0 s) : Good b0 (State.dramWrite s a bs) := by
  have hF := hG
  unfold State.dramWrite
  iterate 40 all_goals try first
    | with_reducible apply good_dramPut
    | (with_reducible apply good_foldl; intro xA yA hX)
    | (with_reducible apply good_foldl1; intro xA yA hX)
    | (with_reducible apply good_ite <;> intro hC)
    | with_reducible apply hF
    | with_reducible assumption
    | split
    | (intro xA yA zA hX; with_reducible have hY : Good b0 xA := hX)
    | (intro xA yA hX; with_reducible have hY : Good b0 xA := hX)
    | (intro xA hX; with_reducible have hY : Good b0 xA := hX)
    | with_reducible refine good_mk rfl rfl rfl rfl rfl rfl rfl rfl rfl ?_

theorem good_buildBand {s : State} {fid k b : Nat} 
    (hG : Good b0 s) : Good b0 (State.buildBand s fid k b) := by
  have hF := hG
  unfold State.buildBand
  iterate 40 all_goals try first
    | with_reducible apply good_modFrame
    | with_reducible apply good_dramWrite
    | with_reducible apply good_store
    | with_reducible apply hF
    | split
    | with_reducible refine good_mk rfl rfl rfl rfl rfl rfl rfl rfl rfl ?_

theorem good_buildAll {s : State} {fid : Nat} 
    (hG : Good b0 s) : Good b0 (State.buildAll s fid) := by
  have hX := hG
  unfold State.buildAll
  iterate 40 all_goals try first
    | with_reducible assumption
    | with_reducible apply good_buildBand
    | (with_reducible apply good_foldl; intro xA yA hX)
    | split

theorem good_execBandBuild {stream level band : Nat} {s : State} 
    (hG : Good b0 s) : GoodR b0 (execBandBuild stream level band s) := by
  have hF := hG
  unfold execBandBuild
  iterate 40 all_goals try first
    | with_reducible apply good_buildBand
    | with_reducible apply good_next
    | with_reducible apply hF
    | split

theorem good_writeStoreHead {s : State} {fid : Nat} 
    (hG : Good b0 s) : Good b0 (State.writeStoreHead s fid) := by
  have hF := hG
  unfold State.writeStoreHead
  iterate 40 all_goals try first
    | with_reducible apply good_dramWrite
    | with_reducible apply hF
    | split

theorem good_intakeEvent {s : State} {b : Nat} 
    (hG : Good b0 s) : Good b0 (State.intakeEvent s b) := by
  have hF := hG
  unfold State.intakeEvent
  iterate 40 all_goals try first
    | with_reducible apply hF
    | with_reducible refine good_mk rfl rfl rfl rfl rfl rfl rfl rfl rfl ?_

theorem good_guardBit {s : State} {fid b : Nat} 
    (hG : Good b0 s) : Good b0 (State.guardBit s fid b) := by
  have hF := hG
  unfold State.guardBit
  iterate 40 all_goals try first
    | with_reducible apply good_modFrame
    | with_reducible apply hF

theorem good_checkCounter {s : State} {k fid : Nat} 
    (hG : Good b0 s) : Good b0 (State.checkCounter s k fid) := by
  have hF := hG
  unfold State.checkCounter
  iterate 40 all_goals try first
    | extract_lets +onlyGivenNames xG
    | with_reducible apply good_modStream
    | with_reducible apply good_modFrame
    | with_reducible apply good_intakeEvent
    | with_reducible apply good_guardBit
    | with_reducible apply hF
    | split

theorem good_takeStore {s : State} {k fid : Nat} 
    (hG : Good b0 s) : Good b0 (State.takeStore s k fid) := by
  have hF := hG
  unfold State.takeStore
  iterate 40 all_goals try first
    | with_reducible apply good_modStream
    | with_reducible apply good_modFrame
    | with_reducible apply good_intakeEvent
    | with_reducible apply good_store
    | with_reducible apply hF
    | split
    | with_reducible refine good_mk rfl rfl rfl rfl rfl rfl rfl rfl rfl ?_

theorem good_checkInterval {s : State} {k fid prev d : Nat} 
    (hG : Good b0 s) : Good b0 (State.checkInterval s k fid prev d) := by
  have hF := hG
  unfold State.checkInterval
  iterate 40 all_goals try first
    | extract_lets +onlyGivenNames xG
    | with_reducible apply good_modStream
    | with_reducible apply good_modFrame
    | with_reducible apply good_intakeEvent
    | with_reducible apply good_guardBit
    | with_reducible apply hF
    | split

theorem good_intakeClaim {s : State} {t u k fid : Nat}
    (hG : Good b0 s) : Good b0 (State.intakeClaim s t u k fid).1 := by
  have hX := hG
  unfold State.intakeClaim
  iterate 40 all_goals try first
    | with_reducible assumption
    | extract_lets +onlyGivenNames xG
    | with_reducible apply good_modTc
    | (with_reducible apply good_foldl; intro xA yA hX)
    | (with_reducible apply good_foldl1; intro xA yA hX)
    | split
    | (intro xA yA zA hX; with_reducible have hY : Good b0 xA := hX)
    | (intro xA yA hX; with_reducible have hY : Good b0 xA := hX)
    | (intro xA hX; with_reducible have hY : Good b0 xA := hX)
    | with_reducible refine good_mk rfl rfl rfl rfl rfl rfl rfl rfl rfl ?_

theorem good_intakeRelease {s : State} {t u k : Nat}
    (hG : Good b0 s) : Good b0 (State.intakeRelease s t u k) := by
  have hF := hG
  unfold State.intakeRelease
  iterate 40 all_goals try first
    | with_reducible apply good_modTc
    | (with_reducible apply good_foldl; intro xA yA hX)
    | (with_reducible apply good_foldl1; intro xA yA hX)
    | (with_reducible apply good_ite <;> intro hC)
    | with_reducible apply hF
    | with_reducible assumption
    | split
    | (intro xA yA zA hX; with_reducible have hY : Good b0 xA := hX)
    | (intro xA yA hX; with_reducible have hY : Good b0 xA := hX)
    | (intro xA hX; with_reducible have hY : Good b0 xA := hX)
    | with_reducible refine good_mk rfl rfl rfl rfl rfl rfl rfl rfl rfl ?_

theorem good_endClaim {s : State} {fid : Nat} 
    (hG : Good b0 s) : Good b0 (State.endClaim s fid) := by
  have hF := hG
  unfold State.endClaim
  iterate 40 all_goals try first
    | with_reducible apply good_intakeRelease
    | with_reducible apply hF
    | split

theorem good_frameClaim {s : State} {k fid : Nat} 
    (hG : Good b0 s) : Good b0 (State.frameClaim s k fid).1 := by
  have hF := hG
  unfold State.frameClaim
  iterate 40 all_goals try first
    | with_reducible apply good_intakeClaim
    | with_reducible apply hF
    | split

theorem good_engage {s : State} {k fid : Nat} 
    (hG : Good b0 s) : Good b0 (State.engage s k fid) := by
  have hF := hG
  unfold State.engage
  iterate 40 all_goals try first
    | extract_lets +onlyGivenNames xG
    | with_reducible apply good_modStream
    | with_reducible apply good_modFrame
    | with_reducible apply good_writeStoreHead
    | with_reducible apply good_checkCounter
    | with_reducible apply good_takeStore
    | with_reducible apply good_checkInterval
    | with_reducible apply good_frameClaim
    | with_reducible apply hF
    | split

theorem good_countCvFail {s : State} {k fid : Nat} 
    (hG : Good b0 s) : Good b0 (State.countCvFail s k fid) := by
  have hF := hG
  unfold State.countCvFail
  iterate 40 all_goals try first
    | with_reducible apply good_modStream
    | with_reducible apply good_intakeEvent
    | with_reducible apply good_guardBit
    | with_reducible apply hF
    | with_reducible refine good_mk rfl rfl rfl rfl rfl rfl rfl rfl rfl ?_

theorem good_failFrameCv {s : State} {k fid : Nat} 
    (hG : Good b0 s) : Good b0 (State.failFrameCv s k fid) := by
  have hF := hG
  unfold State.failFrameCv
  iterate 40 all_goals try first
    | with_reducible apply good_modFrame
    | with_reducible apply good_countCvFail
    | with_reducible apply hF

theorem good_failLine {s : State} {k fid row : Nat} 
    (hG : Good b0 s) : Good b0 (State.failLine s k fid row) := by
  have hF := hG
  unfold State.failLine
  iterate 40 all_goals try first
    | with_reducible apply good_modFrame
    | with_reducible apply good_countCvFail
    | with_reducible apply hF

theorem good_markLost {s : State} {fid : Nat} 
    (hG : Good b0 s) : Good b0 (State.markLost s fid) := by
  have hF := hG
  unfold State.markLost
  iterate 40 all_goals try first
    | with_reducible apply good_intakeEvent
    | with_reducible apply good_guardBit
    | with_reducible apply hF

theorem good_cvRunFeed {s : State} {t u : Nat} {bs : List Byte} 
    (hG : Good b0 s) : Good b0 (State.cvRunFeed s t u bs) := by
  have hF := hG
  unfold State.cvRunFeed
  iterate 40 all_goals try first
    | with_reducible apply good_modTc
    | with_reducible apply hF

theorem good_compareCarrier {s : State} {k fid : Nat} {got : List Byte} 
    (hG : Good b0 s) : Good b0 (State.compareCarrier s k fid got) := by
  have hF := hG
  unfold State.compareCarrier
  iterate 40 all_goals try first
    | with_reducible apply good_modFrame
    | with_reducible apply good_intakeRelease
    | with_reducible apply good_endClaim
    | with_reducible apply good_failFrameCv
    | with_reducible apply good_markLost
    | (with_reducible apply good_ite <;> intro hC)
    | with_reducible apply hF
    | split

theorem good_popItem {s : State} {k : Nat} 
    (hG : Good b0 s) : Good b0 (State.popItem s k) := by
  have hF := hG
  unfold State.popItem
  iterate 40 all_goals try first
    | with_reducible apply good_modStream
    | with_reducible apply hF

theorem good_passLanding {s : State} {k : Nat} 
    (hG : Good b0 s) : Good b0 (State.passLanding s k) := by
  have hX := hG
  unfold State.passLanding
  iterate 40 all_goals try first
    | with_reducible assumption
    | extract_lets +onlyGivenNames xG
    | with_reducible apply good_modSpm
    | (with_reducible apply good_foldl; intro xA yA hX)
    | split

theorem good_closeFrame {s : State} {fid t : Nat} 
    (hG : Good b0 s) : Good b0 (State.closeFrame s fid t) := by
  have hF := hG
  unfold State.closeFrame
  iterate 40 all_goals try first
    | with_reducible apply good_modFrame
    | with_reducible apply hF

theorem good_drainN {s : State} {k : Nat} {nR : Nat} 
    (hG : Good b0 s) : Good b0 (State.drainN s k nR) := by
  induction nR generalizing s k with
  | zero => exact hG
  | succ n ihG =>
  (have hF := hG; unfold State.drainN)
  iterate 40 all_goals try first
    | extract_lets +onlyGivenNames xG
    | with_reducible apply good_frameClaim
    | with_reducible apply good_engage
    | with_reducible apply good_compareCarrier
    | with_reducible apply good_popItem
    | with_reducible apply good_closeFrame
    | with_reducible apply ihG
    | with_reducible apply hF
    | split

theorem good_drainFrameEvents {s : State} {k : Nat} 
    (hG : Good b0 s) : Good b0 (State.drainFrameEvents s k) := by
  have hF := hG
  unfold State.drainFrameEvents
  iterate 40 all_goals try first
    | with_reducible apply good_passLanding
    | with_reducible apply good_drainN
    | with_reducible apply hF
    | split

theorem good_unwait {s : State} {k : Nat} 
    (hG : Good b0 s) : Good b0 (State.unwait s k) := by
  have hF := hG
  unfold State.unwait
  iterate 40 all_goals try first
    | with_reducible apply good_modTc
    | with_reducible apply good_modStream
    | (with_reducible apply good_ite <;> intro hC)
    | with_reducible apply hF
    | split

theorem good_storeRow {s : State} {k fid row : Nat} {data : List Byte} 
    (hG : Good b0 s) : Good b0 (State.storeRow s k fid row data) := by
  have hF := hG
  unfold State.storeRow
  iterate 40 all_goals try first
    | with_reducible apply good_modFrame
    | with_reducible apply hF
    | with_reducible refine good_mk rfl rfl rfl rfl rfl rfl rfl rfl rfl ?_

theorem good_checkLine {s : State} {k fid row : Nat} {data : List Byte} 
    (hG : Good b0 s) : Good b0 (State.checkLine s k fid row data).1 := by
  have hF := hG
  unfold State.checkLine
  iterate 40 all_goals try first
    | extract_lets +onlyGivenNames xG
    | with_reducible apply good_intakeClaim
    | with_reducible apply good_intakeRelease
    | with_reducible apply good_endClaim
    | with_reducible apply good_frameClaim
    | with_reducible apply good_failFrameCv
    | with_reducible apply good_failLine
    | with_reducible apply good_markLost
    | with_reducible apply good_cvRunFeed
    | with_reducible apply good_storeRow
    | (with_reducible apply good_ite1 <;> intro hC)
    | with_reducible apply hF
    | split

theorem good_execLineCheck {stream waited : Nat} {ecc : Option Nat} {s : State} 
    (hG : Good b0 s) : GoodR b0 (execLineCheck stream waited ecc s) := by
  have hX := hG
  unfold execLineCheck
  iterate 40 all_goals try first
    | with_reducible assumption
    | (extract_lets +onlyGivenNames xG; refine good_cut (A := Good b0 (Prod.fst xG)) ?gp ?gk; (case' gk => (intro hX; clear_value xG)); (case' gp => (unfold xG; clear xG)))
    | with_reducible apply good_report
    | with_reducible apply good_modStream
    | with_reducible apply good_failLine
    | with_reducible apply good_popItem
    | with_reducible apply good_drainFrameEvents
    | with_reducible apply good_unwait
    | with_reducible apply good_checkLine
    | with_reducible apply good_next
    | split
    | with_reducible refine good_mk rfl rfl rfl rfl rfl rfl rfl rfl rfl ?_

theorem good_padRows {s : State} {fid : Nat} 
    (hG : Good b0 s) : Good b0 (State.padRows s fid) := by
  have hF := hG
  unfold State.padRows
  iterate 40 all_goals try first
    | with_reducible apply good_modFrame
    | with_reducible apply hF

theorem good_leaveUnit {s : State} {k : Nat}
    (hG : Good b0 s) : Good b0 (State.leaveUnit s k) := by
  have hF := hG
  unfold State.leaveUnit
  iterate 40 all_goals try first
    | with_reducible apply good_modTc
    | (with_reducible apply good_foldl; intro xA yA hX)
    | (with_reducible apply good_foldl1; intro xA yA hX)
    | (with_reducible apply good_ite <;> intro hC)
    | with_reducible apply hF
    | with_reducible assumption
    | split
    | (intro xA yA zA hX; with_reducible have hY : Good b0 xA := hX)
    | (intro xA yA hX; with_reducible have hY : Good b0 xA := hX)
    | (intro xA hX; with_reducible have hY : Good b0 xA := hX)
    | with_reducible refine good_mk rfl rfl rfl rfl rfl rfl rfl rfl rfl ?_

theorem good_failCarrier {s : State} {k fid : Nat}
    (hG : Good b0 s) : Good b0 (State.failCarrier s k fid) := by
  have hF := hG
  unfold State.failCarrier
  iterate 40 all_goals try first
    | with_reducible apply good_markLost
    | with_reducible apply good_failFrameCv
    | with_reducible apply good_guardBit
    | (with_reducible apply good_foldl; intro xA yA hX)
    | (with_reducible apply good_foldl1; intro xA yA hX)
    | (with_reducible apply good_ite <;> intro hC)
    | with_reducible apply hF
    | with_reducible assumption
    | split
    | (intro xA yA zA hX; with_reducible have hY : Good b0 xA := hX)
    | (intro xA yA hX; with_reducible have hY : Good b0 xA := hX)
    | (intro xA hX; with_reducible have hY : Good b0 xA := hX)
    | with_reducible refine good_mk rfl rfl rfl rfl rfl rfl rfl rfl rfl ?_

theorem good_settleFrame {s : State} {k fid : Nat} 
    (hG : Good b0 s) : Good b0 (State.settleFrame s k fid) := by
  have hX := hG
  unfold State.settleFrame
  iterate 40 all_goals try first
    | with_reducible assumption
    | with_reducible apply good_modStream
    | with_reducible apply good_modFrame
    | with_reducible apply good_examineInputs
    | with_reducible apply good_buildAll
    | with_reducible apply good_writeStoreHead
    | with_reducible apply good_guardBit
    | with_reducible apply good_endClaim
    | with_reducible apply good_failFrameCv
    | with_reducible apply good_padRows
    | with_reducible apply good_failCarrier
    | with_reducible apply good_leaveUnit
    | (with_reducible apply good_foldl; intro xA yA hX)
    | (with_reducible apply good_ite <;> intro hC)
    | with_reducible refine good_mk rfl rfl rfl rfl rfl rfl rfl rfl rfl ?_

theorem good_execFrameCompletion {stream t : Nat} {s : State} 
    (hG : Good b0 s) : GoodR b0 (execFrameCompletion stream t s) := by
  have hF := hG
  unfold execFrameCompletion
  iterate 40 all_goals try first
    | extract_lets +onlyGivenNames xG
    | with_reducible apply good_advanceTo
    | with_reducible apply good_drainFrameEvents
    | with_reducible apply good_settleFrame
    | with_reducible apply good_next
    | with_reducible apply hF
    | split

theorem good_placeStores {s : State} {top : Nat} {a k : Nat} 
    (hG : Good b0 s) : Good b0 (State.placeStores s top a k).1 := by
  have hF := hG
  unfold State.placeStores
  iterate 40 all_goals try first
    | with_reducible apply good_modStream
    | with_reducible apply good_storeBytes
    | (with_reducible apply good_ite1 <;> intro hC)
    | with_reducible apply hF

theorem good_execFrameStoreReserve {s : State} 
    (hG : Good b0 s) : GoodR b0 (execFrameStoreReserve s) := by
  have hX := hG
  unfold execFrameStoreReserve
  iterate 40 all_goals try first
    | with_reducible assumption
    | with_reducible apply good_placeStores
    | with_reducible apply good_next
    | (with_reducible apply good_foldl1; intro xA yA hX)
    | split
    | with_reducible refine good_mk rfl rfl rfl rfl rfl rfl rfl rfl rfl ?_

end Sys2Proof.Laws
end

