-- ==== Sys2Proof/Laws/GoodMemory.lean ====
section
/-! SUPPORT. What every operation and command of Machine/Memory.lean keeps, one lemma each. -/

set_option linter.all false

namespace Sys2Proof.Laws

open Sys2Proof.Machine

variable {b0 : State}

theorem good_bindOp {a : RFmt} {fn : BitVec 11} {dig : Bool} {s : State} 
    (hG : Good b0 s) : GoodR b0 (bindOp a fn dig s) := by
  have hF := hG
  unfold bindOp
  iterate 40 all_goals try first
    | with_reducible apply good_issueReg
    | with_reducible apply good_next
    | with_reducible apply hF

theorem good_execBind {a : RFmt} {s : State} 
    (hG : Good b0 s) : GoodR b0 (execBind a s) := by
  have hF := hG
  unfold execBind
  iterate 40 all_goals try first
    | with_reducible apply good_bindOp
    | with_reducible apply hF

theorem good_execBindd {a : RFmt} {s : State} 
    (hG : Good b0 s) : GoodR b0 (execBindd a s) := by
  have hF := hG
  unfold execBindd
  iterate 40 all_goals try first
    | with_reducible apply good_bindOp
    | with_reducible apply hF

theorem good_load {a : MFmt} {op : BitVec 6} {n : Nat} {ext : Nat → Word} {s : State} 
    (hG : Good b0 s) : GoodR b0 (load a op n ext s) := by
  have hX := hG
  unfold load
  iterate 40 all_goals try first
    | with_reducible assumption
    | extract_lets +onlyGivenNames xG
    | with_reducible apply good_modTc
    | with_reducible apply good_issue
    | with_reducible apply good_loadBytes
    | with_reducible apply good_next
    | split
    | with_reducible apply goodTc_ok
    | with_reducible apply goodTc_exc
    | (intro xA yA zA hX; with_reducible have hY : Good b0 xA := hX)
    | (intro xA yA hX; with_reducible have hY : Good b0 xA := hX)

theorem good_store {a : MFmt} {op : BitVec 6} {n : Nat} {s : State} 
    (hG : Good b0 s) : GoodR b0 (store a op n s) := by
  have hX := hG
  unfold store
  iterate 40 all_goals try first
    | with_reducible assumption
    | extract_lets +onlyGivenNames xG
    | with_reducible apply good_issue
    | with_reducible apply good_storeBytes
    | with_reducible apply good_next
    | split
    | with_reducible apply goodTc_exc
    | (intro xA yA zA hX; with_reducible have hY : Good b0 xA := hX)

theorem good_execLb {a : MFmt} {s : State} 
    (hG : Good b0 s) : GoodR b0 (execLb a s) := by
  have hF := hG
  unfold execLb
  iterate 40 all_goals try first
    | with_reducible apply good_load
    | with_reducible apply hF

theorem good_execLbu {a : MFmt} {s : State} 
    (hG : Good b0 s) : GoodR b0 (execLbu a s) := by
  have hF := hG
  unfold execLbu
  iterate 40 all_goals try first
    | with_reducible apply good_load
    | with_reducible apply hF

theorem good_execLh {a : MFmt} {s : State} 
    (hG : Good b0 s) : GoodR b0 (execLh a s) := by
  have hF := hG
  unfold execLh
  iterate 40 all_goals try first
    | with_reducible apply good_load
    | with_reducible apply hF

theorem good_execLhu {a : MFmt} {s : State} 
    (hG : Good b0 s) : GoodR b0 (execLhu a s) := by
  have hF := hG
  unfold execLhu
  iterate 40 all_goals try first
    | with_reducible apply good_load
    | with_reducible apply hF

theorem good_execLw {a : MFmt} {s : State} 
    (hG : Good b0 s) : GoodR b0 (execLw a s) := by
  have hF := hG
  unfold execLw
  iterate 40 all_goals try first
    | with_reducible apply good_load
    | with_reducible apply hF

theorem good_execSb {a : MFmt} {s : State} 
    (hG : Good b0 s) : GoodR b0 (execSb a s) := by
  have hF := hG
  unfold execSb
  iterate 40 all_goals try first
    | with_reducible apply good_store
    | with_reducible apply hF

theorem good_execSh {a : MFmt} {s : State} 
    (hG : Good b0 s) : GoodR b0 (execSh a s) := by
  have hF := hG
  unfold execSh
  iterate 40 all_goals try first
    | with_reducible apply good_store
    | with_reducible apply hF

theorem good_execSw {a : MFmt} {s : State} 
    (hG : Good b0 s) : GoodR b0 (execSw a s) := by
  have hF := hG
  unfold execSw
  iterate 40 all_goals try first
    | with_reducible apply good_store
    | with_reducible apply hF

theorem good_execVld {a : MFmt} {s : State} 
    (hG : Good b0 s) : GoodR b0 (execVld a s) := by
  have hX := hG
  unfold execVld
  iterate 40 all_goals try first
    | with_reducible assumption
    | extract_lets +onlyGivenNames xG
    | with_reducible apply good_modTc
    | with_reducible apply good_issue
    | with_reducible apply good_loadBytes
    | with_reducible apply good_next
    | split
    | with_reducible apply goodTc_ok
    | with_reducible apply goodTc_exc
    | (intro xA yA zA hX; with_reducible have hY : Good b0 xA := hX)
    | (intro xA yA hX; with_reducible have hY : Good b0 xA := hX)

theorem good_execVst {a : MFmt} {s : State} 
    (hG : Good b0 s) : GoodR b0 (execVst a s) := by
  have hX := hG
  unfold execVst
  iterate 40 all_goals try first
    | with_reducible assumption
    | extract_lets +onlyGivenNames xG
    | with_reducible apply good_issue
    | with_reducible apply good_storeBytes
    | with_reducible apply good_next
    | split
    | with_reducible apply goodTc_exc
    | (intro xA yA zA hX; with_reducible have hY : Good b0 xA := hX)

theorem good_gather {a : GFmt} {w n stride : Nat} {s : State} {c : Tc} {i : Inst} 
    (hG : Good b0 s) : GoodTc b0 (gather a w n stride s c i) := by
  have hX := hG
  unfold gather
  iterate 40 all_goals try first
    | with_reducible assumption
    | with_reducible apply good_modTc
    | with_reducible apply good_gatherBytes
    | with_reducible apply goodTc_ok
    | (intro xA yA hX; with_reducible have hY : Good b0 xA := hX)

theorem good_execVldt {a : GFmt} {s : State} 
    (hG : Good b0 s) : GoodR b0 (execVldt a s) := by
  have hX := hG
  unfold execVldt
  iterate 40 all_goals try first
    | with_reducible assumption
    | extract_lets +onlyGivenNames xG
    | with_reducible apply good_issue
    | with_reducible apply good_gather
    | with_reducible apply good_next
    | split
    | with_reducible apply goodTc_exc
    | (intro xA yA zA hX; with_reducible have hY : Good b0 xA := hX)

theorem good_execVlds {a : GFmt} {s : State} 
    (hG : Good b0 s) : GoodR b0 (execVlds a s) := by
  have hX := hG
  unfold execVlds
  iterate 40 all_goals try first
    | with_reducible assumption
    | extract_lets +onlyGivenNames xG
    | with_reducible apply good_issue
    | with_reducible apply good_gather
    | with_reducible apply good_next
    | split
    | with_reducible apply goodTc_exc
    | (intro xA yA zA hX; with_reducible have hY : Good b0 xA := hX)

end Sys2Proof.Laws
end

