-- ==== Sys2Proof/Laws/GoodPcie.lean ====
section
/-! SUPPORT. What every operation and command of Machine/Pcie.lean keeps, one lemma each. -/

set_option linter.all false

namespace Sys2Proof.Laws

open Sys2Proof.Machine

variable {b0 : State}

theorem good_endpointReset {s : State} {kind : PcieRst} 
    (hG : Good b0 s) : Good b0 (State.endpointReset s kind) := by
  have hF := hG
  unfold State.endpointReset
  iterate 40 all_goals try first
    | with_reducible apply good_logEv
    | with_reducible apply good_clrRdy
    | with_reducible apply hF
    | split
    | with_reducible refine good_mk rfl rfl rfl rfl rfl rfl rfl rfl rfl ?_

theorem good_execPcieReset {kind : PcieRst} {s : State} 
    (hG : Good b0 s) : GoodR b0 (execPcieReset kind s) := by
  have hF := hG
  unfold execPcieReset
  iterate 40 all_goals try first
    | with_reducible apply good_endpointReset
    | with_reducible apply good_mainReset
    | with_reducible apply good_next
    | with_reducible apply hF
    | split

theorem good_trainPcie {s : State}
    (hG : Good b0 s) : Good b0 (State.trainPcie s) := by
  have hX := hG
  unfold State.trainPcie
  iterate 40 all_goals try first
    | with_reducible assumption
    | (extract_lets +onlyGivenNames xG; refine good_cut (A := Good b0 xG) ?_ ?_; all_goals first | (intro hX; clear_value xG) | (unfold xG; clear xG))
    | (extract_lets +onlyGivenNames xG; refine good_cut (A := Good b0 (Prod.fst xG)) ?gp ?gk; (case' gk => (intro hX; clear_value xG)); (case' gp => (unfold xG; clear xG)))
    | (extract_lets +onlyGivenNames xG; refine good_cut (A := Good b0 (Prod.snd xG)) ?gp ?gk; (case' gk => (intro hX; clear_value xG)); (case' gp => (unfold xG; clear xG)))
    | (extract_lets +onlyGivenNames xG; refine good_cut (A := ∀ y, Good b0 y → Good b0 (xG y)) ?gp ?gk; (case' gk => (intro hF; clear_value xG)); (case' gp => (unfold xG; clear xG; intro yA hX)))
    | extract_lets +onlyGivenNames xG
    | with_reducible apply good_takeFree
    | (with_reducible apply good_foldl; intro xA yA hX)
    | (with_reducible apply good_foldl1; intro xA yA hX)
    | split
    | (intro xA yA zA hX; with_reducible have hY : Good b0 xA := hX)
    | (intro xA yA hX; with_reducible have hY : Good b0 xA := hX)
    | (intro xA hX; with_reducible have hY : Good b0 xA := hX)
    | with_reducible refine good_snd (by assumption) ?_
    | with_reducible refine good_fst (by assumption) ?_
    | with_reducible refine good_mk rfl rfl rfl rfl rfl rfl rfl rfl rfl ?_

theorem good_execPcieLinkL0 {s : State} 
    (hG : Good b0 s) : GoodR b0 (execPcieLinkL0 s) := by
  have hF := hG
  unfold execPcieLinkL0
  iterate 40 all_goals try first
    | with_reducible apply good_setRdy
    | with_reducible apply good_resumePosted
    | with_reducible apply good_next
    | with_reducible apply good_serdesLevel
    | with_reducible apply good_mainReset
    | with_reducible apply good_trainPcie
    | with_reducible apply hF
    | split
    | with_reducible refine good_mk rfl rfl rfl rfl rfl rfl rfl rfl rfl ?_

theorem good_execPcieLinkLeaveL0 {s : State} 
    (hG : Good b0 s) : GoodR b0 (execPcieLinkLeaveL0 s) := by
  have hF := hG
  unfold execPcieLinkLeaveL0
  iterate 40 all_goals try first
    | extract_lets +onlyGivenNames xG
    | with_reducible apply good_sleep
    | with_reducible apply good_leaveL0
    | with_reducible apply good_next
    | with_reducible apply hF
    | split

theorem good_aerRead {s : State} {off : Nat}
    (hG : Good b0 s) : Good b0 (State.aerRead s off).2 := by
  have hF := hG
  unfold State.aerRead
  iterate 40 all_goals try first
    | with_reducible apply good_takeFree
    | (with_reducible apply good_foldl; intro xA yA hX)
    | (with_reducible apply good_foldl1; intro xA yA hX)
    | (with_reducible apply good_ite <;> intro hC)
    | with_reducible apply hF
    | with_reducible assumption
    | split
    | (intro xA yA zA hX; with_reducible have hY : Good b0 xA := hX)
    | (intro xA yA hX; with_reducible have hY : Good b0 xA := hX)
    | (intro xA hX; with_reducible have hY : Good b0 xA := hX)
    | with_reducible refine good_mk rfl rfl rfl rfl rfl rfl rfl rfl rfl ?_

theorem good_cfgRead {s : State} {r : CfgReg} 
    (hG : Good b0 s) : Good b0 (State.cfgRead s r).2 := by
  have hF := hG
  unfold State.cfgRead
  iterate 40 all_goals try first
    | with_reducible apply good_takeFree
    | with_reducible apply good_aerRead
    | with_reducible apply hF
    | split

theorem good_aerWrite {s : State} {off : Nat} {v : Word}
    (hG : Good b0 s) : Good b0 (State.aerWrite s off v) := by
  have hF := hG
  unfold State.aerWrite
  iterate 40 all_goals try first
    | (with_reducible apply good_foldl; intro xA yA hX)
    | (with_reducible apply good_foldl1; intro xA yA hX)
    | (with_reducible apply good_ite <;> intro hC)
    | with_reducible apply hF
    | with_reducible assumption
    | split
    | (intro xA yA zA hX; with_reducible have hY : Good b0 xA := hX)
    | (intro xA yA hX; with_reducible have hY : Good b0 xA := hX)
    | (intro xA hX; with_reducible have hY : Good b0 xA := hX)
    | with_reducible refine good_mk rfl rfl rfl rfl rfl rfl rfl rfl rfl ?_

theorem good_cfgWrite {s : State} {r : CfgReg} {v : Word} 
    (hG : Good b0 s) : Good b0 (State.cfgWrite s r v) := by
  have hF := hG
  unfold State.cfgWrite
  iterate 40 all_goals try first
    | with_reducible apply good_resumePosted
    | with_reducible apply good_endpointReset
    | with_reducible apply good_aerWrite
    | with_reducible apply hF
    | split
    | with_reducible refine good_mk rfl rfl rfl rfl rfl rfl rfl rfl rfl ?_

theorem good_execPcieConfigRequest {a : CfgIn} {s : State} 
    (hG : Good b0 s) : GoodR b0 (execPcieConfigRequest a s) := by
  have hF := hG
  unfold execPcieConfigRequest
  iterate 40 all_goals try first
    | with_reducible apply good_cfgRead
    | with_reducible apply good_cfgWrite
    | with_reducible apply good_mainReset
    | with_reducible apply good_write
    | with_reducible apply good_next
    | with_reducible apply hF
    | split
    | with_reducible refine good_mk rfl rfl rfl rfl rfl rfl rfl rfl rfl ?_

theorem good_execPcieUnsupportedRequest {posted : Bool} {s : State}
    (hG : Good b0 s) : GoodR b0 (execPcieUnsupportedRequest s posted) := by
  have hF := hG
  unfold execPcieUnsupportedRequest
  iterate 40 all_goals try first
    | with_reducible apply good_mainReset
    | with_reducible apply good_unsupported
    | with_reducible apply good_complete
    | with_reducible apply good_next
    | (with_reducible apply good_foldl; intro xA yA hX)
    | (with_reducible apply good_foldl1; intro xA yA hX)
    | (with_reducible apply good_ite <;> intro hC)
    | with_reducible apply hF
    | with_reducible assumption
    | split
    | (intro xA yA zA hX; with_reducible have hY : Good b0 xA := hX)
    | (intro xA yA hX; with_reducible have hY : Good b0 xA := hX)
    | (intro xA hX; with_reducible have hY : Good b0 xA := hX)
    | with_reducible refine good_mk rfl rfl rfl rfl rfl rfl rfl rfl rfl ?_

theorem good_execPmeTurnOff {s : State} 
    (hG : Good b0 s) : GoodR b0 (execPmeTurnOff s) := by
  have hF := hG
  unfold execPmeTurnOff
  iterate 40 all_goals try first
    | with_reducible apply good_standbyLink
    | with_reducible apply good_next
    | with_reducible apply hF
    | split
    | with_reducible refine good_mk rfl rfl rfl rfl rfl rfl rfl rfl rfl ?_

end Sys2Proof.Laws
end

