-- ==== Sys2Proof/Laws/GoodScalar.lean ====
section
/-! SUPPORT. What every operation and command of Machine/Scalar.lean keeps, one lemma each. -/

set_option linter.all false

namespace Sys2Proof.Laws

open Sys2Proof.Machine

variable {b0 : State}

theorem good_aluR {a : RFmt} {fn : BitVec 11} {legal : Bool} {f : Word → Word → Word} {s : State} 
    (hG : Good b0 s) : GoodR b0 (aluR a fn legal f s) := by
  have hF := hG
  unfold aluR
  iterate 40 all_goals try first
    | with_reducible apply good_issueReg
    | with_reducible apply good_next
    | with_reducible apply hF

theorem good_aluI {a : IFmt} {op : BitVec 6} {legal : Bool} {f : Word → Half → Word} {s : State} 
    (hG : Good b0 s) : GoodR b0 (aluI a op legal f s) := by
  have hF := hG
  unfold aluI
  iterate 40 all_goals try first
    | with_reducible apply good_issueReg
    | with_reducible apply good_next
    | with_reducible apply hF

theorem good_execAdd {a : RFmt} {s : State} 
    (hG : Good b0 s) : GoodR b0 (execAdd a s) := by
  have hF := hG
  unfold execAdd
  iterate 40 all_goals try first
    | with_reducible apply good_aluR
    | with_reducible apply hF

theorem good_execSub {a : RFmt} {s : State} 
    (hG : Good b0 s) : GoodR b0 (execSub a s) := by
  have hF := hG
  unfold execSub
  iterate 40 all_goals try first
    | with_reducible apply good_aluR
    | with_reducible apply hF

theorem good_execAnd {a : RFmt} {s : State} 
    (hG : Good b0 s) : GoodR b0 (execAnd a s) := by
  have hF := hG
  unfold execAnd
  iterate 40 all_goals try first
    | with_reducible apply good_aluR
    | with_reducible apply hF

theorem good_execOr {a : RFmt} {s : State} 
    (hG : Good b0 s) : GoodR b0 (execOr a s) := by
  have hF := hG
  unfold execOr
  iterate 40 all_goals try first
    | with_reducible apply good_aluR
    | with_reducible apply hF

theorem good_execXor {a : RFmt} {s : State} 
    (hG : Good b0 s) : GoodR b0 (execXor a s) := by
  have hF := hG
  unfold execXor
  iterate 40 all_goals try first
    | with_reducible apply good_aluR
    | with_reducible apply hF

theorem good_execSll {a : RFmt} {s : State} 
    (hG : Good b0 s) : GoodR b0 (execSll a s) := by
  have hF := hG
  unfold execSll
  iterate 40 all_goals try first
    | with_reducible apply good_aluR
    | with_reducible apply hF

theorem good_execSrl {a : RFmt} {s : State} 
    (hG : Good b0 s) : GoodR b0 (execSrl a s) := by
  have hF := hG
  unfold execSrl
  iterate 40 all_goals try first
    | with_reducible apply good_aluR
    | with_reducible apply hF

theorem good_execSra {a : RFmt} {s : State} 
    (hG : Good b0 s) : GoodR b0 (execSra a s) := by
  have hF := hG
  unfold execSra
  iterate 40 all_goals try first
    | with_reducible apply good_aluR
    | with_reducible apply hF

theorem good_execSlt {a : RFmt} {s : State} 
    (hG : Good b0 s) : GoodR b0 (execSlt a s) := by
  have hF := hG
  unfold execSlt
  iterate 40 all_goals try first
    | with_reducible apply good_aluR
    | with_reducible apply hF

theorem good_execSltu {a : RFmt} {s : State} 
    (hG : Good b0 s) : GoodR b0 (execSltu a s) := by
  have hF := hG
  unfold execSltu
  iterate 40 all_goals try first
    | with_reducible apply good_aluR
    | with_reducible apply hF

theorem good_execMin {a : RFmt} {s : State} 
    (hG : Good b0 s) : GoodR b0 (execMin a s) := by
  have hF := hG
  unfold execMin
  iterate 40 all_goals try first
    | with_reducible apply good_aluR
    | with_reducible apply hF

theorem good_execMax {a : RFmt} {s : State} 
    (hG : Good b0 s) : GoodR b0 (execMax a s) := by
  have hF := hG
  unfold execMax
  iterate 40 all_goals try first
    | with_reducible apply good_aluR
    | with_reducible apply hF

theorem good_execMinu {a : RFmt} {s : State} 
    (hG : Good b0 s) : GoodR b0 (execMinu a s) := by
  have hF := hG
  unfold execMinu
  iterate 40 all_goals try first
    | with_reducible apply good_aluR
    | with_reducible apply hF

theorem good_execMaxu {a : RFmt} {s : State} 
    (hG : Good b0 s) : GoodR b0 (execMaxu a s) := by
  have hF := hG
  unfold execMaxu
  iterate 40 all_goals try first
    | with_reducible apply good_aluR
    | with_reducible apply hF

theorem good_execMul {a : RFmt} {s : State} 
    (hG : Good b0 s) : GoodR b0 (execMul a s) := by
  have hF := hG
  unfold execMul
  iterate 40 all_goals try first
    | with_reducible apply good_aluR
    | with_reducible apply hF

theorem good_execMulh {a : RFmt} {s : State} 
    (hG : Good b0 s) : GoodR b0 (execMulh a s) := by
  have hF := hG
  unfold execMulh
  iterate 40 all_goals try first
    | with_reducible apply good_aluR
    | with_reducible apply hF

theorem good_execMulhu {a : RFmt} {s : State} 
    (hG : Good b0 s) : GoodR b0 (execMulhu a s) := by
  have hF := hG
  unfold execMulhu
  iterate 40 all_goals try first
    | with_reducible apply good_aluR
    | with_reducible apply hF

theorem good_execDiv {a : RFmt} {s : State} 
    (hG : Good b0 s) : GoodR b0 (execDiv a s) := by
  have hF := hG
  unfold execDiv
  iterate 40 all_goals try first
    | with_reducible apply good_aluR
    | with_reducible apply hF

theorem good_execDivu {a : RFmt} {s : State} 
    (hG : Good b0 s) : GoodR b0 (execDivu a s) := by
  have hF := hG
  unfold execDivu
  iterate 40 all_goals try first
    | with_reducible apply good_aluR
    | with_reducible apply hF

theorem good_execRem {a : RFmt} {s : State} 
    (hG : Good b0 s) : GoodR b0 (execRem a s) := by
  have hF := hG
  unfold execRem
  iterate 40 all_goals try first
    | with_reducible apply good_aluR
    | with_reducible apply hF

theorem good_execRemu {a : RFmt} {s : State} 
    (hG : Good b0 s) : GoodR b0 (execRemu a s) := by
  have hF := hG
  unfold execRemu
  iterate 40 all_goals try first
    | with_reducible apply good_aluR
    | with_reducible apply hF

theorem good_execClz {a : RFmt} {s : State} 
    (hG : Good b0 s) : GoodR b0 (execClz a s) := by
  have hF := hG
  unfold execClz
  iterate 40 all_goals try first
    | with_reducible apply good_aluR
    | with_reducible apply hF

theorem good_execPopc {a : RFmt} {s : State} 
    (hG : Good b0 s) : GoodR b0 (execPopc a s) := by
  have hF := hG
  unfold execPopc
  iterate 40 all_goals try first
    | with_reducible apply good_aluR
    | with_reducible apply hF

theorem good_execAddi {a : IFmt} {s : State} 
    (hG : Good b0 s) : GoodR b0 (execAddi a s) := by
  have hF := hG
  unfold execAddi
  iterate 40 all_goals try first
    | with_reducible apply good_aluI
    | with_reducible apply hF

theorem good_execAndi {a : IFmt} {s : State} 
    (hG : Good b0 s) : GoodR b0 (execAndi a s) := by
  have hF := hG
  unfold execAndi
  iterate 40 all_goals try first
    | with_reducible apply good_aluI
    | with_reducible apply hF

theorem good_execOri {a : IFmt} {s : State} 
    (hG : Good b0 s) : GoodR b0 (execOri a s) := by
  have hF := hG
  unfold execOri
  iterate 40 all_goals try first
    | with_reducible apply good_aluI
    | with_reducible apply hF

theorem good_execXori {a : IFmt} {s : State} 
    (hG : Good b0 s) : GoodR b0 (execXori a s) := by
  have hF := hG
  unfold execXori
  iterate 40 all_goals try first
    | with_reducible apply good_aluI
    | with_reducible apply hF

theorem good_execSlti {a : IFmt} {s : State} 
    (hG : Good b0 s) : GoodR b0 (execSlti a s) := by
  have hF := hG
  unfold execSlti
  iterate 40 all_goals try first
    | with_reducible apply good_aluI
    | with_reducible apply hF

theorem good_execLui {a : IFmt} {s : State} 
    (hG : Good b0 s) : GoodR b0 (execLui a s) := by
  have hF := hG
  unfold execLui
  iterate 40 all_goals try first
    | with_reducible apply good_aluI
    | with_reducible apply hF

theorem good_execShi {a : IFmt} {s : State} 
    (hG : Good b0 s) : GoodR b0 (execShi a s) := by
  have hF := hG
  unfold execShi
  iterate 40 all_goals try first
    | with_reducible apply good_aluI
    | with_reducible apply hF

theorem good_branch {a : BFmt} {op : BitVec 6} {cond : Word → Word → Bool} {s : State} 
    (hG : Good b0 s) : GoodR b0 (branch a op cond s) := by
  have hX := hG
  unfold branch
  iterate 40 all_goals try first
    | with_reducible assumption
    | with_reducible apply good_issue
    | with_reducible apply good_next
    | with_reducible apply goodTc_ok
    | (intro xA yA zA hX; with_reducible have hY : Good b0 xA := hX)

theorem good_execBeq {a : BFmt} {s : State} 
    (hG : Good b0 s) : GoodR b0 (execBeq a s) := by
  have hF := hG
  unfold execBeq
  iterate 40 all_goals try first
    | with_reducible apply good_branch
    | with_reducible apply hF

theorem good_execBne {a : BFmt} {s : State} 
    (hG : Good b0 s) : GoodR b0 (execBne a s) := by
  have hF := hG
  unfold execBne
  iterate 40 all_goals try first
    | with_reducible apply good_branch
    | with_reducible apply hF

theorem good_execBlt {a : BFmt} {s : State} 
    (hG : Good b0 s) : GoodR b0 (execBlt a s) := by
  have hF := hG
  unfold execBlt
  iterate 40 all_goals try first
    | with_reducible apply good_branch
    | with_reducible apply hF

theorem good_execBge {a : BFmt} {s : State} 
    (hG : Good b0 s) : GoodR b0 (execBge a s) := by
  have hF := hG
  unfold execBge
  iterate 40 all_goals try first
    | with_reducible apply good_branch
    | with_reducible apply hF

theorem good_execBltu {a : BFmt} {s : State} 
    (hG : Good b0 s) : GoodR b0 (execBltu a s) := by
  have hF := hG
  unfold execBltu
  iterate 40 all_goals try first
    | with_reducible apply good_branch
    | with_reducible apply hF

theorem good_execBgeu {a : BFmt} {s : State} 
    (hG : Good b0 s) : GoodR b0 (execBgeu a s) := by
  have hF := hG
  unfold execBgeu
  iterate 40 all_goals try first
    | with_reducible apply good_branch
    | with_reducible apply hF

theorem good_execJal {a : JFmt} {s : State} 
    (hG : Good b0 s) : GoodR b0 (execJal a s) := by
  have hX := hG
  unfold execJal
  iterate 40 all_goals try first
    | with_reducible assumption
    | with_reducible apply good_modTc
    | with_reducible apply good_issue
    | with_reducible apply good_next
    | with_reducible apply goodTc_ok
    | (intro xA yA zA hX; with_reducible have hY : Good b0 xA := hX)

theorem good_execJalr {a : IFmt} {s : State} 
    (hG : Good b0 s) : GoodR b0 (execJalr a s) := by
  have hX := hG
  unfold execJalr
  iterate 40 all_goals try first
    | with_reducible assumption
    | with_reducible apply good_modTc
    | with_reducible apply good_issue
    | with_reducible apply good_next
    | (with_reducible apply goodTc_ite <;> intro hC)
    | with_reducible apply goodTc_ok
    | with_reducible apply goodTc_exc
    | (intro xA yA zA hX; with_reducible have hY : Good b0 xA := hX)

theorem good_execCsrr {a : IFmt} {s : State} 
    (hG : Good b0 s) : GoodR b0 (execCsrr a s) := by
  have hX := hG
  unfold execCsrr
  iterate 40 all_goals try first
    | with_reducible assumption
    | with_reducible apply good_modTc
    | with_reducible apply good_takeFree
    | with_reducible apply good_issue
    | with_reducible apply good_next
    | split
    | with_reducible apply goodTc_ok
    | (intro xA yA zA hX; with_reducible have hY : Good b0 xA := hX)

theorem good_execNop {a : RFmt} {s : State} 
    (hG : Good b0 s) : GoodR b0 (execNop a s) := by
  have hF := hG
  unfold execNop
  iterate 40 all_goals try first
    | with_reducible apply good_issueReg
    | with_reducible apply good_next
    | with_reducible apply hF

end Sys2Proof.Laws
end

