-- ==== Sys2Proof/Laws/GoodVector.lean ====
section
/-! SUPPORT. What every operation and command of Machine/Vector.lean keeps, one lemma each. -/

set_option linter.all false

namespace Sys2Proof.Laws

open Sys2Proof.Machine

variable {b0 : State}

theorem good_vInt {a : VFmt} {fn : BitVec 9} {legal : Bool} {f : Nat → Nat → Nat → Nat} {s : State} 
    (hG : Good b0 s) : GoodR b0 (vInt a fn legal f s) := by
  have hF := hG
  unfold vInt
  iterate 40 all_goals try first
    | with_reducible apply good_issueReg
    | with_reducible apply good_next
    | with_reducible apply hF

theorem good_vFloat {a : VFmt} {fn : BitVec 9} {legal : Bool} {f : FFmt → Nat → Nat → Nat → FRes} {s : State} 
    (hG : Good b0 s) : GoodR b0 (vFloat a fn legal f s) := by
  have hF := hG
  unfold vFloat
  iterate 40 all_goals try first
    | with_reducible apply good_issueReg
    | with_reducible apply good_next
    | with_reducible apply hF

theorem good_execVadd {a : VFmt} {s : State} 
    (hG : Good b0 s) : GoodR b0 (execVadd a s) := by
  have hF := hG
  unfold execVadd
  iterate 40 all_goals try first
    | with_reducible apply good_vInt
    | with_reducible apply hF

theorem good_execVsub {a : VFmt} {s : State} 
    (hG : Good b0 s) : GoodR b0 (execVsub a s) := by
  have hF := hG
  unfold execVsub
  iterate 40 all_goals try first
    | with_reducible apply good_vInt
    | with_reducible apply hF

theorem good_execVmul {a : VFmt} {s : State} 
    (hG : Good b0 s) : GoodR b0 (execVmul a s) := by
  have hF := hG
  unfold execVmul
  iterate 40 all_goals try first
    | with_reducible apply good_vInt
    | with_reducible apply hF

theorem good_execVmulh {a : VFmt} {s : State} 
    (hG : Good b0 s) : GoodR b0 (execVmulh a s) := by
  have hF := hG
  unfold execVmulh
  iterate 40 all_goals try first
    | with_reducible apply good_vInt
    | with_reducible apply hF

theorem good_execVmin {a : VFmt} {s : State} 
    (hG : Good b0 s) : GoodR b0 (execVmin a s) := by
  have hF := hG
  unfold execVmin
  iterate 40 all_goals try first
    | with_reducible apply good_vInt
    | with_reducible apply hF

theorem good_execVmax {a : VFmt} {s : State} 
    (hG : Good b0 s) : GoodR b0 (execVmax a s) := by
  have hF := hG
  unfold execVmax
  iterate 40 all_goals try first
    | with_reducible apply good_vInt
    | with_reducible apply hF

theorem good_execVminu {a : VFmt} {s : State} 
    (hG : Good b0 s) : GoodR b0 (execVminu a s) := by
  have hF := hG
  unfold execVminu
  iterate 40 all_goals try first
    | with_reducible apply good_vInt
    | with_reducible apply hF

theorem good_execVmaxu {a : VFmt} {s : State} 
    (hG : Good b0 s) : GoodR b0 (execVmaxu a s) := by
  have hF := hG
  unfold execVmaxu
  iterate 40 all_goals try first
    | with_reducible apply good_vInt
    | with_reducible apply hF

theorem good_execVand {a : VFmt} {s : State} 
    (hG : Good b0 s) : GoodR b0 (execVand a s) := by
  have hF := hG
  unfold execVand
  iterate 40 all_goals try first
    | with_reducible apply good_vInt
    | with_reducible apply hF

theorem good_execVor {a : VFmt} {s : State} 
    (hG : Good b0 s) : GoodR b0 (execVor a s) := by
  have hF := hG
  unfold execVor
  iterate 40 all_goals try first
    | with_reducible apply good_vInt
    | with_reducible apply hF

theorem good_execVxor {a : VFmt} {s : State} 
    (hG : Good b0 s) : GoodR b0 (execVxor a s) := by
  have hF := hG
  unfold execVxor
  iterate 40 all_goals try first
    | with_reducible apply good_vInt
    | with_reducible apply hF

theorem good_execVsll {a : VFmt} {s : State} 
    (hG : Good b0 s) : GoodR b0 (execVsll a s) := by
  have hF := hG
  unfold execVsll
  iterate 40 all_goals try first
    | with_reducible apply good_vInt
    | with_reducible apply hF

theorem good_execVsra {a : VFmt} {s : State} 
    (hG : Good b0 s) : GoodR b0 (execVsra a s) := by
  have hF := hG
  unfold execVsra
  iterate 40 all_goals try first
    | with_reducible apply good_vInt
    | with_reducible apply hF

theorem good_execVsrl {a : VFmt} {s : State} 
    (hG : Good b0 s) : GoodR b0 (execVsrl a s) := by
  have hF := hG
  unfold execVsrl
  iterate 40 all_goals try first
    | with_reducible apply good_vInt
    | with_reducible apply hF

theorem good_execVadds {a : VFmt} {s : State} 
    (hG : Good b0 s) : GoodR b0 (execVadds a s) := by
  have hF := hG
  unfold execVadds
  iterate 40 all_goals try first
    | with_reducible apply good_vInt
    | with_reducible apply hF

theorem good_execVsubs {a : VFmt} {s : State} 
    (hG : Good b0 s) : GoodR b0 (execVsubs a s) := by
  have hF := hG
  unfold execVsubs
  iterate 40 all_goals try first
    | with_reducible apply good_vInt
    | with_reducible apply hF

theorem good_execVabs {a : VFmt} {s : State} 
    (hG : Good b0 s) : GoodR b0 (execVabs a s) := by
  have hF := hG
  unfold execVabs
  iterate 40 all_goals try first
    | with_reducible apply good_vInt
    | with_reducible apply hF

theorem good_execVsel {a : VFmt} {s : State} 
    (hG : Good b0 s) : GoodR b0 (execVsel a s) := by
  have hF := hG
  unfold execVsel
  iterate 40 all_goals try first
    | with_reducible apply good_issueReg
    | with_reducible apply good_next
    | with_reducible apply hF

theorem good_execVrsra {a : VFmt} {s : State} 
    (hG : Good b0 s) : GoodR b0 (execVrsra a s) := by
  have hF := hG
  unfold execVrsra
  iterate 40 all_goals try first
    | with_reducible apply good_vInt
    | with_reducible apply hF

theorem good_execVfadd {a : VFmt} {s : State} 
    (hG : Good b0 s) : GoodR b0 (execVfadd a s) := by
  have hF := hG
  unfold execVfadd
  iterate 40 all_goals try first
    | with_reducible apply good_vFloat
    | with_reducible apply hF

theorem good_execVfsub {a : VFmt} {s : State} 
    (hG : Good b0 s) : GoodR b0 (execVfsub a s) := by
  have hF := hG
  unfold execVfsub
  iterate 40 all_goals try first
    | with_reducible apply good_vFloat
    | with_reducible apply hF

theorem good_execVfmul {a : VFmt} {s : State} 
    (hG : Good b0 s) : GoodR b0 (execVfmul a s) := by
  have hF := hG
  unfold execVfmul
  iterate 40 all_goals try first
    | with_reducible apply good_vFloat
    | with_reducible apply hF

theorem good_execVfma {a : VFmt} {s : State} 
    (hG : Good b0 s) : GoodR b0 (execVfma a s) := by
  have hF := hG
  unfold execVfma
  iterate 40 all_goals try first
    | with_reducible apply good_vFloat
    | with_reducible apply hF

theorem good_execVfmin {a : VFmt} {s : State} 
    (hG : Good b0 s) : GoodR b0 (execVfmin a s) := by
  have hF := hG
  unfold execVfmin
  iterate 40 all_goals try first
    | with_reducible apply good_vFloat
    | with_reducible apply hF

theorem good_execVfmax {a : VFmt} {s : State} 
    (hG : Good b0 s) : GoodR b0 (execVfmax a s) := by
  have hF := hG
  unfold execVfmax
  iterate 40 all_goals try first
    | with_reducible apply good_vFloat
    | with_reducible apply hF

theorem good_execVfrcp {a : VFmt} {s : State} 
    (hG : Good b0 s) : GoodR b0 (execVfrcp a s) := by
  have hF := hG
  unfold execVfrcp
  iterate 40 all_goals try first
    | with_reducible apply good_vFloat
    | with_reducible apply hF

theorem good_execVfexp2 {a : VFmt} {s : State} 
    (hG : Good b0 s) : GoodR b0 (execVfexp2 a s) := by
  have hF := hG
  unfold execVfexp2
  iterate 40 all_goals try first
    | with_reducible apply good_vFloat
    | with_reducible apply hF

theorem good_execVcmp {a : VFmt} {s : State} 
    (hG : Good b0 s) : GoodR b0 (execVcmp a s) := by
  have hF := hG
  unfold execVcmp
  iterate 40 all_goals try first
    | with_reducible apply good_issueReg
    | with_reducible apply good_next
    | with_reducible apply hF

theorem good_execVcvt {a : VFmt} {s : State} 
    (hG : Good b0 s) : GoodR b0 (execVcvt a s) := by
  have hF := hG
  unfold execVcvt
  iterate 40 all_goals try first
    | with_reducible apply good_issueReg
    | with_reducible apply good_next
    | with_reducible apply hF

theorem good_execVshuf {a : VFmt} {s : State} 
    (hG : Good b0 s) : GoodR b0 (execVshuf a s) := by
  have hF := hG
  unfold execVshuf
  iterate 40 all_goals try first
    | with_reducible apply good_issueReg
    | with_reducible apply good_next
    | with_reducible apply hF

theorem good_execVcomp {a : VFmt} {s : State} 
    (hG : Good b0 s) : GoodR b0 (execVcomp a s) := by
  have hF := hG
  unfold execVcomp
  iterate 40 all_goals try first
    | with_reducible apply good_issueReg
    | with_reducible apply good_next
    | with_reducible apply hF

theorem good_sortOp {a : VFmt} {fn : BitVec 9} {legal : Bool} {f : List Nat → List Nat → List Nat} {s : State} 
    (hG : Good b0 s) : GoodR b0 (sortOp a fn legal f s) := by
  have hF := hG
  unfold sortOp
  iterate 40 all_goals try first
    | with_reducible apply good_issueReg
    | with_reducible apply good_next
    | with_reducible apply hF

theorem good_execVsort {a : VFmt} {s : State} 
    (hG : Good b0 s) : GoodR b0 (execVsort a s) := by
  have hF := hG
  unfold execVsort
  iterate 40 all_goals try first
    | with_reducible apply good_sortOp
    | with_reducible apply hF

theorem good_execVmrgh {a : VFmt} {s : State} 
    (hG : Good b0 s) : GoodR b0 (execVmrgh a s) := by
  have hF := hG
  unfold execVmrgh
  iterate 40 all_goals try first
    | with_reducible apply good_sortOp
    | with_reducible apply hF

theorem good_execVmrgl {a : VFmt} {s : State} 
    (hG : Good b0 s) : GoodR b0 (execVmrgl a s) := by
  have hF := hG
  unfold execVmrgl
  iterate 40 all_goals try first
    | with_reducible apply good_sortOp
    | with_reducible apply hF

theorem good_execVbcast {a : XFmt} {s : State} 
    (hG : Good b0 s) : GoodR b0 (execVbcast a s) := by
  have hF := hG
  unfold execVbcast
  iterate 40 all_goals try first
    | with_reducible apply good_issueReg
    | with_reducible apply good_next
    | with_reducible apply hF

theorem good_execVext {a : XFmt} {s : State} 
    (hG : Good b0 s) : GoodR b0 (execVext a s) := by
  have hF := hG
  unfold execVext
  iterate 40 all_goals try first
    | with_reducible apply good_issueReg
    | with_reducible apply good_next
    | with_reducible apply hF

theorem good_reduce {a : XFmt} {fn : BitVec 8} {f : Nat → List (Nat × Nat) → Word} {s : State} 
    (hG : Good b0 s) : GoodR b0 (reduce a fn f s) := by
  have hF := hG
  unfold reduce
  iterate 40 all_goals try first
    | with_reducible apply good_issueReg
    | with_reducible apply good_next
    | with_reducible apply hF

theorem good_execVrmax {a : XFmt} {s : State} 
    (hG : Good b0 s) : GoodR b0 (execVrmax a s) := by
  have hF := hG
  unfold execVrmax
  iterate 40 all_goals try first
    | with_reducible apply good_reduce
    | with_reducible apply hF

theorem good_execVrmin {a : XFmt} {s : State} 
    (hG : Good b0 s) : GoodR b0 (execVrmin a s) := by
  have hF := hG
  unfold execVrmin
  iterate 40 all_goals try first
    | with_reducible apply good_reduce
    | with_reducible apply hF

theorem good_execVradd {a : XFmt} {s : State} 
    (hG : Good b0 s) : GoodR b0 (execVradd a s) := by
  have hF := hG
  unfold execVradd
  iterate 40 all_goals try first
    | with_reducible apply good_reduce
    | with_reducible apply hF

theorem good_execVrargmax {a : XFmt} {s : State} 
    (hG : Good b0 s) : GoodR b0 (execVrargmax a s) := by
  have hF := hG
  unfold execVrargmax
  iterate 40 all_goals try first
    | with_reducible apply good_reduce
    | with_reducible apply hF

theorem good_execVcnt {a : XFmt} {s : State} 
    (hG : Good b0 s) : GoodR b0 (execVcnt a s) := by
  have hF := hG
  unfold execVcnt
  iterate 40 all_goals try first
    | with_reducible apply good_issueReg
    | with_reducible apply good_next
    | with_reducible apply hF

theorem good_execVlut8 {a : XFmt} {s : State} 
    (hG : Good b0 s) : GoodR b0 (execVlut8 a s) := by
  have hX := hG
  unfold execVlut8
  iterate 40 all_goals try first
    | with_reducible assumption
    | extract_lets +onlyGivenNames xG
    | with_reducible apply good_modTc
    | with_reducible apply good_issue
    | with_reducible apply good_loadBytes
    | with_reducible apply good_modSpm
    | with_reducible apply good_next
    | split
    | with_reducible apply goodTc_ok
    | with_reducible apply goodTc_exc
    | (intro xA yA zA hX; with_reducible have hY : Good b0 xA := hX)
    | (intro xA yA hX; with_reducible have hY : Good b0 xA := hX)

theorem good_predOp {a : RFmt} {fn : BitVec 11} {legal : Bool} {f : Word → Word → Word} {s : State} 
    (hG : Good b0 s) : GoodR b0 (predOp a fn legal f s) := by
  have hF := hG
  unfold predOp
  iterate 40 all_goals try first
    | with_reducible apply good_issueReg
    | with_reducible apply good_next
    | with_reducible apply hF

theorem good_execPand {a : RFmt} {s : State} 
    (hG : Good b0 s) : GoodR b0 (execPand a s) := by
  have hF := hG
  unfold execPand
  iterate 40 all_goals try first
    | with_reducible apply good_predOp
    | with_reducible apply hF

theorem good_execPor {a : RFmt} {s : State} 
    (hG : Good b0 s) : GoodR b0 (execPor a s) := by
  have hF := hG
  unfold execPor
  iterate 40 all_goals try first
    | with_reducible apply good_predOp
    | with_reducible apply hF

theorem good_execPxor {a : RFmt} {s : State} 
    (hG : Good b0 s) : GoodR b0 (execPxor a s) := by
  have hF := hG
  unfold execPxor
  iterate 40 all_goals try first
    | with_reducible apply good_predOp
    | with_reducible apply hF

theorem good_execPnot {a : RFmt} {s : State} 
    (hG : Good b0 s) : GoodR b0 (execPnot a s) := by
  have hF := hG
  unfold execPnot
  iterate 40 all_goals try first
    | with_reducible apply good_predOp
    | with_reducible apply hF

theorem good_execPset {a : RFmt} {s : State} 
    (hG : Good b0 s) : GoodR b0 (execPset a s) := by
  have hF := hG
  unfold execPset
  iterate 40 all_goals try first
    | with_reducible apply good_issueReg
    | with_reducible apply good_next
    | with_reducible apply hF

theorem good_execPget {a : RFmt} {s : State} 
    (hG : Good b0 s) : GoodR b0 (execPget a s) := by
  have hF := hG
  unfold execPget
  iterate 40 all_goals try first
    | with_reducible apply good_issueReg
    | with_reducible apply good_next
    | with_reducible apply hF

end Sys2Proof.Laws
end

