-- ==== Sys2Proof/Laws/State.lean ====
section
/-!
SUPPORT. Reading a component of the state after a change of one: tiles, instances, rings, links, streams, frames.
-/

namespace Sys2Proof.Machine

theorem State.tile_setTile (s : State) (t u : Nat) (x : Tile) :
    (s.setTile t x).tile u = if u = t then x else s.tile u := by
  simp [State.tile, State.setTile, tget_tput]

@[simp] theorem State.tile_setTile_same (s : State) (t : Nat) (x : Tile) : (s.setTile t x).tile t = x := by
  simp [State.tile_setTile]

theorem State.tile_modTile (s : State) (t u : Nat) (f : Tile → Tile) :
    (s.modTile t f).tile u = if u = t then f (s.tile t) else s.tile u := by
  simp [State.modTile, State.tile_setTile]

theorem State.tile_modTc (s : State) (t u : Nat) (f : Tc → Tc) :
    (s.modTc t f).tile u = if u = t then { s.tile t with tc := f (s.tile t).tc } else s.tile u := by
  simp [State.modTc, State.tile_modTile]

@[simp] theorem State.tile_modTc_same (s : State) (t : Nat) (f : Tc → Tc) :
    (s.modTc t f).tile t = { s.tile t with tc := f (s.tile t).tc } := by simp [State.tile_modTc]

theorem State.tile_modSpm (s : State) (t u : Nat) (f : Spm → Spm) :
    (s.modSpm t f).tile u = if u = t then { s.tile t with spm := f (s.tile t).spm } else s.tile u := by
  simp [State.modSpm, State.tile_modTile]

@[simp] theorem State.tile_modSpm_same (s : State) (t : Nat) (f : Spm → Spm) :
    (s.modSpm t f).tile t = { s.tile t with spm := f (s.tile t).spm } := by simp [State.tile_modSpm]

theorem State.tile_modArr (s : State) (t u : Nat) (f : Arr → Arr) :
    (s.modArr t f).tile u = if u = t then { s.tile t with arr := f (s.tile t).arr } else s.tile u := by
  simp [State.modArr, State.tile_modTile]

@[simp] theorem State.tile_modArr_same (s : State) (t : Nat) (f : Arr → Arr) :
    (s.modArr t f).tile t = { s.tile t with arr := f (s.tile t).arr } := by simp [State.tile_modArr]

theorem State.tile_modBow (s : State) (t u : Nat) (f : Bow → Bow) :
    (s.modBow t f).tile u = if u = t then { s.tile t with bow := f (s.tile t).bow } else s.tile u := by
  simp [State.modBow, State.tile_modTile]

@[simp] theorem State.tile_modBow_same (s : State) (t : Nat) (f : Bow → Bow) :
    (s.modBow t f).tile t = { s.tile t with bow := f (s.tile t).bow } := by simp [State.tile_modBow]

@[simp] theorem State.modTc_grade (s : State) (t : Nat) (f : Tc → Tc) : (s.modTc t f).grade = s.grade := rfl
@[simp] theorem State.modTc_img (s : State) (t : Nat) (f : Tc → Tc) : (s.modTc t f).img = s.img := rfl
@[simp] theorem State.modTc_sch (s : State) (t : Nat) (f : Tc → Tc) : (s.modTc t f).sch = s.sch := rfl
@[simp] theorem State.modTc_dram (s : State) (t : Nat) (f : Tc → Tc) : (s.modTc t f).dram = s.dram := rfl
@[simp] theorem State.modTc_ring (s : State) (t : Nat) (f : Tc → Tc) : (s.modTc t f).ring = s.ring := rfl
@[simp] theorem State.modTc_flight (s : State) (t : Nat) (f : Tc → Tc) : (s.modTc t f).flight = s.flight := rfl
@[simp] theorem State.modTc_free (s : State) (t : Nat) (f : Tc → Tc) : (s.modTc t f).free = s.free := rfl
@[simp] theorem State.modTc_inst (s : State) (t id : Nat) (f : Tc → Tc) : (s.modTc t f).inst id = s.inst id := rfl
@[simp] theorem State.modTc_net (s : State) (t k : Nat) (f : Tc → Tc) : (s.modTc t f).net k = s.net k := rfl
@[simp] theorem State.modTc_now (s : State) (t : Nat) (f : Tc → Tc) : (s.modTc t f).now = s.now := rfl

theorem State.ringOf_setRing (s : State) (k u : Nat) (r : Ring) :
    (s.setRing k r).ringOf u = if u = k then r else s.ringOf u := by
  simp [State.ringOf, State.setRing, tget_tput]

theorem State.ringOf_modRing (s : State) (k u : Nat) (f : Ring → Ring) :
    (s.modRing k f).ringOf u = if u = k then f (s.ringOf k) else s.ringOf u := by
  simp [State.modRing, State.ringOf_setRing]

theorem State.link_modLink (s : State) (k u : Nat) (f : Link → Link) :
    (s.modLink k f).link u = if u = k then f (s.link k) else s.link u := by
  simp [State.link, State.modLink, tget_tput]

theorem State.stream_modStream (s : State) (k u : Nat) (f : StreamRt → StreamRt) :
    (s.modStream k f).stream u = if u = k then f (s.stream k) else s.stream u := by
  simp [State.stream, State.modStream, tget_tput]

theorem State.frame_modFrame (s : State) (k u : Nat) (f : Frame → Frame) :
    (s.modFrame k f).frame u = if u = k then f (s.frame k) else s.frame u := by
  simp [State.frame, State.modFrame, tget_tput]

/-- An event sent to the recorder changes the recorder only. -/
theorem State.logEv_rest (s : State) (code src arg : Nat) (inj : Bool) :
    { s.logEv code src arg inj with evr := s.evr } = s := by
  unfold State.logEv; split <;> rfl

/-- An event sent to the recorder never makes its queue longer than 64 entries (R495). -/
theorem State.logEv_queue (s : State) (code src arg : Nat) (inj : Bool) (h : s.evr.queue.length ≤ 64) :
    (s.logEv code src arg inj).evr.queue.length ≤ 64 := by
  unfold State.logEv
  split
  · rename_i k; simpa using Nat.succ_le_of_lt k
  · exact h

end Sys2Proof.Machine
end

