-- ==== Sys2Proof/Laws/Issue.lean ====
section
/-!
SUPPORT. The issue of one instruction: what it comes to when the fetch passes, by the result of the instruction.
-/

namespace Sys2Proof.Machine

open Sys2Proof.Safety

/-- The state in which an instruction has its effect: the stalled cycles of its issue counted. -/
def State.atIssue (s : State) (t : Nat) (e : TEnv) : State := s.modTc t fun x => stalled x e

@[simp] theorem sansTiles_modTc (s : State) (t : Nat) (f : Tc → Tc) : sansTiles (s.modTc t f) = sansTiles s := rfl
@[simp] theorem sansTiles_modSpm (s : State) (t : Nat) (f : Spm → Spm) : sansTiles (s.modSpm t f) = sansTiles s := rfl
@[simp] theorem sansTiles_modArr (s : State) (t : Nat) (f : Arr → Arr) : sansTiles (s.modArr t f) = sansTiles s := rfl
@[simp] theorem sansTiles_modBow (s : State) (t : Nat) (f : Bow → Bow) : sansTiles (s.modBow t f) = sansTiles s := rfl
@[simp] theorem sansTiles_atIssue (s : State) (t : Nat) (e : TEnv) : sansTiles (s.atIssue t e) = sansTiles s := rfl

theorem inst_id {s : State} {id : Nat} {i : Inst} (h : s.inst id = some i) : i.id = id := by
  have := List.find?_some h
  simpa using this

theorem fetchCause_stalled (s : State) (i : Inst) (t : Nat) (e : TEnv) :
    fetchCause (s.modTc t fun x => stalled x e) i t (stalled (s.tile t).tc e) = fetchCause s i t (s.tile t).tc := rfl

theorem wordAtPc_stalled (s : State) (t : Nat) (e : TEnv) :
    (s.modTc t fun x => stalled x e).wordAtPc t = s.wordAtPc t := by
  unfold State.wordAtPc
  simp only [State.tile_modTc_same]
  rfl

/-- An instruction that passes its fetch is decided by its legality and its effect. -/
theorem issue_eq {s : State} {t : Nat} {i : Inst} (h : issues s t i) {e : TEnv} (he : e.ecc = 0) (word : Word)
    (legal : Bool) (f : State → Tc → Inst → TcRes) :
    s.issue t e word legal f =
      if !legal then (s.atIssue t e).raiseExc t i.id e 1 word 0
      else match f (s.atIssue t e) (stalled (s.tile t).tc e) i with
        | .ok s pc => s.modTc t fun c => retired c pc
        | .done s => s
        | .exc s k => s.raiseExc t i.id e k word 0
        | .stall s k => s.modTc t fun c => { c with stall := k } := by
  obtain ⟨h1, h2, h3, h4, h5, h6⟩ := h
  have h5' : fetchCause (s.modTc t fun x => stalled x e) i t (stalled (s.tile t).tc e) = none := h5
  unfold State.issue State.atIssue
  simp only [h1, h2, h3, h4, Bool.not_true, Bool.false_eq_true, if_false, Option.isSome_none, he,
    Nat.zero_ne_one, reduceCtorEq, or_self]
  simp only [State.tile_modTc_same]
  change (match fetchCause (s.modTc t fun x => stalled x e) i t (stalled (s.tile t).tc e) with
    | some k => _
    | none => _) = _
  rw [h5']
  have h6' : reservedWord ((s.modTc t fun x => stalled x e).wordAtPc t) = false := (wordAtPc_stalled s t e).symm ▸ h6
  change (if reservedWord ((s.modTc t fun x => stalled x e).wordAtPc t) = true then _ else _) = _
  rw [h6']
  rfl

/-- An instruction that completes. -/
theorem issue_ok {s : State} {t : Nat} {i : Inst} (h : issues s t i) {e : TEnv} (he : e.ecc = 0) (word : Word)
    {legal : Bool} (hl : legal = true) {f : State → Tc → Inst → TcRes} {s1 : State} {dest : Option Half}
    (hf : f (s.atIssue t e) (stalled (s.tile t).tc e) i = .ok s1 dest) :
    s.issue t e word legal f = s1.modTc t fun c => retired c dest := by
  rw [issue_eq h he, hl, hf]; rfl

/-- An instruction with a reserved field that is not zero raises ILLEGAL (R332, R365). -/
theorem issue_illegal {s : State} {t : Nat} {i : Inst} (h : issues s t i) {e : TEnv} (he : e.ecc = 0) (word : Word)
    {legal : Bool} (hl : legal = false) (f : State → Tc → Inst → TcRes) :
    s.issue t e word legal f = (s.atIssue t e).raiseExc t i.id e 1 word 0 := by
  rw [issue_eq h he, hl]; rfl

/-- An instruction that changes only its own core. -/
theorem issueReg_ok {s : State} {t : Nat} {i : Inst} (h : issues s t i) {e : TEnv} (he : e.ecc = 0) (word : Word)
    {legal : Bool} (hl : legal = true) (f : Tc → Tc) :
    onlyTile s (s.issueReg t e word legal f) t (tileDone (s.tile t) e f) := by
  have hx : s.issueReg t e word legal f = ((s.atIssue t e).modTc t f).modTc t fun c => retired c none :=
    issue_ok h he word hl rfl
  rw [hx]
  refine ⟨fun u => ?_, by simp⟩
  by_cases hu : u = t
  · subst hu; simp [State.atIssue, tileDone]
  · simp [State.atIssue, State.tile_modTc, hu]

/-- An instruction whose meaning is an issue on registers completes and changes only its core. -/
theorem coreResult_of_reg {c : Instr} {t : Nat} {e : TEnv} {word : Word} {legal : Bool} {f : Tc → Tc}
    (hx : ∀ s, exec c s = .next (s.issueReg t e word legal f)) (hl : legal = true) : coreResult c t e f :=
  fun s _ h he => ⟨_, hx s, issueReg_ok h he word hl f⟩

/-- The same with the core's change given in another form. -/
theorem coreResult_congr {c : Instr} {t : Nat} {e : TEnv} {f g : Tc → Tc} (h : coreResult c t e f)
    (hfg : ∀ x, f x = g x) : coreResult c t e g := by
  have : f = g := funext hfg
  exact this ▸ h

/-- An issue that ends in one change of the core, and perhaps a target. -/
theorem onlyTile_issue {s : State} {t : Nat} {i : Inst} (h : issues s t i) {e : TEnv} (he : e.ecc = 0) (word : Word)
    {legal : Bool} (hl : legal = true) {g : State → Tc → Inst → TcRes} {f : Tc → Tc} {dest : Option Half}
    (hg : g (s.atIssue t e) (stalled (s.tile t).tc e) i = .ok ((s.atIssue t e).modTc t f) dest) :
    onlyTile s (s.issue t e word legal g) t (tileDone (s.tile t) e f dest) := by
  rw [issue_ok h he word hl hg]
  refine ⟨fun u => ?_, by simp⟩
  by_cases hu : u = t
  · subst hu; simp [State.atIssue, tileDone]
  · simp [State.atIssue, State.tile_modTc, hu]

end Sys2Proof.Machine
end

