-- ==== Sys2Proof/Laws/Keeps.lean ====
section
/-!
SUPPORT. What every command keeps, over the commands together: the per-command lemmas of the Good files, one case each.
-/

namespace Sys2Proof.Laws

open Sys2Proof.Machine

variable {b0 s : State}

/-- Every command but a cold start and an internal reset release keeps it. -/
theorem good_exec {c : Instr} (h1 : c ≠ .coldStart) (h2 : ∀ st, c ≠ .internalResetRelease st) (h : Good b0 s) :
    GoodR b0 (exec c s) := by
  cases c with
  | coldStart => exact absurd rfl h1
  | brownout => exact good_execBrownout h
  | pinReset => exact good_execPinReset h
  | softReset => exact good_execSoftReset h
  | softResetHoldExpiry => exact good_execSoftResetHoldExpiry h
  | internalResetRelease st => exact absurd rfl (h2 st)
  | pllLock => exact good_execPllLock h
  | pwrFailNFall => exact good_execPwrFailNFall h
  | flushDone => exact good_execFlushDone h
  | flashOpAbandon => exact good_execFlashOpAbandon h
  | recorderRearm => exact good_execRecorderRearm h
  | slotEraseDone => exact good_execSlotEraseDone h
  | eventEntryWrite => exact good_execEventEntryWrite h
  | wakeRise => exact good_execWakeRise h
  | standbyRequest => exact good_execStandbyRequest h
  | supplyMonitorCross => exact good_execSupplyMonitorCross h
  | supplyConditionClear => exact good_execSupplyConditionClear h
  | pllLockLoss => exact good_execPllLockLoss h
  | pllFreqWindowEnd => exact good_execPllFreqWindowEnd h
  | referenceLoss => exact good_execReferenceLoss h
  | clockConditionClear => exact good_execClockConditionClear h
  | ddrPllLockLoss => exact good_execDdrPllLockLoss h
  | pcieSerdesPllLoss => exact good_execPcieSerdesPllLoss h
  | courseTxPllLoss => exact good_execCourseTxPllLoss h
  | tempSample => exact good_execTempSample h
  | prdAbort => exact good_execPrdAbort h
  | lockWaitExpiry => exact good_execLockWaitExpiry h
  | boundary => exact good_execBoundary h
  | capoRelease => exact good_execCapoRelease h
  | scrubFretDone => exact good_execScrubFretDone h
  | jobBind => exact good_execJobBind h
  | admissionDecision => exact good_execAdmissionDecision h
  | latestStartRetest => exact good_execLatestStartRetest h
  | dispatch => exact good_execDispatch h
  | overrunStart => exact good_execOverrunStart h
  | deadlineKill => exact good_execDeadlineKill h
  | csiFs => exact good_execCsiFs h
  | csiFe => exact good_execCsiFe (_frame := 0) h
  | csiLs => exact good_execCsiLs h
  | csiLe => exact good_execCsiLe (_vc := 0) (_line := 0) h
  | csiLongPacket => exact good_execCsiLongPacket h
  | csiDiscardPacket => exact good_execCsiDiscardPacket h
  | ethFrame => exact good_execEthFrame h
  | segment => exact good_execSegment h
  | t1sFrame => exact good_execT1sFrame h
  | plcaOpportunityExpiry => exact good_execPlcaOpportunityExpiry h
  | plcaRecovery => exact good_execPlcaRecovery h
  | plcaRecoverySilenceEnd => exact good_execPlcaRecoverySilenceEnd h
  | ethLinkUp => exact good_execEthLinkUp h
  | ethLinkDown => exact good_execEthLinkDown h
  | dphyCalibrationDone => exact good_execDphyCalibrationDone h
  | frameWindowEnd => exact good_execFrameWindowEnd h
  | lineCheck => exact good_execLineCheck h
  | bandBuild => exact good_execBandBuild h
  | frameCompletion => exact good_execFrameCompletion h
  | frameStoreReserve => exact good_execFrameStoreReserve h
  | gptpSync => exact good_execGptpSync h
  | gptpAnnounce => exact good_execGptpAnnounce h
  | pdelayReqTimer => exact good_execPdelayReqTimer h
  | pdelayReqReceived => exact good_execPdelayReqReceived h
  | pdelayRespReceived => exact good_execPdelayRespReceived h
  | syncReceiptTimeout => exact good_execSyncReceiptTimeout h
  | passStart => exact good_execPassStart h
  | passComplete => exact good_execPassComplete h
  | memopComplete => exact good_execMemopComplete h
  | allocRequestDecision => exact good_execAllocRequestDecision h
  | spillComplete => exact good_execSpillComplete h
  | restoreComplete => exact good_execRestoreComplete h
  | fretAgeTick => exact good_execFretAgeTick h
  | pageStaged => exact good_execPageStaged h
  | pageInject => exact good_execPageInject h
  | pageUsable => exact good_execPageUsable h
  | pageFree => exact good_execPageFree h
  | partReadDone => exact good_execPartReadDone h
  | dramRefresh => exact good_execDramRefresh h
  | dramTrainingDone => exact good_execDramTrainingDone h
  | dramUncorrError => exact good_execDramUncorrError h
  | msgArrive => exact good_execMsgArrive h
  | msgRetry => exact good_execMsgRetry h
  | wdogExpire => exact good_execWdogExpire h
  | recordTake => exact good_execRecordTake h
  | recordCommit => exact good_execRecordCommit h
  | pagePublish => exact good_execPagePublish h
  | summaryPlace => exact good_execSummaryPlace h
  | writeStallBegin => exact good_execWriteStallBegin h
  | writeStallEnd => exact good_execWriteStallEnd h
  | hdmaDone => exact good_execHdmaDone h
  | pcieReset => exact good_execPcieReset h
  | pcieLinkL0 => exact good_execPcieLinkL0 h
  | pcieLinkLeaveL0 => exact good_execPcieLinkLeaveL0 h
  | pcieConfigRequest => exact good_execPcieConfigRequest h
  | pcieUnsupportedRequest => exact good_execPcieUnsupportedRequest h
  | registerWrite => exact good_execRegisterWrite h
  | w1cWrite => exact good_execW1cWrite h
  | rcRead => exact good_execRcRead h
  | rslLowRead => exact good_execRslLowRead h
  | spiRead => exact good_execSpiRead h
  | spiWrite => exact good_execSpiWrite h
  | spiUnknownCmd => exact good_execSpiUnknownCmd h
  | prdDigSelWrite => exact good_execPrdDigSelWrite h
  | prdDigLayerWrite => exact good_execPrdDigLayerWrite h
  | ringRunStart => exact good_execRingRunStart h
  | ringRunStop => exact good_execRingRunStop h
  | ringBaseWrite => exact good_execRingBaseWrite h
  | ringConsWrite => exact good_execRingConsWrite h
  | ringMirrorWrite => exact good_execRingMirrorWrite h
  | schClassEnWrite => exact good_execSchClassEnWrite h
  | schAbsentForceWrite => exact good_execSchAbsentForceWrite h
  | linkFence => exact good_execLinkFence h
  | linkUnfence => exact good_execLinkUnfence h
  | injectionStart => exact good_execInjectionStart h
  | injectionCancel => exact good_execInjectionCancel h
  | injectionApply => exact good_execInjectionApply h
  | injectionLimitExpiry => exact good_execInjectionLimitExpiry h
  | safReadmitWrite => exact good_execSafReadmitWrite h
  | diagEnter => exact good_execDiagEnter h
  | diagExit => exact good_execDiagExit h
  | evrMarkWrite => exact good_execEvrMarkWrite h
  | ethAddrWrite => exact good_execEthAddrWrite h
  | hdmaStart => exact good_execHdmaStart h
  | hdmaAbort => exact good_execHdmaAbort h
  | sectionReadDone => exact good_execSectionReadDone h
  | xspiDiscoveryDone => exact good_execXspiDiscoveryDone h
  | emmcBringupDone => exact good_execEmmcBringupDone h
  | bringupBoundExpiry => exact good_execBringupBoundExpiry h
  | flitIdle => exact good_execFlitIdle h
  | hello => exact good_execHello h
  | crsStartFlit => exact good_execCrsStartFlit h
  | share => exact good_execShare h
  | planinfo => exact good_execPlaninfo h
  | boundaryFlit => exact good_execBoundaryFlit h
  | digestFlit => exact good_execDigestFlit h
  | endFlit => exact good_execEndFlit h
  | msgPair => exact good_execMsgPair h
  | pageReq => exact good_execPageReq h
  | pageHead => exact good_execPageHead h
  | pageData => exact good_execPageData h
  | flitCrcFail => exact good_execFlitCrcFail h
  | replayTimerExpiry => exact good_execReplayTimerExpiry h
  | linkSilenceTimeout => exact good_execLinkSilenceTimeout h
  | laneLockLoss => exact good_execLaneLockLoss h
  | linkRetrainTimer => exact good_execLinkRetrainTimer h
  | helloTimer => exact good_execHelloTimer h
  | startWaitTimeout => exact good_execStartWaitTimeout h
  | skipInsert => exact good_execSkipInsert h
  | remoteMsgReoffer => exact good_execRemoteMsgReoffer h
  | sharedPageFallback => exact good_execSharedPageFallback h
  | add => exact good_execAdd h
  | sub => exact good_execSub h
  | and => exact good_execAnd h
  | or => exact good_execOr h
  | xor => exact good_execXor h
  | sll => exact good_execSll h
  | srl => exact good_execSrl h
  | sra => exact good_execSra h
  | slt => exact good_execSlt h
  | sltu => exact good_execSltu h
  | min => exact good_execMin h
  | max => exact good_execMax h
  | minu => exact good_execMinu h
  | maxu => exact good_execMaxu h
  | mul => exact good_execMul h
  | mulh => exact good_execMulh h
  | mulhu => exact good_execMulhu h
  | div => exact good_execDiv h
  | divu => exact good_execDivu h
  | rem => exact good_execRem h
  | remu => exact good_execRemu h
  | clz => exact good_execClz h
  | popc => exact good_execPopc h
  | addi => exact good_execAddi h
  | andi => exact good_execAndi h
  | ori => exact good_execOri h
  | xori => exact good_execXori h
  | slti => exact good_execSlti h
  | lui => exact good_execLui h
  | shi => exact good_execShi h
  | lb => exact good_execLb h
  | lbu => exact good_execLbu h
  | lh => exact good_execLh h
  | lhu => exact good_execLhu h
  | lw => exact good_execLw h
  | sb => exact good_execSb h
  | sh => exact good_execSh h
  | sw => exact good_execSw h
  | beq => exact good_execBeq h
  | bne => exact good_execBne h
  | blt => exact good_execBlt h
  | bge => exact good_execBge h
  | bltu => exact good_execBltu h
  | bgeu => exact good_execBgeu h
  | jal => exact good_execJal h
  | jalr => exact good_execJalr h
  | csrr => exact good_execCsrr h
  | nop => exact good_execNop h
  | halt => exact good_execHalt h
  | wdarm => exact good_execWdarm h
  | wdkick => exact good_execWdkick h
  | wdoff => exact good_execWdoff h
  | bind => exact good_execBind h
  | bindd => exact good_execBindd h
  | alloc => exact good_execAlloc h
  | free => exact good_execFree h
  | pagerSub => exact good_execPagerSub h
  | retire => exact good_execRetire h
  | adv => exact good_execAdv h
  | pread => exact good_execPread h
  | hread => exact good_execHread h
  | apass => exact good_execApass h
  | mop => exact good_execMop h
  | waitc => exact good_execWaitc h
  | rpub => exact good_execRpub h
  | send => exact good_execSend h
  | recv => exact good_execRecv h
  | mcount => exact good_execMcount h
  | rldv => exact good_execRldv h
  | rstv => exact good_execRstv h
  | gen => exact good_execGen h
  | claim => exact good_execClaim h
  | init => exact good_execInit h
  | feedb => exact good_execFeedb h
  | feedh => exact good_execFeedh h
  | feedw => exact good_execFeedw h
  | feedv => exact good_execFeedv h
  | cvRead => exact good_execCvRead h
  | cvRelease => exact good_execCvRelease h
  | dopen => exact good_execDopen h
  | dclose => exact good_execDclose h
  | dreadl => exact good_execDreadl h
  | dreadh => exact good_execDreadh h
  | vadd => exact good_execVadd h
  | vsub => exact good_execVsub h
  | vmul => exact good_execVmul h
  | vmulh => exact good_execVmulh h
  | vmin => exact good_execVmin h
  | vmax => exact good_execVmax h
  | vminu => exact good_execVminu h
  | vmaxu => exact good_execVmaxu h
  | vand => exact good_execVand h
  | vor => exact good_execVor h
  | vxor => exact good_execVxor h
  | vsll => exact good_execVsll h
  | vsra => exact good_execVsra h
  | vsrl => exact good_execVsrl h
  | vadds => exact good_execVadds h
  | vsubs => exact good_execVsubs h
  | vabs => exact good_execVabs h
  | vsel => exact good_execVsel h
  | vrsra => exact good_execVrsra h
  | vfadd => exact good_execVfadd h
  | vfsub => exact good_execVfsub h
  | vfmul => exact good_execVfmul h
  | vfma => exact good_execVfma h
  | vfmin => exact good_execVfmin h
  | vfmax => exact good_execVfmax h
  | vfrcp => exact good_execVfrcp h
  | vfexp2 => exact good_execVfexp2 h
  | vcmp => exact good_execVcmp h
  | vcvt => exact good_execVcvt h
  | vshuf => exact good_execVshuf h
  | vcomp => exact good_execVcomp h
  | vsort => exact good_execVsort h
  | vmrgh => exact good_execVmrgh h
  | vmrgl => exact good_execVmrgl h
  | vbcast => exact good_execVbcast h
  | vext => exact good_execVext h
  | vrmax => exact good_execVrmax h
  | vrmin => exact good_execVrmin h
  | vradd => exact good_execVradd h
  | vrargmax => exact good_execVrargmax h
  | vcnt => exact good_execVcnt h
  | vlut8 => exact good_execVlut8 h
  | pand => exact good_execPand h
  | por => exact good_execPor h
  | pxor => exact good_execPxor h
  | pnot => exact good_execPnot h
  | pset => exact good_execPset h
  | pget => exact good_execPget h
  | vld => exact good_execVld h
  | vst => exact good_execVst h
  | vldt => exact good_execVldt h
  | vlds => exact good_execVlds h
  | canFrameDiscard => exact good_execCanFrameDiscard (_ident := 0) (_frame := []) h
  | heartbeat => exact good_execHeartbeat h
  | scLost => exact good_execScLost h
  | statusBroadcast => exact good_execStatusBroadcast h
  | uartIdleGap => exact good_execUartIdleGap h
  | setEndpointId => exact good_execSetEndpointId h
  | getEndpointId => exact good_execGetEndpointId h
  | getMctpVersionSupport => exact good_execGetMctpVersionSupport h
  | getMessageTypeSupport => exact good_execGetMessageTypeSupport h
  | getVendorMessageSupport => exact good_execGetVendorMessageSupport h
  | getStatus => exact good_execGetStatus h
  | getSensors => exact good_execGetSensors h
  | getLog => exact good_execGetLog h
  | moduleOut => exact good_execModuleOut h
  | moduleIn => exact good_execModuleIn h
  | moduleCycle => exact good_execModuleCycle h
  | moduleReset => exact good_execModuleReset h
  | moduleKill => exact good_execModuleKill h
  | shed => exact good_execShed h
  | fence => exact good_execFence h
  | forceAbsent => exact good_execForceAbsent h
  | pviewRead => exact good_execPviewRead h
  | pviewWrite => exact good_execPviewWrite h
  | hold => exact good_execHold h
  | holdRelease => exact good_execHoldRelease h
  | holdExpiry => exact good_execHoldExpiry h
  | interlockClear => exact good_execInterlockClear h
  | latchRelease => exact good_execLatchRelease h
  | clearContest => exact good_execClearContest h
  | leak => exact good_execLeak h
  | mainOc => exact good_execMainOc h
  | shdn => exact good_execShdn h
  | moduleOc => exact good_execModuleOc h
  | yanked => exact good_execYanked h
  | railSample => exact good_execRailSample h
  | linkPinSample => exact good_execLinkPinSample h
  | coolantSample => exact good_execCoolantSample h
  | ropeSample => exact good_execRopeSample h
  | moduleRegisterPoll => exact good_execModuleRegisterPoll h
  | examinationPoint => exact good_execExaminationPoint h
  | hoistStart => exact good_execHoistStart h
  | headerAndDirectoryRead => exact good_execHeaderAndDirectoryRead h
  | pmeTurnOff => exact good_execPmeTurnOff h
  | alwaysOnReset => exact good_execAlwaysOnReset h
  | aonOscillatorStop => exact good_execAonOscillatorStop h
  | refresh2xChange => exact good_execRefresh2xChange h
  | csiClockLaneChange => exact good_execCsiClockLaneChange h
  | pwrEnMainRise => exact good_execPwrEnMainRise h

/-- Every command keeps the grade, the queue behind it, the recorder's bound and the byte memories' form. -/
theorem base_exec {c : Instr} (h : Base b0 s) {t : State} (e : exec c s = .next t) : Base b0 t := by
  by_cases h1 : c = .coldStart
  · subst h1; exact base_execColdStart h t e
  · by_cases h2 : ∃ st, c = .internalResetRelease st
    · obtain ⟨st, rfl⟩ := h2
      exact base_execInternalResetRelease h t e
    · have g : Good s t := good_exec h1 (fun st e' => h2 ⟨st, e'⟩) ⟨⟨rfl, rfl, h.3, h.4, h.5, h.6⟩, id, id, rfl⟩ t e
      exact ⟨g.1.1.trans h.1, g.1.2.trans h.2, g.1.3, g.1.4, g.1.5, g.1.6⟩

end Sys2Proof.Laws
end

