-- ==== Sys2Proof/WellFormed.lean ====
section
/-!
DEFINITION. The commands whose operands name something the family has: tiles, ports, links, rings, slots within
their ranges, byte strings of their stated lengths. An ill-formed command is none that an agent of the spec sends.
-/

namespace Sys2Proof

/-- A tile number (R228: column in bits 3:0, row in bits 7:4). -/
def tileOk (t : Nat) : Bool := decide (t < 256)

/-- What an instruction meets: the error codes are the ones named there. -/
def TEnv.wf (e : TEnv) : Bool :=
  decide (e.ecc ≤ 4) && decide (e.dataEcc ≤ 2) && decide (e.queueEcc ≤ 2) && decide (e.queued ≤ 16) &&
    e.peers.all fun x => tileOk x.1 && decide (1 ≤ x.2.1) && decide (x.2.1 ≤ 12) && decide (x.2.2 ≤ 4)

/-- A capo's inputs name tiles and sentinel sub-passes (R254). -/
def CapoIn.wf (a : CapoIn) : Bool :=
  a.sentinel.all (fun e => tileOk e.1 && decide (e.2.1 < 3)) && a.lateTiles.all tileOk && a.silent.all tileOk

/-- A CSI-2 long packet: at most 65,535 payload bytes, a virtual channel 0 to 31 (R154). -/
def CsiPkt.wf (a : CsiPkt) : Bool :=
  decide (a.port < 12) && decide (a.vc < 32) && decide (a.dt < 64) && decide (a.data.length < 65536)

/-- A flit's payload is 26 bytes (R465). -/
def FlitIn.wf (f : FlitIn) : Bool := decide (f.payload.length = 26)

/-- A command body names a slot or the tray and fits the longest path's frame (R528, R529). -/
def HCmd.wf (a : HCmd) : Bool := (decide (a.slot < 4) || decide (a.slot = 0xFF)) && decide (a.args.length ≤ 246)

/-- A sample of the tray: four slots (R515). -/
def RailIn.wf (a : RailIn) : Bool := decide (a.slots.length = 4) && decide (a.reads.length ≤ 4)

/-- Every operand of the command lies in its range. -/
def Instr.wf (i : Instr) : Bool :=
  match i with
  | .coldStart => true
  | .brownout => true
  | .pinReset => true
  | .softReset _ _ => true
  | .softResetHoldExpiry => true
  | .internalResetRelease _ => true
  | .pllLock => true
  | .pwrFailNFall => true
  | .flushDone => true
  | .flashOpAbandon => true
  | .recorderRearm => true
  | .slotEraseDone _ => true
  | .eventEntryWrite upsets => upsets.all fun x => decide (x.1 < 4096) && decide (x.2 ≤ 2)
  | .wakeRise _ => true
  | .standbyRequest _ _ => true
  | .supplyMonitorCross bit _ a => decide (bit < 32) && a.wf
  | .supplyConditionClear _ => true
  | .pllLockLoss pll _ a => decide (pll < 5) && a.wf
  | .pllFreqWindowEnd _ _ a => a.wf
  | .referenceLoss _ a => a.wf
  | .clockConditionClear _ => true
  | .ddrPllLockLoss chan _ a => decide (chan < 16) && a.wf
  | .pcieSerdesPllLoss => true
  | .courseTxPllLoss link => decide (link < 2)
  | .tempSample _ _ a => a.wf
  | .prdAbort _ _ _ a => a.wf
  | .lockWaitExpiry => true
  | .boundary a => a.wf
  | .capoRelease => true
  | .scrubFretDone tile => tileOk tile
  | .jobBind job => decide (job < 4096)
  | .admissionDecision _ => true
  | .latestStartRetest job => decide (job < 4096)
  | .dispatch gang _ => decide (gang < 256)
  | .overrunStart job => decide (job < 4096)
  | .deadlineKill job => decide (job < 4096)
  | .csiFs port vc frame _ _ => decide (port < 12) && decide (vc < 32) && decide (frame < 65536)
  | .csiFe port vc frame _ _ => decide (port < 12) && decide (vc < 32) && decide (frame < 65536)
  | .csiLs port vc line _ => decide (port < 12) && decide (vc < 32) && decide (line < 65536)
  | .csiLe port vc line _ => decide (port < 12) && decide (vc < 32) && decide (line < 65536)
  | .csiLongPacket a => a.wf
  | .csiDiscardPacket port _ _ => decide (port < 12)
  | .ethFrame a => decide (a.port < 4)
  | .segment => true
  | .t1sFrame a => decide (a.port < 2)
  | .plcaOpportunityExpiry port => decide (port < 2)
  | .plcaRecovery port _ => decide (port < 2)
  | .plcaRecoverySilenceEnd port => decide (port < 2)
  | .ethLinkUp port _ => decide (port < 4)
  | .ethLinkDown port => decide (port < 4)
  | .dphyCalibrationDone port _ => decide (port < 12)
  | .frameWindowEnd stream => decide (stream < 4096)
  | .lineCheck stream _ _ => decide (stream < 4096)
  | .bandBuild stream level _ => decide (stream < 4096) && decide (level < 5)
  | .frameCompletion stream _ => decide (stream < 4096)
  | .frameStoreReserve => true
  | .gptpSync _ => true
  | .gptpAnnounce _ _ => true
  | .pdelayReqTimer => true
  | .pdelayReqReceived _ _ _ _ _ => true
  | .pdelayRespReceived _ _ _ _ _ => true
  | .syncReceiptTimeout _ => true
  | .passStart tile => tileOk tile
  | .passComplete a => tileOk a.tile
  | .memopComplete tile ecc => tileOk tile && decide (ecc ≤ 4)
  | .allocRequestDecision tile _ => tileOk tile
  | .spillComplete tile ecc => tileOk tile && decide (ecc ≤ 2)
  | .restoreComplete tile => tileOk tile
  | .fretAgeTick => true
  | .pageStaged net _ _ _ => decide (net < 256)
  | .pageInject net _ => decide (net < 256)
  | .pageUsable tile net _ _ => tileOk tile && decide (net < 256)
  | .pageFree tile _ _ => tileOk tile
  | .partReadDone tile _ => tileOk tile
  | .dramRefresh chan _ => decide (chan < 16)
  | .dramTrainingDone _ _ => true
  | .dramUncorrError _ => true
  | .msgArrive src dst mbox ecc => tileOk src && tileOk dst && decide (mbox < 8) && decide (ecc ≤ 2)
  | .msgRetry tile => tileOk tile
  | .wdogExpire tile => tileOk tile
  | .recordTake _ => true
  | .recordCommit ring _ _ => decide (ring < 256)
  | .pagePublish ring => decide (ring < 256)
  | .summaryPlace ring _ => decide (ring < 256)
  | .writeStallBegin _ => true
  | .writeStallEnd _ => true
  | .hdmaDone => true
  | .pcieReset _ => true
  | .pcieLinkL0 => true
  | .pcieLinkLeaveL0 => true
  | .pcieConfigRequest _ => true
  | .pcieUnsupportedRequest _ => true
  | .registerWrite _ addr _ bytes => decide (addr < 2 ^ 32) && [1, 2, 4, 8].contains bytes
  | .w1cWrite _ addr _ _ => decide (addr < 2 ^ 32)
  | .rcRead _ addr bytes => decide (addr < 2 ^ 32) && [1, 2, 4, 8].contains bytes
  | .rslLowRead _ addr bytes => decide (addr < 2 ^ 32) && [1, 2, 4, 8].contains bytes
  | .spiRead _ _ => true
  | .spiWrite _ _ => true
  | .spiUnknownCmd _ => true
  | .prdDigSelWrite _ _ => true
  | .prdDigLayerWrite _ _ => true
  | .ringRunStart _ ring _ => decide (ring < 256)
  | .ringRunStop _ ring _ => decide (ring < 256)
  | .ringBaseWrite _ ring _ _ => decide (ring < 256)
  | .ringConsWrite _ ring _ => decide (ring < 256)
  | .ringMirrorWrite _ _ _ => true
  | .schClassEnWrite _ _ => true
  | .schAbsentForceWrite _ _ => true
  | .linkFence _ link => decide (link < 2)
  | .linkUnfence _ link => decide (link < 2)
  | .injectionStart _ _ => true
  | .injectionCancel _ _ => true
  | .injectionApply _ _ a => a.wf
  | .injectionLimitExpiry _ => true
  | .safReadmitWrite _ _ => true
  | .diagEnter _ tile _ => tileOk tile
  | .diagExit _ tile _ => tileOk tile
  | .evrMarkWrite _ _ => true
  | .ethAddrWrite _ port _ _ => decide (port < 4)
  | .hdmaStart _ _ => true
  | .hdmaAbort _ _ => true
  | .sectionReadDone _ => true
  | .xspiDiscoveryDone _ => true
  | .emmcBringupDone _ => true
  | .bringupBoundExpiry _ => true
  | .flitIdle link f => decide (link < 2) && f.wf
  | .hello link f => decide (link < 2) && f.wf
  | .crsStartFlit link f => decide (link < 2) && f.wf
  | .share link f => decide (link < 2) && f.wf
  | .planinfo link f => decide (link < 2) && f.wf
  | .boundaryFlit link f => decide (link < 2) && f.wf
  | .digestFlit link f => decide (link < 2) && f.wf
  | .endFlit link f => decide (link < 2) && f.wf
  | .msgPair link f g => decide (link < 2) && f.wf && g.wf
  | .pageReq link f => decide (link < 2) && f.wf
  | .pageHead link f => decide (link < 2) && f.wf
  | .pageData link f => decide (link < 2) && f.wf
  | .flitCrcFail link _ _ => decide (link < 2)
  | .replayTimerExpiry link => decide (link < 2)
  | .linkSilenceTimeout link => decide (link < 2)
  | .laneLockLoss link => decide (link < 2)
  | .linkRetrainTimer link => decide (link < 2)
  | .helloTimer link => decide (link < 2)
  | .startWaitTimeout _ => true
  | .skipInsert link => decide (link < 2)
  | .remoteMsgReoffer link => decide (link < 2)
  | .sharedPageFallback net _ => decide (net < 256)
  | .add a => tileOk a.tile && a.env.wf
  | .sub a => tileOk a.tile && a.env.wf
  | .and a => tileOk a.tile && a.env.wf
  | .or a => tileOk a.tile && a.env.wf
  | .xor a => tileOk a.tile && a.env.wf
  | .sll a => tileOk a.tile && a.env.wf
  | .srl a => tileOk a.tile && a.env.wf
  | .sra a => tileOk a.tile && a.env.wf
  | .slt a => tileOk a.tile && a.env.wf
  | .sltu a => tileOk a.tile && a.env.wf
  | .min a => tileOk a.tile && a.env.wf
  | .max a => tileOk a.tile && a.env.wf
  | .minu a => tileOk a.tile && a.env.wf
  | .maxu a => tileOk a.tile && a.env.wf
  | .mul a => tileOk a.tile && a.env.wf
  | .mulh a => tileOk a.tile && a.env.wf
  | .mulhu a => tileOk a.tile && a.env.wf
  | .div a => tileOk a.tile && a.env.wf
  | .divu a => tileOk a.tile && a.env.wf
  | .rem a => tileOk a.tile && a.env.wf
  | .remu a => tileOk a.tile && a.env.wf
  | .clz a => tileOk a.tile && a.env.wf
  | .popc a => tileOk a.tile && a.env.wf
  | .addi a => tileOk a.tile && a.env.wf
  | .andi a => tileOk a.tile && a.env.wf
  | .ori a => tileOk a.tile && a.env.wf
  | .xori a => tileOk a.tile && a.env.wf
  | .slti a => tileOk a.tile && a.env.wf
  | .lui a => tileOk a.tile && a.env.wf
  | .shi a => tileOk a.tile && a.env.wf
  | .lb a => tileOk a.tile && a.env.wf
  | .lbu a => tileOk a.tile && a.env.wf
  | .lh a => tileOk a.tile && a.env.wf
  | .lhu a => tileOk a.tile && a.env.wf
  | .lw a => tileOk a.tile && a.env.wf
  | .sb a => tileOk a.tile && a.env.wf
  | .sh a => tileOk a.tile && a.env.wf
  | .sw a => tileOk a.tile && a.env.wf
  | .beq a => tileOk a.tile && a.env.wf
  | .bne a => tileOk a.tile && a.env.wf
  | .blt a => tileOk a.tile && a.env.wf
  | .bge a => tileOk a.tile && a.env.wf
  | .bltu a => tileOk a.tile && a.env.wf
  | .bgeu a => tileOk a.tile && a.env.wf
  | .jal a => tileOk a.tile && a.env.wf
  | .jalr a => tileOk a.tile && a.env.wf
  | .csrr a => tileOk a.tile && a.env.wf
  | .nop a => tileOk a.tile && a.env.wf
  | .halt a => tileOk a.tile && a.env.wf
  | .wdarm a => tileOk a.tile && a.env.wf
  | .wdkick a => tileOk a.tile && a.env.wf
  | .wdoff a => tileOk a.tile && a.env.wf
  | .bind a => tileOk a.tile && a.env.wf
  | .bindd a => tileOk a.tile && a.env.wf
  | .alloc a => tileOk a.tile && a.env.wf
  | .free a => tileOk a.tile && a.env.wf
  | .pagerSub a => tileOk a.tile && a.env.wf
  | .retire a => tileOk a.tile && a.env.wf
  | .adv a => tileOk a.tile && a.env.wf
  | .pread a => tileOk a.tile && a.env.wf
  | .hread a => tileOk a.tile && a.env.wf
  | .apass a => tileOk a.tile && a.env.wf
  | .mop a => tileOk a.tile && a.env.wf
  | .waitc a => tileOk a.tile && a.env.wf
  | .rpub a => tileOk a.tile && a.env.wf
  | .send a => tileOk a.tile && a.env.wf
  | .recv a => tileOk a.tile && a.env.wf
  | .mcount a => tileOk a.tile && a.env.wf
  | .rldv a => tileOk a.tile && a.env.wf
  | .rstv a => tileOk a.tile && a.env.wf
  | .gen a => tileOk a.tile && a.env.wf
  | .claim a => tileOk a.tile && a.env.wf
  | .init a => tileOk a.tile && a.env.wf
  | .feedb a => tileOk a.tile && a.env.wf
  | .feedh a => tileOk a.tile && a.env.wf
  | .feedw a => tileOk a.tile && a.env.wf
  | .feedv a => tileOk a.tile && a.env.wf
  | .cvRead a => tileOk a.tile && a.env.wf
  | .cvRelease a => tileOk a.tile && a.env.wf
  | .dopen a => tileOk a.tile && a.env.wf
  | .dclose a => tileOk a.tile && a.env.wf
  | .dreadl a => tileOk a.tile && a.env.wf
  | .dreadh a => tileOk a.tile && a.env.wf
  | .vadd a => tileOk a.tile && a.env.wf
  | .vsub a => tileOk a.tile && a.env.wf
  | .vmul a => tileOk a.tile && a.env.wf
  | .vmulh a => tileOk a.tile && a.env.wf
  | .vmin a => tileOk a.tile && a.env.wf
  | .vmax a => tileOk a.tile && a.env.wf
  | .vminu a => tileOk a.tile && a.env.wf
  | .vmaxu a => tileOk a.tile && a.env.wf
  | .vand a => tileOk a.tile && a.env.wf
  | .vor a => tileOk a.tile && a.env.wf
  | .vxor a => tileOk a.tile && a.env.wf
  | .vsll a => tileOk a.tile && a.env.wf
  | .vsra a => tileOk a.tile && a.env.wf
  | .vsrl a => tileOk a.tile && a.env.wf
  | .vadds a => tileOk a.tile && a.env.wf
  | .vsubs a => tileOk a.tile && a.env.wf
  | .vabs a => tileOk a.tile && a.env.wf
  | .vsel a => tileOk a.tile && a.env.wf
  | .vrsra a => tileOk a.tile && a.env.wf
  | .vfadd a => tileOk a.tile && a.env.wf
  | .vfsub a => tileOk a.tile && a.env.wf
  | .vfmul a => tileOk a.tile && a.env.wf
  | .vfma a => tileOk a.tile && a.env.wf
  | .vfmin a => tileOk a.tile && a.env.wf
  | .vfmax a => tileOk a.tile && a.env.wf
  | .vfrcp a => tileOk a.tile && a.env.wf
  | .vfexp2 a => tileOk a.tile && a.env.wf
  | .vcmp a => tileOk a.tile && a.env.wf
  | .vcvt a => tileOk a.tile && a.env.wf
  | .vshuf a => tileOk a.tile && a.env.wf
  | .vcomp a => tileOk a.tile && a.env.wf
  | .vsort a => tileOk a.tile && a.env.wf
  | .vmrgh a => tileOk a.tile && a.env.wf
  | .vmrgl a => tileOk a.tile && a.env.wf
  | .vbcast a => tileOk a.tile && a.env.wf
  | .vext a => tileOk a.tile && a.env.wf
  | .vrmax a => tileOk a.tile && a.env.wf
  | .vrmin a => tileOk a.tile && a.env.wf
  | .vradd a => tileOk a.tile && a.env.wf
  | .vrargmax a => tileOk a.tile && a.env.wf
  | .vcnt a => tileOk a.tile && a.env.wf
  | .vlut8 a => tileOk a.tile && a.env.wf
  | .pand a => tileOk a.tile && a.env.wf
  | .por a => tileOk a.tile && a.env.wf
  | .pxor a => tileOk a.tile && a.env.wf
  | .pnot a => tileOk a.tile && a.env.wf
  | .pset a => tileOk a.tile && a.env.wf
  | .pget a => tileOk a.tile && a.env.wf
  | .vld a => tileOk a.tile && a.env.wf
  | .vst a => tileOk a.tile && a.env.wf
  | .vldt a => tileOk a.tile && a.env.wf
  | .vlds a => tileOk a.tile && a.env.wf
  | .canFrameDiscard ident _ => decide (ident < 2048)
  | .heartbeat _ => true
  | .scLost => true
  | .statusBroadcast => true
  | .uartIdleGap => true
  | .setEndpointId _ => true
  | .getEndpointId => true
  | .getMctpVersionSupport => true
  | .getMessageTypeSupport => true
  | .getVendorMessageSupport => true
  | .getStatus a => a.wf
  | .getSensors a => a.wf
  | .getLog a => a.wf
  | .moduleOut a => a.wf
  | .moduleIn a => a.wf
  | .moduleCycle a => a.wf
  | .moduleReset a => a.wf
  | .moduleKill a => a.wf
  | .shed a => a.wf
  | .fence a => a.wf
  | .forceAbsent a => a.wf
  | .pviewRead a _ => a.wf
  | .pviewWrite a _ => a.wf
  | .hold a => a.wf
  | .holdRelease a => a.wf
  | .holdExpiry slot => decide (slot < 4)
  | .interlockClear a => a.wf
  | .latchRelease a => a.wf
  | .clearContest a => a.wf
  | .leak rope => decide (rope < 2)
  | .mainOc => true
  | .shdn slot => decide (slot < 4)
  | .moduleOc slot => decide (slot < 4)
  | .yanked slot => decide (slot < 4)
  | .railSample a => a.wf
  | .linkPinSample a => decide (a.slots.length ≤ 4)
  | .coolantSample _ _ _ _ => true
  | .ropeSample _ _ => true
  | .moduleRegisterPoll reads => decide (reads.length ≤ 4)
  | .examinationPoint reads => decide (reads.length ≤ 4)
  | .hoistStart a reads => a.wf && decide (reads.length ≤ 4)
  | .headerAndDirectoryRead _ => true
  | .pmeTurnOff => true
  | .alwaysOnReset => true
  | .aonOscillatorStop => true
  | .refresh2xChange _ => true
  | .csiClockLaneChange port _ => decide (port < 12)
  | .pwrEnMainRise => true

end Sys2Proof
end

