-- ==== Sys2Proof/Tests/Slice0.lean ====
section
/-!
SUPPORT. The model's own tests: a witness for the hypotheses of each statement, the checks of well-formedness, the reset
state, and single steps whose results the spec gives. The states `w…` and `v…` and the operands `a…` are small ones built
for these tests.
-/

namespace Sys2Proof.Tests

set_option Elab.async false

open Sys2Proof Sys2Proof.Machine Sys2Proof.Safety

/-- An equation with an answer, from the test of the answer. -/
theorem eq_ok {α β : Type} [DecidableEq β] {x : Except α β} {l : β}
    (h : (match x with | .ok y => decide (y = l) | .error _ => false) = true) : x = .ok l := by
  cases x with
  | ok y => simpa using h
  | error _ => simp at h

/-- The device out of reset with its clocks running and every part ready. -/
def w0 : State := { aon := { pllLocked := true }, rdy := { status := 0x7FFF#32 } }
/-- The main domain in reset after a pin reset, its rails on. -/
def wHeld : State := { aon := { mainReset := true, causes := 4#5, pwrEnMain := true } }
/-- The period generator running, one boundary past. -/
def wRun : State := { w0 with
  dev := 1500000 * 2 ^ 32
  prd := { gen := .run, pUs := 1000, n := 1, count := 1#32, boundary := 1000000#64, next := 2000000, started := true, anyBoundary := true }
  img := { plans := [(0, { n := 1, periodUs := 1000 })], finished := true, started := true, step6Done := true } }
/-- BAR0, BAR2 and the host's memory reachable. -/
def wHost : State := { wRun with pcie := { l0 := true, command := 0x546#16 } }
def wEvr (q : List EvrEntry) : State := { wRun with evr := { queue := q } }
def wRing : State := { wHost with
  img := { wHost.img with rings := [(1, 4)] }
  ring := { rings := [(1, { run := true, base := 0x10000#64, openP := some { num := 0, used := 100, records := 2 } })] } }
/-- Stream 0 a camera of 4 by 2 bytes on receiver 0, stream 1 a 1722 stream on MAC 1, stream 2 a UDP stream on MAC 1, stream 3
a 10BASE-T1S stream; all ports and streams ready, a landing ring for stream 0. -/
def wPorts : State := { wRun with
  grade := .dz16
  rdy := { status := 0x7FFF#32, port := 0xFFFFFFFF#32, stream := [(0, 0xF#32)] }
  img := { plans := [(0, { n := 1, periodUs := 1000, regions := [{ region := 1, kind := 1, tile := 0, frets := 1, stream := 0 }] })]
           streams := [(0, { geom := 0x80008004#32, key := [0#8, 0x30#8] }), (1, { kind := 1, port := 1, geom := 0x80008004#32, key := [1#8] }),
                       (2, { kind := 2, port := 1, geom := 0x80008004#32, key := [2#8] }), (3, { kind := 3, geom := 0x80008004#32, key := [1#8] })] }
  tiles := [(0, { spm := { frets := (List.range 96).map fun k => (k, { st := .landing }) } })]
  strm := { nextF := 5, rt := [(0, { wasReady := true }), (1, { wasReady := true }), (2, { wasReady := true }), (3, { wasReady := true })],
            csi := [(0, { clkLane := true })], eth := [(0, { link := true }), (1, { link := true })], t1s := [(0, { plca := true, opp := 1 })] } }
/-- The same with frame 4 of stream 0 open. -/
def wOpen : State := { wPorts with strm := { wPorts.strm with
  frm := [(4, { start := 1400000, windowEnd := some 2000000 })]
  rt := [(0, { wasReady := true, openF := some 4 }), (1, { wasReady := true }), (2, { wasReady := true }), (3, { wasReady := true })] } }
/-- A slot of the ring of stream 0 in wOpen. -/
def wSlot : LandSlot := { tile := 0, first := 95, frets := 1, idx := 0 }
def w0dz16 : State := { w0 with grade := .dz16 }
/-- Frame 4 of stream 0 engaged in store 0 with its rows present. -/
def wBand : State := { wPorts with strm := { wPorts.strm with
  frm := [(4, { engaged := true, store := some 0, rows := [(0, [1#8, 2#8, 3#8, 4#8]), (1, [1#8, 2#8, 3#8, 4#8])] })]
  rt := [(0, { wasReady := true, storeBase := some 0x4000 })] } }
/-- Instance 7 of job 3, bound to frame 4 of stream 0, in some state. -/
def wI (st : InstSt) : Inst := { id := 7, job := { job := 3, cls := 1, deadlineUs := 900, wNs := 1000 }, b := 1000000, st := st, bound := [4], tiles := [0], gang := 1 }
def wInst (i : Inst) : State := { wPorts with
  sch := { insts := [i], nextInst := 8, decideQ := if i.st = .deciding then [(7, 1500000)] else [] }
  strm := { wPorts.strm with frm := [(4, { start := 900000, state := .degraded, portOpen := false })] } }
/-- The capo of a period. -/
def wCapo : State := { wRun with prd := { wRun.prd with gen := .capo, digSel := 5#32, digLayer := 6#32 } }
def wHeavy : Inst := { wI .deciding with job := { job := 3, cls := 1, deadlineUs := 900, wNs := 900000 } }
def wRunning : Inst := { wI .running with tStart := 1200000, running := [0] }
def wDefQ : State := { (wInst (wI .deferred)) with sch := { insts := [wI .deferred], decideQ := [(7, 1500000)] } }
def wTwo : State := { (wInst (wI .deciding)) with sch := { insts := [wI .deciding, { (wI .admitted) with id := 8, job := { job := 4, cls := 1, deadlineUs := 850, wNs := 450000 } }] } }
/-- A SPATIAL pass of one step over local weights, and one with a reserved form. -/
def wPass : PassReq := { inst := 7, ticket := 1, bytes := [0#8, 0#8, 4#8, 0#8, 1#8, 1#8, 1#8, 0#8, 0#8, 0#8, 1#8, 0#8, 1#8, 0#8, 1#8, 0#8 ] ++ List.replicate 8 0#8 ++ [0xA1#8, 0#8, 0#8, 0#8, 0xA1#8, 0#8, 0#8, 0#8, 0#8, 4#8] ++ List.replicate 30 0#8 }
def wPassBad : PassReq := { wPass with bytes := 9#8 :: wPass.bytes.drop 1 }
def wFill : MemOp := { inst := 7, ticket := 1, bytes := [0#8, 0#8, 0#8, 0#8, 0xA1#8] ++ List.replicate 11 0#8 ++ [4#8, 0#8, 0#8, 0#8, 1#8, 2#8, 3#8, 4#8 ] ++ List.replicate 8 0#8 }
/-- Tile 0 holds a granted region of instance 7, which runs on it. -/
def wSpm : Spm := { mem := [(0, 3#8), (1, 5#8), (1024, 2#8), (1025, 7#8)], frets := [(0, { st := .granted, entry := 33 })]
                    ents := [(33, { live := true, gen := 1, inst := 7, places := [.fret 0] })] }
def wTc : Tc := { inst := some 7, wdHigh := 65536, wdBudget := 1000, wdLeft := 1000, pc := 64#16, s := [0#32, 5#32, 9#32] ++ List.replicate 29 7#32 }
def wCore : State := { wRun with
  img := { plans := [(0, { n := 1, periodUs := 1000 })], finished := true, nets := [(0, { blocks := [{ tile := 0, off := 0, len := 1024, entry := 0 }] })] }
  sch := { insts := [{ id := 7, job := { job := 3, deadlineUs := 900, frets := 8 }, b := 1000000, st := .running, tiles := [0], running := [0], r := some 1100000 }], nextInst := 8 }
  tiles := [(0, { tc := wTc, spm := wSpm })] }
def wI7 : Inst := { id := 7, job := { job := 3, deadlineUs := 900, frets := 8 }, b := 1000000, st := .running, tiles := [0], running := [0], r := some 1100000 }
def wPg (e : Staged) : State := { wCore with dram := { trained := true, channels := 1, capacityMiB := 64, staging := [e] } }
def wPin : State := { wCore with
  img := { wCore.img with nets := [(0, { layers := [{ bpp := 20, total := 20, pageCount := 1 }], blocks := [{ tile := 0, off := 0, len := 1024 }] })] }
  tiles := [(0, { arr := { queue := [{ wPass with bytes := (wPass.bytes.set 2 0#8), layer := some 0 }] }, bow := { slots := [{ page := 0, marked := true, fwdDone := true }] } })] }
def wShare : State := { wCore with
  grade := .dz16, sys := { straps := 0x1FF#32 }
  img := { wCore.img with links := [(0, { mode := 2, peerPos := 0, lanes := 4 })] }
  crs := { links := [(0, { st := .up, linked := true, ownShare := [(0, { pages := 3, set := true })], peerShare := [(0, { pages := 3, set := true })] })] }
  dram := { staging := [{ page := 2, remote := true }] } }
def wFrame (b : List Byte) : List Byte := b ++ leBytes 2 (crc16 b)
def wRead : List Byte := wFrame [0x0B#8, 0#8, 0#8, 0#8, 0#8, 0#8]
def wWrite : List Byte := wFrame [2#8, 0x40#8, 0x20#8, 0#8, 0#8, 0#8, 5#8, 0#8, 0#8, 0#8]
def wInj (saf : Saf) : State := { wHost with img := { wHost.img with injectPeriods := 8 }, saf := saf }
def wLink (l : Link) : State := { wHost with grade := .dz16, img := { wHost.img with linksDone := true, links := [(0, { mode := 2, lanes := 4 }), (1, { mode := 2, lanes := 4 })] }, crs := { links := [(1, l)] } }
def wBoot : State := { aon := { pllLocked := true }, rdy := { status := 0xB#32 } }
def wDir : List Byte := [1#8, 0#8, 0#8, 0#8, 1#8, 0#8] ++ List.replicate 26 0#8
def wHead : List Byte :=
  let h := [0x44#8, 0x5A#8, 0x54#8, 0x42#8, 1#8, 0#8, 64#8, 0#8, BitVec.ofNat 8 (Grade.dz4).code, 1#8, 1#8, 0#8, 64#8, 0#8, 0#8, 0#8, 0#8, 1#8, 0#8, 0#8] ++ List.replicate 16 0#8 ++ leBytes 4 (crc32c wDir).toNat ++ List.replicate 20 0#8
  h ++ leBytes 4 (crc32c h).toNat
def wHead2 : List Byte := wHead
def wDirs (h : List Byte) : Option (List DirEntry) := State.copyDir { wRun with img := { densityMiB := 64 } } 0 (some h) (some wDir)
def wF (p : List Byte) : FlitIn := { payload := p, t := 1600000 }
def wUp : State := { (wLink { st := .up, linked := true, locked := true }) with sch := wCore.sch, tiles := wCore.tiles }
def wTrain : State := wLink { st := .training }
def wA (s : State) (f : FlitIn) (typ : Nat := 1) : State := (s.accept 1 typ f).1
def wHello : List Byte := [0#8, 16#8, 0#8, 0#8, 2#8, 4#8] ++ List.replicate 20 0#8
def wB (t : Nat) : FlitIn := wF ([1#8, 0#8, 0#8, 0#8] ++ leBytes 8 t ++ List.replicate 14 0#8)
def wCapoUp : State := { wUp with prd := { wUp.prd with gen := .capo } }
def wLead : State := { wUp with crs := { links := [(1, { st := .up, linked := true, ownShare := [(0, { pages := 3, set := true })], peerShare := [(0, { pages := 3, set := true })] })] }, img := { wUp.img with links := [(1, { mode := 2, peerPos := 1, lanes := 4 })] } }
def wFull : State := { wUp with tiles := [(0, { tc := { wTc with mbox := [(0, List.replicate 4 {})] } })], sch := { wUp.sch with insts := [{ wI7 with period := 0#32 }] } }
def wHold0 : State := wUp
def wHold : State := wUp.modLink 1 fun l => { l with hold := [{ job := 3 }] }
def wHoldF0 : State := wFull
def wHoldF : State := wFull.modLink 1 fun l => { l with hold := [{ job := 3 }] }
def wBc : FlitIn := { (wB 1000000) with t := 1003000 }
/-- A tray with four modules, all ON. -/
def wS : HSlot := { st := .on, efuse := true, railEn := true, prsntN := false, pgood := true, vin := 4800, presentUs := 600000 }
def wH : State := { hoist := { slot0 := wS, slot1 := wS, slot2 := wS, slot3 := wS, service := true } }
def wHa (args : List Byte) : HCmd := { path := .sc, slot := 1, args := args }
def wHout : State := { hoist := { wH.hoist with slot1 := { st := .out, prsntN := false, presentUs := 500000, slotLatch := true } } }
def wHb : List Byte := let b := [1#8, 7#8, 3#8] ++ List.replicate 59 0#8; b ++ crc16Bytes b
/-- Tile 0 runs instance 7 with s1 and s2 as given, its vectors and predicates filled. -/
def wC (x y : Word) : State := { wCore with tiles := [(0, { spm := wSpm, tc := { wTc with
  s := [0#32, x, y] ++ List.replicate 29 7#32
  v := [0x0102030405060708_FF807F00_8000_7FFF_00000001_FFFFFFFE_3F800000_BF800000#256, 0x80000000_7FFFFFFF_FFFFFFFF_00000005_00FF_8001_FF7F_0080_7FC00000_3F800001#256] ++ List.replicate 14 0x40490FDB_3C00_4200_7C00_FC00_7E01_0001_C0000000_00800000_7F800000_FF800000#256
  p := [0xFFFFFFFF#32, 0x0F0F00FF#32, 0x80000001#32, 0#32], b := [(0xA1#16, false)] ++ List.replicate 7 (0xA1#16, true) } })] }
/-- The core state with the registers `x` and `y`, and the tile changed by `f`. -/
def wTl (x y : Word) (f : Tile → Tile) : State := { wCore with tiles := [(0, f ((wC x y).tile 0)), (1, { spm := { states := [{ region := 0, writer := 3, cur := [95], nxt := [94], gen := 6#32 }], frets := [(94, { st := .state }), (95, { st := .state })], mem := [(95 * 4096, 8#8), (94 * 4096, 9#8)] } })] }
def wNet : NetCfg := { blocks := [{ tile := 0, off := 0, len := 1024 }], layers := [{ pageCount := 2, bpp := 20, total := 30, tiles := 2 }] }
def wBow : Bow := { cur := some { inst := 7 }, slots := [{ page := 0, usable := true }, { page := 1, usable := true }] }
def wBows (b : Bow) (x : Word) : State := { (wTl x 6#32 fun t => { t with bow := b }) with img := { wCore.img with nets := [(0, wNet)] } }
def wRd (x y : Word) : State := { (wTl x y id) with
  img := { wCore.img with streams := [(0, { geom := 0x80008004#32, key := [0#8, 0x30#8] })] }
  sch := { insts := [{ wI7 with bound := [4] }], nextInst := 8 }
  strm := { frm := [(4, { store := some 0, state := .delivered })], rt := [(0, { storeBase := some 0x4000 })] } }
def wI7b : Inst := { wI7 with bound := [4] }
def wCv (h : CvHolder) : State := wTl 0x12345678#32 6#32 fun t => { t with tc := { t.tc with cv1 := { holder := h, run := 0x11223344#32 } } }
def wDesc : List Byte := [0xA1#8, 0#8, 0#8, 1#8, 0#8, 0#8, 0#8, 0#8, 2#8] ++ List.replicate 23 0#8
def wRp : State := wTl 5#32 6#32 fun t => { t with tc := { t.tc with v := t.tc.v.set 2 (BitVec.ofNat 256 (leNat wDesc)) } }
def a1_1 : RFmt := { tile := 0, rd := 3#5, ra := 1#5, rb := 2#5, env := { stall := 2 } }
def a1_2 : RFmt := { tile := 0, rd := 3#5, ra := 1#5 }
def a1_6 : IFmt := { tile := 0, rd := 3#5, imm := 32769#16 }
def a1_7 : IFmt := { tile := 0, rd := 3#5, ra := 1#5, imm := 31#16 }
def a1_8 : IFmt := { tile := 0, rd := 3#5, ra := 1#5, imm := 63#16 }
def a1_9 : IFmt := { tile := 0, rd := 3#5, ra := 1#5, imm := 95#16 }
def a1_10 : RFmt := { tile := 0 }
def a1_11 : IFmt := { tile := 0, rd := 3#5 }
def a1_12 : IFmt := { tile := 0, rd := 3#5, imm := 1#16 }
def a1_13 : IFmt := { tile := 0, rd := 3#5, imm := 16#16 }
def a1_14 : IFmt := { tile := 0, rd := 3#5, imm := 17#16 }
def a1_15 : IFmt := { tile := 0, rd := 3#5, imm := 18#16 }
def a1_16 : IFmt := { tile := 0, rd := 3#5, imm := 19#16 }
def a1_17 : IFmt := { tile := 0, rd := 3#5, imm := 20#16 }
def a1_18 : IFmt := { tile := 0, rd := 3#5, imm := 21#16 }
def a1_19 : IFmt := { tile := 0, rd := 3#5, imm := 22#16 }
def a1_20 : IFmt := { tile := 0, rd := 3#5, imm := 23#16 }
def a1_21 : IFmt := { tile := 0, rd := 3#5, imm := 24#16 }
def a1_22 : IFmt := { tile := 0, rd := 3#5, imm := 25#16 }
def a1_23 : IFmt := { tile := 0, rd := 3#5, imm := 48#16 }
def a1_24 : IFmt := { tile := 0, rd := 3#5, imm := 49#16 }
def a1_25 : BFmt := { tile := 0, ra := 1#5, rb := 2#5, off := 65534#16 }
def a1_27 : IFmt := { tile := 0, rd := 3#5, ra := 1#5, imm := 65532#16 }
def a1_28 : VFmt := { tile := 0, vd := 2#4, vb := 1#4, m := true, pg := 1#2 }
def a1_30 : VFmt := { tile := 0, vd := 2#4, vb := 1#4, m := true, pg := 1#2, w := 1#2 }
def a1_32 : VFmt := { tile := 0, vd := 2#4, vb := 1#4, m := true, pg := 1#2, w := 2#2 }
def a1_34 : VFmt := { tile := 0, vd := 2#4, m := true, pg := 1#2 }
def a1_38 : VFmt := { tile := 0, vd := 2#4, m := true, pg := 1#2, w := 2#2 }
def a1_40 : VFmt := { tile := 0, vd := 2#4, va := 3#4, m := true, pg := 1#2 }
def a1_42 : VFmt := { tile := 0, vd := 2#4, va := 3#4, m := true, pg := 1#2, w := 1#2 }
def a1_44 : VFmt := { tile := 0, vd := 2#4, va := 3#4, m := true, pg := 1#2, w := 2#2 }
def a1_61 : VFmt := { tile := 0, vd := 2#4, vb := 1#4, m := true, pg := 1#2, fn := 8#9 }
def a1_64 : VFmt := { tile := 0, vd := 2#4, vb := 1#4, m := true, pg := 1#2, w := 1#2, fn := 8#9 }
def a1_67 : VFmt := { tile := 0, vd := 2#4, vb := 1#4, m := true, pg := 1#2, w := 2#2, fn := 8#9 }
def a1_82 : XFmt := { tile := 0, rs := 1#5, v1 := 1#4, m := true, pg := 1#2 }
def a1_83 : XFmt := { tile := 0, rs := 1#5, v1 := 1#4 }
def a1_85 : XFmt := { tile := 0, rs := 1#5, m := true, pg := 1#2 }
def a1_94 : RFmt := { tile := 0, rd := 3#5, ra := 1#5, rb := 2#5 }
def a1_95 : RFmt := { tile := 0, rd := 7#5, ra := 1#5 }
def v1_1 : State := wC 5#32 9#32
def v1_8 : State := wC 5#32 6#32
def v1_10 : State := wC 8#32 6#32
def v1_11 : State := wC 9#32 6#32
def v1_12 : State := wC 0x12345688#32 6#32
def a2_1 : MFmt := { tile := 0, rd := 3#5, ra := 1#5, imm := 8188#13 }
def a2_2 : MFmt := { tile := 0, rd := 2#5, ra := 1#5, imm := 8160#13 }
def a2_3 : MFmt := { tile := 0, rd := 2#5, ra := 1#5, imm := 8188#13 }
def a2_4 : MFmt := { tile := 0, rd := 2#5, ra := 1#5, h := 1#3, imm := 8188#13 }
def a2_5 : MFmt := { tile := 0, rd := 2#5, ra := 1#5, imm := 8164#13 }
def a2_6 : MFmt := { tile := 0, rd := 2#5, ra := 1#5, h := 1#3, imm := 8165#13 }
def a2_7 : GFmt := { tile := 0, vd := 3#4, ra := 1#5, rb := 2#5 }
def a2_8 : GFmt := { tile := 0, vd := 3#4, ra := 1#5, rb := 2#5, w := 1#2 }
def a2_9 : GFmt := { tile := 0, vd := 3#4, ra := 1#5, rb := 2#5, w := 2#2 }
def a2_10 : XFmt := { tile := 0, rs := 1#5, v1 := 3#4, v2 := 1#4, m := true, pg := 1#2 }
def a2_11 : RFmt := { tile := 0, ra := 1#5, rb := 2#5 }
def a2_12 : RFmt := { tile := 0, rd := 3#5, ra := 1#5, rb := 2#5 }
def a2_13 : RFmt := { tile := 0 }
def a2_14 : RFmt := { tile := 0, rd := 3#5, ra := 1#5 }
def a2_15 : RFmt := { tile := 0, ra := 1#5 }
def a2_16 : BowSub := { inst := 7 }
def a2_17 : RFmt := { tile := 0, rd := 3#5, ra := 4#5 }
def a2_18 : RFmt := { tile := 0, rd := 3#5, ra := 2#5 }
def a2_19 : Msg := { src := 5, inst := 7, pos := some 2, data := 77#256 }
def a2_20 : Msg := { inst := 7 }
def a2_21 : StateReg := { writer := 3, cur := [95], nxt := [94], gen := 6#32 }
def a2_22 : RFmt := { tile := 0, rb := 1#5 }
def a2_23 : RFmt := { tile := 0, ra := 1#5, rb := 1#5 }
def a2_24 : RFmt := { tile := 0, rd := 3#5, rb := 1#5 }
def a2_25 : RFmt := { tile := 0, rd := 3#5 }
def a2_26 : IFmt := { tile := 0, ra := 1#5 }
def a2_27 : IFmt := { tile := 0, imm := 96#16 }
def a2_28 : VFmt := { tile := 0, w := 3#2 }
def v2_1 : State := wTl 0x404#32 6#32 id
def v2_2 : State := wTl 0x405#32 6#32 id
def v2_3 : State := wTl 0x420#32 6#32 id
def v2_4 : State := wTl 0x421#32 6#32 id
def v2_5 : State := wTl 0x404#32 0xA1B2C3D4#32 id
def v2_6 : State := wTl 0x400#32 8#32 id
def v2_7 : State := wTl 0x400#32 3#32 id
def v2_8 : State := wTl 64#32 1024#32 id
def v2_9 : State := wTl 0#32 512#32 id
def v2_10 : State := wTl 4#32 512#32 fun t => { t with tc := { t.tc with tkP := { issued := 5#16, completed := 5#16, words := [(5#16, 1#32), (4#16, 9#32)] } } }
def v2_11 : State := wTl 4#32 512#32 id
def v2_12 : State := wTl 4#32 512#32 fun t => { t with tc := { t.tc with digOpen := some 0 } }
def v2_14 : State := wTl 0x40302#32 512#32 id
def v2_15 : State := wTl 0xA1#32 512#32 id
def v2_16 : State := wBows {} 0#32
def v2_17 : State := wBows wBow 0#32
def v2_18 : State := { (wBows {} 0#32) with tiles := [(0, { ((wBows {} 0#32).tile 0) with exclEff := true })] }
def v2_19 : State := wBows wBow 20#32
def v2_20 : State := wRd 0#32 0xA1#32
def v2_21 : State := wTl 1#32 2#32 id
def v2_22 : State := wTl 0x102#32 2#32 id
def v2_23 : State := wTl 0x102#32 2#32 fun t => { t with tc := { t.tc with mbox := [(2, [{ inst := 8 }, { inst := 7, src := 5, pos := some 2, data := 77#256 }, { inst := 7 }])] } }
def v2_24 : State := wTl 0x102#32 2#32 fun t => { t with tc := { t.tc with mbox := [(2, [{ inst := 8 }, { inst := 7, src := 5 }, { inst := 7 }])] } }
def v2_25 : State := wTl 0x10001#32 0#32 id
def v2_26 : State := wTl 0x10002#32 0#32 id
def v2_27 : State := wCv .tile
def v2_28 : State := wCv (.intake 0)
def v2_29 : State := wCv .none
def v2_30 : State := wTl 4#32 512#32 fun t => { t with tc := { t.tc with digOpen := some 0, digCore := 0x1122334455667788#64, digCoreN := 2, digCoreData := [1#8, 2#8] } }
def v2_31 : State := wTl 4#32 512#32 fun t => { t with tc := { t.tc with pc := 1024#16 } }
def v2_32 : State := wTl 4#32 512#32 fun t => { t with tc := { t.tc with wdHigh := 64 } }
def a3_1 : State := { }
def a3_2 : EvrEntry := { code := 1025#16 }
def a3_3 : EvrEntry := { }
def a3_4 : RecReq := { ring := 1, payload := [1#8, 2#8] }
def a3_5 : RingPage := { records := 2, used := 100 }
def a3_6 : Xfer := { item := { ring := 1, payload := [1#8, 2#8] }, off := 100, size := 56 }
def a3_7 : RingPage := { records := 2, used := 100, body := [1#8] }
def v3_1 : State := { w0 with evr := { flushing := true } }
def v3_3 : State := { w0 with aon := { standby := .asleep, pwrEnMain := false } }
def v3_4 : State := { w0 with aon := { oscRunning := false } }
def v3_5 : State := { w0 with aon := { standby := .asleep, wakeLatched := true } }
def v3_6 : State := { w0 with aon := { standby := .waitL2 }, pcie := { l0 := true } }
def v3_7 : State := { w0 with sys := { clockCond := true, monStatus := 0x3F0000#32 } }
def v3_8 : State := { wRun with grade := .dz16, crs := { links := [(1, { st := .up })] } }
def v3_9 : State := { w0 with evr := { queue := List.replicate 64 {} } }
def v3_10 : State := wEvr [{ code := 0x0401#16 }, {}]
def v3_11 : State := { wRun with evr := { queue := [{ code := 0x0401#16 }, {}], seen := [entryKey { code := 0x0401#16 }] } }
def v3_12 : State := { wRun with evr := { arm := .armed } }
def v3_13 : State := { wRun with evr := { arm := .flushing, flushing := true } }
def v3_14 : State := { wRun with evr := { arm := .erasing } }
def v3_15 : State := { wRun with evr := { arm := .spent } }
def v3_16 : State := { wRing with ring := { wRing.ring with own := [{ ring := 1, payload := [1#8, 2#8] }], rpub := [{ own := false, ring := 1, arrival := 1 }] } }
def v3_17 : State := { wRing with ring := { wRing.ring with rings := [(1, { run := true, base := 0x10000#64, openP := some { num := 0, used := 100, records := 2 }, xfer := some { item := { ring := 1, payload := [1#8, 2#8] }, off := 100, size := 56 } })] } }
def v3_18 : State := { wRing with ring := { wRing.ring with rings := [(1, { run := true, base := 0x10000#64, closed := [{ num := 0, used := 100, records := 2, body := [1#8] }] })] } }
def v3_19 : State := { wRing with ring := { wRing.ring with rings := [(1, { run := true, stalled := true, summary := true, sumDropped := 3, base := 0x10000#64 })] } }
def v3_20 : State := { wRun with ring := { posted := [.write 64 [1#8]] } }
def v3_21 : State := { wHost with ring := { posted := [.write 64 [1#8]], writeStall := true } }
def v3_22 : State := { wRing with ring := { rings := [(1, { base := 0x10000#64 })] } }
def v3_23 : State := { wRing with ring := { rings := [(1, { run := true, prod := 1#32 })] } }
def v3_24 : State := { wRing with ring := { wRing.ring with mirrorLo := 1#32 } }
def v3_25 : State := { wHost with dram := { trained := true, capacityMiB := 1024 }, hdma := { len := 64#32 } }
def v3_26 : State := { wHost with dram := { mem := [(3, 7#8), (63, 1#8), (64, 9#8)] }, hdma := { state := 1, len := 64#32, dst := 128#64 } }
def v3_27 : State := { wHost with hdma := { state := 1, len := 64#32 } }
def a4_1 : CsiHdr := { }
def a4_2 : CsiPkt := { port := 0, vc := 0, dt := 49, data := [1#8] }
def a4_3 : CsiPkt := { port := 0, vc := 0, dt := 48, data := [1#8], crcOk := false }
def a4_4 : CsiPkt := { port := 0, vc := 0, dt := 48, data := [1#8] }
def a4_5 : CsiPkt := { port := 0, vc := 0, dt := 48, data := [1#8, 2#8, 3#8, 4#8] }
def a4_6 : EthIn := { port := 1, data := List.replicate 60 0#8 }
def a4_7 : EthIn := { port := 1, data := List.replicate 60 0#8, fcsOk := false }
def a4_8 : EthIn := { port := 1, data := List.replicate 60 0#8, full := true }
def a4_9 : T1sIn := { port := 0, data := List.replicate 60 1#8 }
def a4_10 : SegReq := { kind := 1, port := 1, stream := 1, data := [128#8, 1#8] }
def a4_11 : SegReq := { kind := 1, port := 1, stream := 1, data := [128#8, 1#8, 0#8, 0#8, 0#8, 0#8, 0#8, 0#8, 1#8, 2#8, 3#8, 4#8] }
def a4_12 : SegReq := { kind := 1, port := 1, stream := 1, data := [0#8, 1#8, 0#8, 0#8, 0#8, 0#8, 0#8, 0#8, 1#8, 2#8, 3#8, 4#8] }
def a4_13 : Frame := { engaged := true, rows := [(0, [1#8, 2#8, 3#8, 4#8]), (1, [1#8, 2#8, 3#8, 4#8])], store := some 0 }
def a4_14 : Frame := { closing := true }
def a4_15 : SyncIn := { oneStep := true, origin := 1600500, t := 1600000 }
def a4_16 : SyncIn := { origin := 1600500, t := 1600000 }
def v4_1 : State := { wPorts with strm := { wPorts.strm with t1s := [(0, { plca := true, opp := 1, recovering := true })] } }
def v4_2 : State := { wPorts with strm := { wPorts.strm with segQ := [{ kind := 1, port := 1, stream := 1, data := [0x80#8, 1#8] }] } }
def v4_3 : State := { wPorts with strm := { wPorts.strm with segQ := [{ kind := 1, port := 1, stream := 1, data := [0x80#8, 1#8, 0#8, 0#8, 0#8, 0#8, 0#8, 0#8, 1#8, 2#8, 3#8, 4#8] }] } }
def v4_4 : State := { wPorts with strm := { wPorts.strm with segQ := [{ kind := 1, port := 1, stream := 1, data := [0#8, 1#8, 0#8, 0#8, 0#8, 0#8, 0#8, 0#8, 1#8, 2#8, 3#8, 4#8] }] } }
def v4_5 : State := { wPorts with strm := { wPorts.strm with frm := [(4, { start := 1400000, windowEnd := some 1450000 })], rt := [(0, { wasReady := true, openF := some 4 })] } }
def v4_6 : State := { wPorts with tiles := [], strm := { wPorts.strm with frm := [(4, { start := 1400000 })], rt := [(0, { wasReady := true, ring := [.line 4 1 [1#8, 2#8, 3#8, 4#8] {}, .line 4 2 [] { idx := 1 }] })] } }
def v4_7 : State := { wPorts with tiles := [], strm := { wPorts.strm with frm := [(4, { closing := true })] } }
def v4_8 : State := { w0 with img := { step6Done := true }, dram := { spillFixed := true, spillBase := 8, spillMiB := 4 } }
def v4_9 : State := { wPorts with tb := { asCapable := true } }
def v4_10 : State := { wPorts with tb := { asCapable := true, gmPresent := true, state := .locked, acquiring := false } }
def v4_11 : State := { wPorts with tb := { asCapable := true, state := .locked, acquiring := false, rates := [3, 4] } }
def v4_12 : State := { wPorts with tb := { reqOpen := true } }
def v5_1 : State := { wRun with prd := { wRun.prd with gen := .idle, anyBoundary := false } }
def v5_2 : State := { wCapo with sys := { supplyCond := true } }
def v5_3 : State := wInst (wI .running)
def v5_4 : State := { wRun with prd := { wRun.prd with gen := .hold } }
def v5_5 : State := { wHost with prd := { wHost.prd with gen := .hold } }
def v5_6 : State := { w0 with prd := { lockWaitEnd := some 1600000, pUs := 1000 } }
def v5_7 : State := { w0 with prd := { pUs := 1000, phase := 7#64 } }
def v5_8 : State := { w0 with crs := { startWait := true }, prd := { pUs := 1000, next := 1000000000 } }
def v5_9 : State := wInst (wI .deferred)
def v5_10 : Inst := { (wI .created) with job := { job := 3, deadlineUs := 900, wNs := 1000, releaseUs := 100 } }
def v5_11 : State := wInst { (wI .created) with job := { job := 3, deadlineUs := 900, wNs := 1000, releaseUs := 100 } }
def v5_12 : State := wInst (wI .waitInput)
def v5_13 : State := wInst (wI .deciding)
def v5_14 : State := { (wInst wHeavy) with dev := 1950000 * 2 ^ 32 }
def v5_15 : State := wInst (wI .admitted)
def v5_16 : State := wInst wRunning
def a6_2 : AllocReq := { inst := 7, n := 100, rd := 4 }
def a6_3 : AllocReq := { inst := 7, n := 2, rd := 4 }
def a6_4 : SpillSlot := { }
def a6_5 : SpillSlot := { crc := crc32c (memRead 0#8 [] 28672 4096) }
def a6_6 : Msg := { src := 1, mbox := 2, inst := 7 }
def a6_7 : Msg := { src := 1, mbox := 2, inst := 9 }
def a6_8 : Msg := { dst := 1, mbox := 2, inst := 7 }
def a6_9 : Staged := { page := 2 }
def a6_10 : Staged := { page := 2, subs := [{ inst := 7 }], ready := true }
def a6_11 : InFlight := { inst := 7, page := 2, data := [1#8] }
def a6_12 : BowPage := { page := 2 }
def a6_13 : BowPage := { page := 2, marked := true, fwdDone := true }
def a6_14 : BowPage := { marked := true, fwdDone := true }
def a6_15 : PartRead := { inst := 7, src := 64, len := 2, handle := 161#16 }
def v6_1 : State := { wCore with tiles := [(0, { tc := wTc, spm := wSpm, arr := { queue := [wPass] } })] }
def v6_2 : State := { wCore with tiles := [(0, { tc := wTc, spm := wSpm, arr := { queue := [wPassBad] } })] }
def v6_3 : State := { wCore with tiles := [(0, { tc := wTc, spm := wSpm, arr := { running := [wPass] } })] }
def v6_4 : State := { wCore with tiles := [(0, { tc := wTc, spm := { wSpm with memQ := [wFill] } })] }
def v6_5 : State := { wCore with rdy := {}, tiles := [(0, { spm := { wSpm with mem := [(4096, 1#8), (8191, 2#8), (8192, 3#8)], dirtyQ := [1], frets := [(1, { st := .dirty })] } })] }
def v6_6 : State := { wCore with tiles := [(0, { tc := wTc, spm := { wSpm with reqs := [{ inst := 7, n := 100, rd := 4 }] } })] }
def v6_7 : State := { wCore with tiles := [(0, { tc := wTc, spm := { wSpm with reqs := [{ inst := 7, n := 2, rd := 4 }] } })] }
def v6_8 : State := { wCore with tiles := [(0, { tc := wTc, spm := { wSpm with frets := (List.range 96).map fun k => (k, { st := .dirty }), reqs := [{ inst := 7, n := 2, rd := 4 }] } })] }
def v6_9 : State := { wCore with dram := { slotBase := 8192, slotCount := 8 }, tiles := [(0, { spm := { wSpm with mem := [(4096, 1#8)], spilling := [{ fret := 1, entry := 33, slot := 5, req := 7 }], frets := [(1, { st := .spilling })] } })] }
def v6_10 : State := { wCore with dram := { slotBase := 8192, slotCount := 8, slots := [(5, some { crc := crc32c (memRead 0#8 [] 28672 4096), tile := 0 })] }, tiles := [(0, { spm := { frets := [(1, { st := .landing })], ents := [(33, { live := true, gen := 1, inst := 7, places := [.restoring 5 1] })], mem := [(4096, 1#8)] } })] }
def v6_11 : State := { wCore with flight := [{ src := 1, dst := 0, mbox := 2, inst := 7 }] }
def v6_12 : State := { wCore with tiles := [(0, { tc := { wTc with mbox := [(2, List.replicate 4 {})] } })] }
def v6_13 : State := { wCore with tiles := [(0, { tc := { wTc with returned := [{ src := 0, dst := 1, mbox := 2, inst := 7 }] } })] }
def v6_14 : State := { wCore with tiles := [(0, { tc := { wTc with wdArmed := true } })] }
def v6_15 : State := wPg { page := 2 }
def v6_16 : State := wPg { page := 2, ready := true, subs := [{ tile := 0, inst := 7 }] }
def v6_17 : State := { wCore with dram := { flight := [{ inst := 7, page := 2, data := [1#8] }] }, tiles := [(0, { bow := { cur := some { inst := 7 }, slots := [{ page := 2 }] } })] }
def v6_18 : State := { wCore with tiles := [(0, { bow := { slots := [{ page := 2, marked := true, fwdDone := true }] } })] }
def v6_19 : State := { wCore with dram := { mem := [(64, 9#8)], reads := [{ inst := 7, src := 64, len := 2, handle := 0xA1#16 }] }, tiles := [(0, { tc := { wTc with readsOut := 1 }, spm := wSpm })] }
def v6_20 : State := { wCore with dram := { trained := true } }
def v6_21 : State := { w0 with rdy := { status := 3#32 } }
def a7_1 : CfgIn := { write := true, reg := CfgReg.command, value := 6#32 }
def a7_2 : CfgIn := { reg := CfgReg.devCtl }
def a7_3 : SfdpIn := { signature := false }
def a7_4 : SfdpIn := { }
def a7_6 : HeaderIn := { primary := some wHead, primaryDir := some wDir }
def a7_7 : HeaderIn := { alternate := some wHead2, alternateDir := some wDir }
def a7_8 : HeaderIn := { }
def a7_9 : DirEntry := { typ := 1, offset := 4096, length := 64 }
def a7_10 : SectionIn := { }
def v7_1 : State := { wRun with pcie := { command := 0x546#16 }, ring := { posted := [.write 64 [1#8]] } }
def v7_2 : State := { wHost with pcie := { wHost.pcie with devCtl := 10#16 } }
def v7_3 : State := { wHost with sch := { events := 7#32 } }
def v7_4 : State := { wHost with tiles := [(0, { spm := { waitMax := 9#32 }, tc := { retired := 0x500000007#64 } })] }
def v7_5 : State := { wHost with grade := .dz16, tiles := [(5, { excl := 3, arr := { sentHist := 7#32 } })] }
def v7_6 : State := wInj { injSel := 0x0C#32 }
def v7_7 : State := wInj { injSel := 0x0C#32, injState := .applied }
def v7_8 : State := wInj { injState := .armed, injCode := 0x0C }
def v7_9 : State := wInj { injState := .applied, injCode := 0x0C }
def v7_10 : State := wInj { injState := .armed, injCode := 0x0D }
def v7_11 : State := wInj { injState := .armed, injCode := 1 }
def v7_12 : State := wInj { injState := .armed, injCode := 5 }
def v7_13 : State := { wHost with prd := { wHost.prd with gen := .hold } }
def v7_14 : State := { wHost with tiles := [(0, { excl := 5, spm := { diag := true, frets := [(3, { st := .granted }), (4, { st := .state }), (5, { st := .landing })] } })] }
def v7_15 : State := wLink { st := .up, txQ := [{}], held := [{}], linked := true }
def v7_16 : State := { (wLink { st := .fenced }) with crs := { fence := 2#2, links := [(1, { st := .fenced })] } }
def v7_17 : State := { wBoot with sys := { straps := 2#32 } }
def v7_18 : State := { wRun with img := { densityMiB := 64 } }
def a7_5 : State := { v7_18 with img := { v7_18.img with started := true } }
def v7_19 : State := { wRun with img := { densityMiB := 64, cur := some 0, dir := [{ typ := 1, offset := 4096, length := 64 }], started := true } }
def a8_1 : FlitIn := { seq := 9#8, t := 1600000 }
def a8_2 : FlitIn := { lflags := 2#8, t := 1600000 }
def a8_3 : FlitIn := { seq := 1#8, t := 1600000 }
def a8_4 : RemMsg := { job := 3 }
def v8_1 : State := wLink { st := .up, linked := true, txSeq := 5#8, held := [{}], txQ := [{}] }
def v8_2 : State := wLink { st := .failed }
def v8_3 : State := wA wTrain (wF wHello)
def v8_4 : State := wA wTrain (wF [])
def v8_5 : State := wA wUp (wF [])
def v8_6 : State := wA wUp (wF [3#8]) 1
def v8_7 : State := wA wUp (wF [1#8])
def v8_8 : State := wA wUp (wF [2#8])
def v8_9 : State := { wUp with prd := {} }
def v8_10 : State := wA { wUp with prd := {} } (wB 2000000) 2
def v8_11 : State := wA wUp (wB 2000000) 2
def v8_12 : State := { wCapoUp with dev := 1001000 * 2 ^ 32 }
def v8_13 : State := wA { wCapoUp with dev := 1001000 * 2 ^ 32 } wBc 2
def v8_14 : State := wA wUp (wB 1000000) 2
def v8_15 : State := wA wUp (wF [0#8]) 3
def v8_16 : State := wA wCapoUp (wF [0#8]) 3
def v8_36 : State := wA wUp (wF []) 5
def v8_17 : State := wA (v8_36.modLink 1 fun l => { l with msgA := some (wF []).payload }) { seq := 1#8, t := 1600000 } 6
def v8_20 : State := wA wUp (wF [0#8, 0#8, 2#8]) 7
def v8_21 : State := { wLead with dram := { poisoned := [(0, 2)] } }
def v8_22 : State := wA { wLead with dram := { poisoned := [(0, 2)] } } (wF [0#8, 0#8, 2#8]) 7
def v8_23 : State := wA wLead (wF [0#8, 0#8, 2#8]) 7
def v8_24 : State := { wUp with dram := { staging := [{ page := 2, remote := true }] } }
def v8_25 : State := wA { wUp with dram := { staging := [{ page := 2, remote := true }] } } (wF [0#8, 1#8, 2#8]) 8
def v8_26 : State := wA { wUp with dram := { staging := [{ page := 2, remote := true }] } } (wF [0#8, 0#8, 2#8]) 8
def v8_27 : State := wLink { st := .up, pageNet := some (0, 2) }
def v8_28 : State := wA (wLink { st := .up, pageNet := some (0, 2) }) (wF [0#8, 0#8, 2#8]) 9
def v8_29 : State := wLink { st := .up, held := [{}] }
def v8_30 : State := wLink { st := .down }
def a9_1 : HCmd := { path := HPath.host, slot := 1 }
def a9_2 : HLog := { opcode := 5 }
def a9_3 : HCmd := { path := HPath.service, slot := 1 }
def a9_4 : HSlotIn := { vin := 4800, prsntN := false }
def v9_1 : State := { wH with hoist := { wH.hoist with canCmd := some 0#8 } }
def v9_3 : State := { wH with hoist := { wH.hoist with nextSeq := 1#32, log := [(0, { opcode := 5 })] } }
def v9_4 : State := { wH with hoist := { wH.hoist with mainOcLatch := true, mainEfuse := false } }
def v9_5 : State := { wH with hoist := { wH.hoist with slot1 := { wS with contested := true, caseCode := 3 } } }
def v9_11 : State := { wH with hoist := { wH.hoist with slot1 := { wS with read := { answered := true } } } }
def v9_12 : State := { wH with hoist := { wH.hoist with slot1 := { wS with crs0 := true, read := { answered := true } } } }

def wI7e : Inst := { wI7 with running := [] }
def v1_13 : State := wC 6#32 6#32
def a1_32c : IFmt := { tile := 0, rd := 3#5, imm := 32#16 }
def a1_33c : IFmt := { tile := 0, rd := 3#5, imm := 33#16 }
def a1_34j : JFmt := { tile := 0, rd := 3#5, off := 0xFFFF0#21 }
def v3_28 : State := { wRun with evr := { upset := [(0, 1), (1, 2)] } }
def a4_19 : Frame := { dropped := true }
def a4_20 : Frame := { hasEof := true, placed := [1, 0] }
def a4_c : StreamCfg := { geom := 0x80004004#32, key := [0#8, 0x30#8] }
def v4_14 : State := { wOpen with rdy := { wOpen.rdy with stream := [] }, strm := { wOpen.strm with rt := [(0, { openF := some 4, ring := List.replicate 16 (.opened 4) })] } }
def v4_15 : State := { v4_6 with strm := { v4_6.strm with frm := [(4, { start := 1400000, dropped := true })] } }
def wScope (x : Bool) : State := { wPorts with
  tiles := [(0, { exclEff := x, spm := { frets := (List.range 96).map fun k => (k, { st := .landing }) } })]
  img := { wPorts.img with streams := [(0, { geom := 0x80008004#32, guard := 0x10#32, key := [0#8, 0x30#8] })] }
  strm := { wPorts.strm with frm := [(4, { start := 1400000 })] } }
def a4_18 : List Byte := [1#8, 2#8, 3#8, 4#8, 0#8, 0#8, 0#8, 0#8]
def a4_17 : List Byte :=
  [1#8, 2#8, 3#8, 4#8] ++ leBytes 4 ((wScope false).cvFinal 0 0 ((wScope false).cvFeed 0 0 ((wScope false).cvInit 0 0) [1#8, 2#8, 3#8, 4#8])).toNat
def wScopeR (x : Bool) (l : List LandItem) : State := { (wScope x) with strm := { (wScope x).strm with rt := [(0, { wasReady := true, ring := l })] } }
def v4_16 : State := wScopeR true [.line 4 1 [1#8, 2#8, 3#8, 4#8] {}, .line 4 2 [] { idx := 1 }]
def v4_17 : State := wScopeR false [.line 4 1 a4_17 {}]
def v4_18 : State := wScopeR false [.line 4 1 a4_18 {}]
def v4_19 : State := { wPorts with tb := { asCapable := true, gmPresent := true } }
def v4_20 : State := { wPorts with tb := { state := .holdover } }
def a5_1 : Inst := { (wI .created) with bound := [] }
def v5_17 : State := { v5_3 with dev := 1900000 * 2 ^ 32 }
def wPassP : PassReq := { wPass with bytes := wPass.bytes.set 2 0#8, layer := some 0 }
def wMopBad : MemOp := { wFill with bytes := 2#8 :: wFill.bytes.drop 1 }
def a6_16 : PassIn := { tile := 0 }
def a6_17 : PassIn := { tile := 0, upTo := some 4 }
def a6_s : Spill := { fret := 1, entry := 33, slot := 5, req := 7 }
def a6_s5 : SpillSlot := { crc := crc32c (memRead 0#8 [] 28672 4096) + 1#32 }
def a6_m : Msg := { src := 1, mbox := 6, inst := 7 }
def a6_9r : Staged := { page := 2, retried := true }
def a6_lane : LaneIn := { laneBad := true }
def v6_22 : State := { wCore with tiles := [(0, { tc := wTc, spm := wSpm, arr := { queue := [wPass], running := [wPassP] } })] }
def v6_23 : State := { wCore with tiles := [(0, { tc := wTc, spm := wSpm, arr := { running := [wPassP] } })] }
def v6_24 : State := { wCore with tiles := [(0, { tc := wTc, spm := { wSpm with memQ := [wMopBad] } })] }
def v6_25 : State := { v6_9 with sys := { ddrChanLost := [0, 1, 2, 3] } }
def v6_26 : State := { v6_10 with dram := { slotBase := 8192, slotCount := 8, slots := [(5, some a6_s5)] } }
def v6_27 : State := { v6_11 with tiles := [(0, { tc := wTc }), (1, { tc := { returned := [{ src := 1, mbox := 2, inst := 7 }] } })] }
def v6_28 : State := { wUp with crs := { wUp.crs with fence := 2#2 } }
def v6_29 : State := { v6_15 with sys := { ddrChanLost := [0, 1, 2, 3] } }
def v6_30 : State := { wCore with dram := { trained := true, staging := [{ page := 1, ready := true, subs := [{ tile := 0, inst := 7 }] }, { page := 2, ready := true, subs := [{ tile := 0, inst := 7 }] }] } }
def v6_31 : State := { wCore with dram := { flight := [{ inst := 7, page := 1 }, { inst := 7, page := 2, data := [1#8] }] } }
def v7_20 : State := { wHost with saf := { readmitAcc := true, readmitTile := 0, readmitT := 1500000 } }
def v7_22 : State := { w0 with sys := { straps := 0x20#32 } }
def v7_23 : State := { wHost with pcie := { l0 := true } }
def v7_24 : State := wInj { injState := .armed, injCode := 2 }
def v7_25 : State := wInj { injState := .armed, injCode := 4 }
def v7_26 : State := wInj { injState := .armed, injCode := 8 }
def v7_27 : State := wInj { injState := .armed, injCode := 9 }
def v7_28 : State := wInj { injState := .applied, injCode := 8 }
def a7_11 : HeaderIn := { primary := some wHead, primaryDir := some wDir, alternate := some wHead2, alternateDir := some wDir }
def wSafety : List Byte := [4#8, 0#8, 0#8, 0#8, 48#8, 0#8, 0#8, 0#8, 1#8] ++ List.replicate 9 0#8 ++ [1#8] ++ List.replicate 29 0#8
def a7_12 : DirEntry := { typ := 4, offset := 4096, length := 48, check := crc32c wSafety }
def a7_13 : SectionIn := { data := some wSafety }
def a8_5 : FlitIn := { crc := some 0#16, t := 1600000 }
def a8_l : Link := {}
def a8_l2 : Link := { sent := List.replicate 2048 {} }
def v8_32 : State := wLink { st := .up, nakFor := some 3#8 }
def v8_33 : State := wLink a8_l2
def v8_34 : State := wA wUp (wF [0#8]) 4
def v8_35 : State := wA wCapoUp (wF [0#8]) 4
def v8_37 : State := wLink { st := .up, linked := true, msgA := some [7#8] }
def v8_38 : State := wA v8_37 (wF []) 6
def v8_39 : State := wFull.modLink 1 fun l => { l with hold := List.replicate 8 {} }
def v8_40 : State := wA wUp (wF [0#8, 0#8, 2#8]) 8
def v8_41 : State := wA wUp (wF [0#8, 0#8, 2#8]) 9
def v8_42 : State := wLink { st := .up, pageNet := some (0, 2), pageData := List.replicate 16380 0#8 }
def v8_43 : State := wA v8_42 (wF []) 9
def v8_44 : State := { v8_42 with dram := { staging := [{ page := 2, remote := true }] } }
def v8_45 : State := wA v8_44 (wF []) 9
def v9_6 : State := { wH with hoist := { wH.hoist with service := false } }
def v9_7 : State := { wH with hoist := { wH.hoist with leakLatch := true, dryUs := 60000000 } }

/-! ## A witness for the hypotheses of each statement -/

/-- The hypotheses of O1 (StepRunsTheFrontCommand) are met, clause by clause. -/
theorem witness_StepRunsTheFrontCommand :
  w0.pending = [] := by
  decide +kernel

/-- The hypotheses of O7 (ScalarResults) are met, clause by clause. -/
theorem witness_ScalarResults :
  issues v1_1 a1_1.tile wI7 ∧ a1_1.env.ecc = 0 ∧
  a1_2.rb = 0#5 ∧ issues v1_1 a1_2.tile wI7 ∧ a1_2.env.ecc = 0 ∧
  a1_6.ra = 0#5 ∧ issues v1_8 a1_6.tile wI7 ∧ a1_6.env.ecc = 0 ∧
  bits (BitVec.toNat a1_7.imm) 15 5 = 0 ∧ issues v1_1 a1_7.tile wI7 ∧ a1_7.env.ecc = 0 ∧
  bits (BitVec.toNat a1_8.imm) 15 5 = 1 ∧ issues v1_1 a1_8.tile wI7 ∧ a1_8.env.ecc = 0 ∧
  bits (BitVec.toNat a1_9.imm) 15 5 = 2 ∧ issues v1_1 a1_9.tile wI7 ∧ a1_9.env.ecc = 0 ∧
  a1_10.rd = 0#5 ∧ a1_10.ra = 0#5 ∧ a1_10.rb = 0#5 ∧ issues v1_8 a1_10.tile wI7 ∧ a1_10.env.ecc = 0 := by
  repeat' apply And.intro
  all_goals decide +kernel

/-- The hypotheses of O8 (ContextReadsAndBranches) are met, clause by clause. -/
theorem witness_ContextReadsAndBranches :
  issues v1_8 a1_11.tile wI7 ∧ a1_11.env.ecc = 0 ∧ a1_11.ra = 0#5 ∧ BitVec.toNat a1_11.imm = 0 ∧
  issues v1_8 a1_12.tile wI7 ∧ a1_12.env.ecc = 0 ∧ a1_12.ra = 0#5 ∧ BitVec.toNat a1_12.imm = 1 ∧
  issues v1_8 a1_13.tile wI7 ∧ a1_13.env.ecc = 0 ∧ a1_13.ra = 0#5 ∧ BitVec.toNat a1_13.imm = 16 ∧
  issues v1_8 a1_14.tile wI7 ∧ a1_14.env.ecc = 0 ∧ a1_14.ra = 0#5 ∧ BitVec.toNat a1_14.imm = 17 ∧
  issues v1_8 a1_15.tile wI7 ∧ a1_15.env.ecc = 0 ∧ a1_15.ra = 0#5 ∧ BitVec.toNat a1_15.imm = 18 ∧
  issues v1_8 a1_16.tile wI7 ∧ a1_16.env.ecc = 0 ∧ a1_16.ra = 0#5 ∧ BitVec.toNat a1_16.imm = 19 ∧
  issues v1_8 a1_17.tile wI7 ∧ a1_17.env.ecc = 0 ∧ a1_17.ra = 0#5 ∧ BitVec.toNat a1_17.imm = 20 ∧
  issues v1_8 a1_18.tile wI7 ∧ a1_18.env.ecc = 0 ∧ a1_18.ra = 0#5 ∧ BitVec.toNat a1_18.imm = 21 ∧
  issues v1_8 a1_19.tile wI7 ∧ a1_19.env.ecc = 0 ∧ a1_19.ra = 0#5 ∧ BitVec.toNat a1_19.imm = 22 ∧
  issues v1_8 a1_20.tile wI7 ∧ a1_20.env.ecc = 0 ∧ a1_20.ra = 0#5 ∧ BitVec.toNat a1_20.imm = 23 ∧
  issues v1_8 a1_21.tile wI7 ∧ a1_21.env.ecc = 0 ∧ a1_21.ra = 0#5 ∧ BitVec.toNat a1_21.imm = 24 ∧
  issues v1_8 a1_22.tile wI7 ∧ a1_22.env.ecc = 0 ∧ a1_22.ra = 0#5 ∧ BitVec.toNat a1_22.imm = 25 ∧
  issues v1_8 a1_23.tile wI7 ∧ a1_23.env.ecc = 0 ∧ a1_23.ra = 0#5 ∧ BitVec.toNat a1_23.imm = 48 ∧
  issues v1_8 a1_24.tile wI7 ∧ a1_24.env.ecc = 0 ∧ a1_24.ra = 0#5 ∧ 48 < 49 ∧ BitVec.toNat a1_24.imm = 49 ∧
  issues v1_1 a1_25.tile wI7 ∧ a1_25.env.ecc = 0 ∧
  issues v1_10 a1_27.tile wI7 ∧ a1_27.env.ecc = 0 ∧ BitVec.toNat ((v1_10.tile a1_27.tile).tc.sreg a1_27.ra + BitVec.signExtend 32 a1_27.imm) % 4 = 0 ∧
  issues v1_11 a1_27.tile wI7 ∧ a1_27.env.ecc = 0 ∧ BitVec.toNat ((v1_11.tile a1_27.tile).tc.sreg a1_27.ra + BitVec.signExtend 32 a1_27.imm) % 4 ≠ 0 ∧
  issues v1_8 a1_32c.tile wI7 ∧ a1_32c.env.ecc = 0 ∧ a1_32c.ra = 0#5 ∧ BitVec.toNat a1_32c.imm = 32 ∧
  issues v1_8 a1_33c.tile wI7 ∧ a1_33c.env.ecc = 0 ∧ a1_33c.ra = 0#5 ∧ BitVec.toNat a1_33c.imm = 33 ∧
  issues v1_13 a1_25.tile wI7 ∧ a1_25.env.ecc = 0 ∧ (v1_13.tile a1_25.tile).tc.sreg a1_25.ra = (v1_13.tile a1_25.tile).tc.sreg a1_25.rb ∧
  issues v1_8 a1_25.tile wI7 ∧ a1_25.env.ecc = 0 ∧ ¬(v1_8.tile a1_25.tile).tc.sreg a1_25.ra = (v1_8.tile a1_25.tile).tc.sreg a1_25.rb ∧
  issues v1_8 a1_25.tile wI7 ∧ a1_25.env.ecc = 0 ∧ (v1_8.tile a1_25.tile).tc.sreg a1_25.ra ≠ (v1_8.tile a1_25.tile).tc.sreg a1_25.rb ∧
  issues v1_13 a1_25.tile wI7 ∧ a1_25.env.ecc = 0 ∧ ¬(v1_13.tile a1_25.tile).tc.sreg a1_25.ra ≠ (v1_13.tile a1_25.tile).tc.sreg a1_25.rb ∧
  issues v1_8 a1_25.tile wI7 ∧ a1_25.env.ecc = 0 ∧ BitVec.toInt ((v1_8.tile a1_25.tile).tc.sreg a1_25.ra) < BitVec.toInt ((v1_8.tile a1_25.tile).tc.sreg a1_25.rb) ∧
  issues v1_13 a1_25.tile wI7 ∧ a1_25.env.ecc = 0 ∧ ¬BitVec.toInt ((v1_13.tile a1_25.tile).tc.sreg a1_25.ra) < BitVec.toInt ((v1_13.tile a1_25.tile).tc.sreg a1_25.rb) ∧
  issues v1_13 a1_25.tile wI7 ∧ a1_25.env.ecc = 0 ∧ BitVec.toInt ((v1_13.tile a1_25.tile).tc.sreg a1_25.rb) ≤ BitVec.toInt ((v1_13.tile a1_25.tile).tc.sreg a1_25.ra) ∧
  issues v1_8 a1_25.tile wI7 ∧ a1_25.env.ecc = 0 ∧ ¬BitVec.toInt ((v1_8.tile a1_25.tile).tc.sreg a1_25.rb) ≤ BitVec.toInt ((v1_8.tile a1_25.tile).tc.sreg a1_25.ra) ∧
  issues v1_8 a1_25.tile wI7 ∧ a1_25.env.ecc = 0 ∧ BitVec.toNat ((v1_8.tile a1_25.tile).tc.sreg a1_25.ra) < BitVec.toNat ((v1_8.tile a1_25.tile).tc.sreg a1_25.rb) ∧
  issues v1_13 a1_25.tile wI7 ∧ a1_25.env.ecc = 0 ∧ ¬BitVec.toNat ((v1_13.tile a1_25.tile).tc.sreg a1_25.ra) < BitVec.toNat ((v1_13.tile a1_25.tile).tc.sreg a1_25.rb) ∧
  issues v1_13 a1_25.tile wI7 ∧ a1_25.env.ecc = 0 ∧ BitVec.toNat ((v1_13.tile a1_25.tile).tc.sreg a1_25.rb) ≤ BitVec.toNat ((v1_13.tile a1_25.tile).tc.sreg a1_25.ra) ∧
  issues v1_8 a1_25.tile wI7 ∧ a1_25.env.ecc = 0 ∧ ¬BitVec.toNat ((v1_8.tile a1_25.tile).tc.sreg a1_25.rb) ≤ BitVec.toNat ((v1_8.tile a1_25.tile).tc.sreg a1_25.ra) ∧
  issues v1_8 a1_34j.tile wI7 ∧ a1_34j.env.ecc = 0 := by
  repeat' apply And.intro
  all_goals decide +kernel

/-- The hypotheses of O9 (VectorElementResults) are met, clause by clause. -/
theorem witness_VectorElementResults :
  a1_28.w ≠ 3#2 ∧ (a1_28.m = true ∨ a1_28.pg = 0#2) ∧ issues v1_8 a1_28.tile wI7 ∧ a1_28.env.ecc = 0 ∧
  a1_34.w ≠ 3#2 ∧ (a1_34.m = true ∨ a1_34.pg = 0#2) ∧ a1_34.vb = 0#4 ∧ issues v1_8 a1_34.tile wI7 ∧ a1_34.env.ecc = 0 ∧
  a1_28.w ≠ 3#2 ∧ a1_28.m = true ∧ issues v1_8 a1_28.tile wI7 ∧ a1_28.env.ecc = 0 ∧
  floatW a1_28.w = some fp16 ∧ (a1_28.m = true ∨ a1_28.pg = 0#2) ∧ issues v1_8 a1_28.tile wI7 ∧ a1_28.env.ecc = 0 ∧
  floatW a1_30.w = some bf16 ∧ (a1_30.m = true ∨ a1_30.pg = 0#2) ∧ issues v1_8 a1_30.tile wI7 ∧ a1_30.env.ecc = 0 ∧
  floatW a1_32.w = some fp32 ∧ (a1_32.m = true ∨ a1_32.pg = 0#2) ∧ issues v1_8 a1_32.tile wI7 ∧ a1_32.env.ecc = 0 ∧
  floatW a1_40.w = some fp16 ∧ (a1_40.m = true ∨ a1_40.pg = 0#2) ∧ a1_40.vb = 0#4 ∧ issues v1_8 a1_40.tile wI7 ∧ a1_40.env.ecc = 0 ∧
  floatW a1_42.w = some bf16 ∧ (a1_42.m = true ∨ a1_42.pg = 0#2) ∧ a1_42.vb = 0#4 ∧ issues v1_8 a1_42.tile wI7 ∧ a1_42.env.ecc = 0 ∧
  floatW a1_44.w = some fp32 ∧ (a1_44.m = true ∨ a1_44.pg = 0#2) ∧ a1_44.vb = 0#4 ∧ issues v1_8 a1_44.tile wI7 ∧ a1_44.env.ecc = 0 := by
  repeat' apply And.intro
  all_goals decide +kernel

/-- The hypotheses of O10 (ComparisonsConversionsAndPermutes) are met, clause by clause. -/
theorem witness_ComparisonsConversionsAndPermutes :
  a1_28.w ≠ 3#2 ∧ (a1_28.m = true ∨ a1_28.pg = 0#2) ∧ a1_28.vd.toNat < 4 ∧ a1_28.fn.toNat ≤ 5 ∧ issues v1_8 a1_28.tile wI7 ∧ a1_28.env.ecc = 0 ∧
  floatW a1_61.w = some fp16 ∧ (a1_61.m = true ∨ a1_61.pg = 0#2) ∧ a1_61.vd.toNat < 4 ∧ 8 ≤ a1_61.fn.toNat ∧ a1_61.fn.toNat ≤ 10 ∧ issues v1_8 a1_61.tile wI7 ∧ a1_61.env.ecc = 0 ∧
  floatW a1_64.w = some bf16 ∧ (a1_64.m = true ∨ a1_64.pg = 0#2) ∧ a1_64.vd.toNat < 4 ∧ 8 ≤ a1_64.fn.toNat ∧ a1_64.fn.toNat ≤ 10 ∧ issues v1_8 a1_64.tile wI7 ∧ a1_64.env.ecc = 0 ∧
  floatW a1_67.w = some fp32 ∧ (a1_67.m = true ∨ a1_67.pg = 0#2) ∧ a1_67.vd.toNat < 4 ∧ 8 ≤ a1_67.fn.toNat ∧ a1_67.fn.toNat ≤ 10 ∧ issues v1_8 a1_67.tile wI7 ∧ a1_67.env.ecc = 0 ∧
  a1_34.w = 0#2 ∧ (a1_34.m = true ∨ a1_34.pg = 0#2) ∧ (a1_34.vb = 0#4 ∨ a1_34.fn ∈ [4#9, 5#9, 10#9, 13#9]) ∧ (∀ (x y : VReg), convert a1_34.fn.toNat x y = some (((convert 0 0 0).getD (1, [])).1, ((convert 0 x y).getD (1, [])).2)) ∧ issues v1_8 a1_34.tile wI7 ∧ a1_34.env.ecc = 0 ∧
  a1_28.w = 0#2 ∧ (a1_28.m = true ∨ a1_28.pg = 0#2) ∧ issues v1_8 a1_28.tile wI7 ∧ a1_28.env.ecc = 0 ∧
  a1_34.w ≠ 3#2 ∧ a1_34.m = true ∧ a1_34.vb = 0#4 ∧ issues v1_8 a1_34.tile wI7 ∧ a1_34.env.ecc = 0 ∧
  a1_38.w = 2#2 ∧ (a1_38.m = true ∨ a1_38.pg = 0#2) ∧ a1_38.vb = 0#4 ∧ issues v1_8 a1_38.tile wI7 ∧ a1_38.env.ecc = 0 ∧
  a1_32.w = 2#2 ∧ (a1_32.m = true ∨ a1_32.pg = 0#2) ∧ issues v1_8 a1_32.tile wI7 ∧ a1_32.env.ecc = 0 := by
  repeat' apply And.intro
  all_goals first | exact fun _ _ => rfl | decide +kernel

/-- The hypotheses of O12 (VectorScalarAndPredicateResults) are met, clause by clause. -/
theorem witness_VectorScalarAndPredicateResults :
  (a1_82.w ≠ 3#2 ∧ a1_82.v2 = 0#4 ∧ (a1_82.m = true ∨ a1_82.pg = 0#2)) ∧ issues v1_12 a1_82.tile wI7 ∧ a1_82.env.ecc = 0 ∧
  a1_83.w ≠ 3#2 ∧ a1_83.v2 = 0#4 ∧ a1_83.m = false ∧ a1_83.pg = 0#2 ∧ issues v1_8 a1_83.tile wI7 ∧ a1_83.env.ecc = 0 ∧
  a1_85.w ≠ 3#2 ∧ a1_85.m = true ∧ a1_85.v1 = 0#4 ∧ a1_85.v2 = 0#4 ∧ issues v1_8 a1_85.tile wI7 ∧ a1_85.env.ecc = 0 ∧
  a1_94.rd.toNat < 4 ∧ a1_94.ra.toNat < 4 ∧ a1_94.rb.toNat < 4 ∧ issues v1_8 a1_94.tile wI7 ∧ a1_94.env.ecc = 0 ∧
  a1_2.rd.toNat < 4 ∧ a1_2.ra.toNat < 4 ∧ a1_2.rb = 0#5 ∧ issues v1_8 a1_2.tile wI7 ∧ a1_2.env.ecc = 0 ∧
  a1_95.rd.toNat < 8 ∧ a1_95.rb = 0#5 ∧ issues v1_8 a1_95.tile wI7 ∧ a1_95.env.ecc = 0 ∧
  a1_2.rd.toNat < 4 ∧ a1_2.rb = 0#5 := by
  repeat' apply And.intro
  all_goals decide +kernel

/-- The hypotheses of O13 (LoadResults) are met, clause by clause. -/
theorem witness_LoadResults :
  issues v2_1 a2_1.tile wI7 ∧ a2_1.env.ecc = 0 ∧ a2_1.env.dataEcc = 0 ∧ BitVec.toNat ((v2_1.tile a2_1.tile).tc.sreg a2_1.ra + BitVec.signExtend 32 a2_1.imm) % 1 = 0 ∧ access v2_1 a2_1.tile wI7 ((v2_1.tile a2_1.tile).tc.bind a2_1.h).1 (BitVec.toNat ((v2_1.tile a2_1.tile).tc.sreg a2_1.ra + BitVec.signExtend 32 a2_1.imm)) 1 false = Except.ok [1024] ∧
  issues v2_1 a2_1.tile wI7 ∧ a2_1.env.ecc = 0 ∧ a2_1.env.dataEcc = 0 ∧ BitVec.toNat ((v2_1.tile a2_1.tile).tc.sreg a2_1.ra + BitVec.signExtend 32 a2_1.imm) % 2 = 0 ∧ access v2_1 a2_1.tile wI7 ((v2_1.tile a2_1.tile).tc.bind a2_1.h).1 (BitVec.toNat ((v2_1.tile a2_1.tile).tc.sreg a2_1.ra + BitVec.signExtend 32 a2_1.imm)) 2 false = Except.ok [1024, 1025] ∧
  issues v2_2 a2_1.tile wI7 ∧ a2_1.env.ecc = 0 ∧ a2_1.env.dataEcc = 0 ∧ BitVec.toNat ((v2_2.tile a2_1.tile).tc.sreg a2_1.ra + BitVec.signExtend 32 a2_1.imm) % 2 ≠ 0 ∧
  issues v2_1 a2_1.tile wI7 ∧ a2_1.env.ecc = 0 ∧ a2_1.env.dataEcc = 0 ∧ BitVec.toNat ((v2_1.tile a2_1.tile).tc.sreg a2_1.ra + BitVec.signExtend 32 a2_1.imm) % 4 = 0 ∧ access v2_1 a2_1.tile wI7 ((v2_1.tile a2_1.tile).tc.bind a2_1.h).1 (BitVec.toNat ((v2_1.tile a2_1.tile).tc.sreg a2_1.ra + BitVec.signExtend 32 a2_1.imm)) 4 false = Except.ok [1024, 1025, 1026, 1027] ∧
  issues v2_2 a2_1.tile wI7 ∧ a2_1.env.ecc = 0 ∧ a2_1.env.dataEcc = 0 ∧ BitVec.toNat ((v2_2.tile a2_1.tile).tc.sreg a2_1.ra + BitVec.signExtend 32 a2_1.imm) % 4 ≠ 0 ∧
  issues v2_3 a2_2.tile wI7 ∧ a2_2.env.ecc = 0 ∧ a2_2.env.dataEcc = 0 ∧ a2_2.rd.getLsbD 0 = false ∧ bits a2_2.imm.toNat 4 0 = 0 ∧ BitVec.toNat ((v2_3.tile a2_2.tile).tc.sreg a2_2.ra + BitVec.signExtend 32 a2_2.imm) % 32 = 0 ∧ access v2_3 a2_2.tile wI7 ((v2_3.tile a2_2.tile).tc.bind a2_2.h).1 (BitVec.toNat ((v2_3.tile a2_2.tile).tc.sreg a2_2.ra + BitVec.signExtend 32 a2_2.imm)) 32 false = Except.ok ((List.range 32).map (1024 + ·)) ∧
  issues v2_4 a2_2.tile wI7 ∧ a2_2.env.ecc = 0 ∧ a2_2.env.dataEcc = 0 ∧ a2_2.rd.getLsbD 0 = false ∧ bits a2_2.imm.toNat 4 0 = 0 ∧ BitVec.toNat ((v2_4.tile a2_2.tile).tc.sreg a2_2.ra + BitVec.signExtend 32 a2_2.imm) % 32 ≠ 0 := by
  repeat' apply And.intro
  all_goals first | exact eq_ok (by decide +kernel) | decide +kernel

/-- The hypotheses of O14 (StoreResults) are met, clause by clause. -/
theorem witness_StoreResults :
  issues v2_5 a2_3.tile wI7 ∧ a2_3.env.ecc = 0 ∧ a2_3.env.dataEcc = 0 ∧ BitVec.toNat ((v2_5.tile a2_3.tile).tc.sreg a2_3.ra + BitVec.signExtend 32 a2_3.imm) % 1 = 0 ∧ access v2_5 a2_3.tile wI7 ((v2_5.tile a2_3.tile).tc.bind a2_3.h).1 (BitVec.toNat ((v2_5.tile a2_3.tile).tc.sreg a2_3.ra + BitVec.signExtend 32 a2_3.imm)) 1 true = Except.ok [1024] ∧ [1024].Nodup ∧
  issues v2_5 a2_4.tile wI7 ∧ a2_4.env.ecc = 0 ∧ a2_4.env.dataEcc = 0 ∧ BitVec.toNat ((v2_5.tile a2_4.tile).tc.sreg a2_4.ra + BitVec.signExtend 32 a2_4.imm) % 1 = 0 ∧ access v2_5 a2_4.tile wI7 ((v2_5.tile a2_4.tile).tc.bind a2_4.h).1 (BitVec.toNat ((v2_5.tile a2_4.tile).tc.sreg a2_4.ra + BitVec.signExtend 32 a2_4.imm)) 1 true = Except.ok [1024] ∧ [1024].Nodup ∧
  issues v2_5 a2_3.tile wI7 ∧ a2_3.env.ecc = 0 ∧ a2_3.env.dataEcc = 0 ∧ BitVec.toNat ((v2_5.tile a2_3.tile).tc.sreg a2_3.ra + BitVec.signExtend 32 a2_3.imm) % 2 = 0 ∧ access v2_5 a2_3.tile wI7 ((v2_5.tile a2_3.tile).tc.bind a2_3.h).1 (BitVec.toNat ((v2_5.tile a2_3.tile).tc.sreg a2_3.ra + BitVec.signExtend 32 a2_3.imm)) 2 true = Except.ok [1024, 1025] ∧ [1024, 1025].Nodup ∧
  issues v2_5 a2_4.tile wI7 ∧ a2_4.env.ecc = 0 ∧ a2_4.env.dataEcc = 0 ∧ BitVec.toNat ((v2_5.tile a2_4.tile).tc.sreg a2_4.ra + BitVec.signExtend 32 a2_4.imm) % 2 = 0 ∧ access v2_5 a2_4.tile wI7 ((v2_5.tile a2_4.tile).tc.bind a2_4.h).1 (BitVec.toNat ((v2_5.tile a2_4.tile).tc.sreg a2_4.ra + BitVec.signExtend 32 a2_4.imm)) 2 true = Except.ok [1024, 1025] ∧ [1024, 1025].Nodup ∧
  issues v2_5 a2_3.tile wI7 ∧ a2_3.env.ecc = 0 ∧ a2_3.env.dataEcc = 0 ∧ BitVec.toNat ((v2_5.tile a2_3.tile).tc.sreg a2_3.ra + BitVec.signExtend 32 a2_3.imm) % 4 = 0 ∧ access v2_5 a2_3.tile wI7 ((v2_5.tile a2_3.tile).tc.bind a2_3.h).1 (BitVec.toNat ((v2_5.tile a2_3.tile).tc.sreg a2_3.ra + BitVec.signExtend 32 a2_3.imm)) 4 true = Except.ok [1024, 1025, 1026, 1027] ∧ [1024, 1025, 1026, 1027].Nodup ∧
  issues v2_5 a2_4.tile wI7 ∧ a2_4.env.ecc = 0 ∧ a2_4.env.dataEcc = 0 ∧ BitVec.toNat ((v2_5.tile a2_4.tile).tc.sreg a2_4.ra + BitVec.signExtend 32 a2_4.imm) % 4 = 0 ∧ access v2_5 a2_4.tile wI7 ((v2_5.tile a2_4.tile).tc.bind a2_4.h).1 (BitVec.toNat ((v2_5.tile a2_4.tile).tc.sreg a2_4.ra + BitVec.signExtend 32 a2_4.imm)) 4 true = Except.ok [1024, 1025, 1026, 1027] ∧ [1024, 1025, 1026, 1027].Nodup ∧
  issues v2_3 a2_5.tile wI7 ∧ a2_5.env.ecc = 0 ∧ a2_5.env.dataEcc = 0 ∧ (a2_5.rd.getLsbD 0 = false ∧ bits a2_5.imm.toNat 4 3 = 0 ∧ (a2_5.imm.getLsbD 2 = true ∨ bits a2_5.imm.toNat 1 0 = 0)) ∧ BitVec.toNat ((v2_3.tile a2_5.tile).tc.sreg a2_5.ra + BitVec.signExtend 32 (a2_5.imm &&& 8160#13)) % 32 = 0 ∧ access v2_3 a2_5.tile wI7 ((v2_3.tile a2_5.tile).tc.bind a2_5.h).1 (BitVec.toNat ((v2_3.tile a2_5.tile).tc.sreg a2_5.ra + BitVec.signExtend 32 (a2_5.imm &&& 8160#13))) 32 true = Except.ok ((List.range 32).map (1024 + ·)) ∧ ((List.range 32).map (1024 + ·)).Nodup ∧
  issues v2_3 a2_6.tile wI7 ∧ a2_6.env.ecc = 0 ∧ a2_6.env.dataEcc = 0 ∧ (a2_6.rd.getLsbD 0 = false ∧ bits a2_6.imm.toNat 4 3 = 0 ∧ (a2_6.imm.getLsbD 2 = true ∨ bits a2_6.imm.toNat 1 0 = 0)) ∧ BitVec.toNat ((v2_3.tile a2_6.tile).tc.sreg a2_6.ra + BitVec.signExtend 32 (a2_6.imm &&& 8160#13)) % 32 = 0 ∧ access v2_3 a2_6.tile wI7 ((v2_3.tile a2_6.tile).tc.bind a2_6.h).1 (BitVec.toNat ((v2_3.tile a2_6.tile).tc.sreg a2_6.ra + BitVec.signExtend 32 (a2_6.imm &&& 8160#13))) 32 true = Except.ok ((List.range 32).map (1024 + ·)) ∧ ((List.range 32).map (1024 + ·)).Nodup ∧
  issues v2_3 a2_2.tile wI7 ∧ a2_2.env.ecc = 0 ∧ a2_2.env.dataEcc = 0 ∧ (a2_2.rd.getLsbD 0 = false ∧ bits a2_2.imm.toNat 4 3 = 0 ∧ (a2_2.imm.getLsbD 2 = true ∨ bits a2_2.imm.toNat 1 0 = 0)) ∧ BitVec.toNat ((v2_3.tile a2_2.tile).tc.sreg a2_2.ra + BitVec.signExtend 32 (a2_2.imm &&& 8160#13)) % 32 = 0 ∧ access v2_3 a2_2.tile wI7 ((v2_3.tile a2_2.tile).tc.bind a2_2.h).1 (BitVec.toNat ((v2_3.tile a2_2.tile).tc.sreg a2_2.ra + BitVec.signExtend 32 (a2_2.imm &&& 8160#13))) 32 true = Except.ok ((List.range 32).map (1024 + ·)) ∧ ((List.range 32).map (1024 + ·)).Nodup := by
  repeat' apply And.intro
  all_goals first | exact eq_ok (by decide +kernel) | decide +kernel

/-- The hypotheses of O15 (GatherResults) are met, clause by clause. -/
theorem witness_GatherResults :
  issues v2_6 a2_7.tile wI7 ∧ a2_7.env.ecc = 0 ∧ a2_7.env.dataEcc = 0 ∧ a2_7.w ≠ 3#2 ∧ BitVec.toNat ((v2_6.tile a2_7.tile).tc.sreg a2_7.ra) % 2 ^ a2_7.w.toNat = 0 ∧ BitVec.toNat ((v2_6.tile a2_7.tile).tc.sreg a2_7.rb) % 2 ^ a2_7.w.toNat = 0 ∧ (List.mapM (fun o => access v2_6 a2_7.tile wI7 ((v2_6.tile a2_7.tile).tc.bind a2_7.h).1 o (2 ^ a2_7.w.toNat) false) (List.map (fun k => (BitVec.toNat ((v2_6.tile a2_7.tile).tc.sreg a2_7.ra) + k * BitVec.toNat ((v2_6.tile a2_7.tile).tc.sreg a2_7.rb)) % 2 ^ 32) (List.range (if 2 ^ a2_7.w.toNat = 4 then 8 else 16))) = Except.ok [[1024], [1032], [1040], [1048], [1056], [1064], [1072], [1080], [1088], [1096], [1104], [1112], [1120], [1128], [1136], [1144]]) ∧
  issues v2_7 a2_7.tile wI7 ∧ a2_7.env.ecc = 0 ∧ a2_7.env.dataEcc = 0 ∧ a2_7.w ≠ 3#2 ∧ BitVec.toNat ((v2_7.tile a2_7.tile).tc.sreg a2_7.ra) % 2 ^ a2_7.w.toNat = 0 ∧ 1 ≤ BitVec.toNat ((v2_7.tile a2_7.tile).tc.sreg a2_7.rb) ∧ BitVec.toNat ((v2_7.tile a2_7.tile).tc.sreg a2_7.rb) ≤ 64 ∧ (List.mapM (fun o => access v2_7 a2_7.tile wI7 ((v2_7.tile a2_7.tile).tc.bind a2_7.h).1 o (2 ^ a2_7.w.toNat) false) (List.map (fun k => (BitVec.toNat ((v2_7.tile a2_7.tile).tc.sreg a2_7.ra) + k * (BitVec.toNat ((v2_7.tile a2_7.tile).tc.sreg a2_7.rb) * 2 ^ a2_7.w.toNat)) % 2 ^ 32) (List.range (32 / 2 ^ a2_7.w.toNat))) = Except.ok [[1024], [1027], [1030], [1033], [1036], [1039], [1042], [1045], [1048], [1051], [1054], [1057], [1060], [1063], [1066], [1069], [1072], [1075], [1078], [1081], [1084], [1087], [1090], [1093], [1096], [1099], [1102], [1105], [1108], [1111], [1114], [1117]]) ∧
  issues v2_6 a2_8.tile wI7 ∧ a2_8.env.ecc = 0 ∧ a2_8.env.dataEcc = 0 ∧ a2_8.w ≠ 3#2 ∧ BitVec.toNat ((v2_6.tile a2_8.tile).tc.sreg a2_8.ra) % 2 ^ a2_8.w.toNat = 0 ∧ BitVec.toNat ((v2_6.tile a2_8.tile).tc.sreg a2_8.rb) % 2 ^ a2_8.w.toNat = 0 ∧ (List.mapM (fun o => access v2_6 a2_8.tile wI7 ((v2_6.tile a2_8.tile).tc.bind a2_8.h).1 o (2 ^ a2_8.w.toNat) false) (List.map (fun k => (BitVec.toNat ((v2_6.tile a2_8.tile).tc.sreg a2_8.ra) + k * BitVec.toNat ((v2_6.tile a2_8.tile).tc.sreg a2_8.rb)) % 2 ^ 32) (List.range (if 2 ^ a2_8.w.toNat = 4 then 8 else 16))) = Except.ok [[1024, 1025], [1032, 1033], [1040, 1041], [1048, 1049], [1056, 1057], [1064, 1065], [1072, 1073], [1080, 1081], [1088, 1089], [1096, 1097], [1104, 1105], [1112, 1113], [1120, 1121], [1128, 1129], [1136, 1137], [1144, 1145]]) ∧
  issues v2_7 a2_8.tile wI7 ∧ a2_8.env.ecc = 0 ∧ a2_8.env.dataEcc = 0 ∧ a2_8.w ≠ 3#2 ∧ BitVec.toNat ((v2_7.tile a2_8.tile).tc.sreg a2_8.ra) % 2 ^ a2_8.w.toNat = 0 ∧ 1 ≤ BitVec.toNat ((v2_7.tile a2_8.tile).tc.sreg a2_8.rb) ∧ BitVec.toNat ((v2_7.tile a2_8.tile).tc.sreg a2_8.rb) ≤ 64 ∧ (List.mapM (fun o => access v2_7 a2_8.tile wI7 ((v2_7.tile a2_8.tile).tc.bind a2_8.h).1 o (2 ^ a2_8.w.toNat) false) (List.map (fun k => (BitVec.toNat ((v2_7.tile a2_8.tile).tc.sreg a2_8.ra) + k * (BitVec.toNat ((v2_7.tile a2_8.tile).tc.sreg a2_8.rb) * 2 ^ a2_8.w.toNat)) % 2 ^ 32) (List.range (32 / 2 ^ a2_8.w.toNat))) = Except.ok [[1024, 1025], [1030, 1031], [1036, 1037], [1042, 1043], [1048, 1049], [1054, 1055], [1060, 1061], [1066, 1067], [1072, 1073], [1078, 1079], [1084, 1085], [1090, 1091], [1096, 1097], [1102, 1103], [1108, 1109], [1114, 1115]]) ∧
  issues v2_6 a2_9.tile wI7 ∧ a2_9.env.ecc = 0 ∧ a2_9.env.dataEcc = 0 ∧ a2_9.w ≠ 3#2 ∧ BitVec.toNat ((v2_6.tile a2_9.tile).tc.sreg a2_9.ra) % 2 ^ a2_9.w.toNat = 0 ∧ BitVec.toNat ((v2_6.tile a2_9.tile).tc.sreg a2_9.rb) % 2 ^ a2_9.w.toNat = 0 ∧ (List.mapM (fun o => access v2_6 a2_9.tile wI7 ((v2_6.tile a2_9.tile).tc.bind a2_9.h).1 o (2 ^ a2_9.w.toNat) false) (List.map (fun k => (BitVec.toNat ((v2_6.tile a2_9.tile).tc.sreg a2_9.ra) + k * BitVec.toNat ((v2_6.tile a2_9.tile).tc.sreg a2_9.rb)) % 2 ^ 32) (List.range (if 2 ^ a2_9.w.toNat = 4 then 8 else 16))) = Except.ok [[1024, 1025, 1026, 1027], [1032, 1033, 1034, 1035], [1040, 1041, 1042, 1043], [1048, 1049, 1050, 1051], [1056, 1057, 1058, 1059], [1064, 1065, 1066, 1067], [1072, 1073, 1074, 1075], [1080, 1081, 1082, 1083]]) ∧
  issues v2_7 a2_9.tile wI7 ∧ a2_9.env.ecc = 0 ∧ a2_9.env.dataEcc = 0 ∧ a2_9.w ≠ 3#2 ∧ BitVec.toNat ((v2_7.tile a2_9.tile).tc.sreg a2_9.ra) % 2 ^ a2_9.w.toNat = 0 ∧ 1 ≤ BitVec.toNat ((v2_7.tile a2_9.tile).tc.sreg a2_9.rb) ∧ BitVec.toNat ((v2_7.tile a2_9.tile).tc.sreg a2_9.rb) ≤ 64 ∧ (List.mapM (fun o => access v2_7 a2_9.tile wI7 ((v2_7.tile a2_9.tile).tc.bind a2_9.h).1 o (2 ^ a2_9.w.toNat) false) (List.map (fun k => (BitVec.toNat ((v2_7.tile a2_9.tile).tc.sreg a2_9.ra) + k * (BitVec.toNat ((v2_7.tile a2_9.tile).tc.sreg a2_9.rb) * 2 ^ a2_9.w.toNat)) % 2 ^ 32) (List.range (32 / 2 ^ a2_9.w.toNat))) = Except.ok [[1024, 1025, 1026, 1027], [1036, 1037, 1038, 1039], [1048, 1049, 1050, 1051], [1060, 1061, 1062, 1063], [1072, 1073, 1074, 1075], [1084, 1085, 1086, 1087], [1096, 1097, 1098, 1099], [1108, 1109, 1110, 1111]]) ∧
  issues v2_7 a2_10.tile wI7 ∧ a2_10.env.ecc = 0 ∧ a2_10.env.dataEcc = 0 ∧ a2_10.w = 0#2 ∧ (a2_10.m = true ∨ a2_10.pg = 0#2) ∧ bits (BitVec.toNat ((v2_7.tile a2_10.tile).tc.sreg a2_10.rs)) 7 3 = 0 ∧ access v2_7 a2_10.tile wI7 ((v2_7.tile a2_10.tile).tc.bind (BitVec.ofNat 3 (BitVec.toNat ((v2_7.tile a2_10.tile).tc.sreg a2_10.rs)))).1 (BitVec.toNat ((v2_7.tile a2_10.tile).tc.sreg a2_10.rs) / 256 * 256) 256 false = Except.ok ((List.range 256).map (1024 + ·)) := by
  repeat' apply And.intro
  all_goals first | exact eq_ok (by decide +kernel) | decide +kernel

/-- The hypotheses of O16 (WatchdogWaitAndHalt) are met, clause by clause. -/
theorem witness_WatchdogWaitAndHalt :
  issues v2_8 a2_11.tile wI7 ∧ a2_11.env.ecc = 0 ∧ BitVec.toNat ((v2_8.tile a2_11.tile).tc.sreg a2_11.ra) < BitVec.toNat ((v2_8.tile a2_11.tile).tc.sreg a2_11.rb) ∧ (dispatchWindow v2_8 wI7 a2_11.tile).1 ≤ BitVec.toNat ((v2_8.tile a2_11.tile).tc.sreg a2_11.ra) ∧ BitVec.toNat ((v2_8.tile a2_11.tile).tc.sreg a2_11.rb) ≤ (dispatchWindow v2_8 wI7 a2_11.tile).2 ∧
  issues v2_9 a2_12.tile wI7 ∧ a2_12.env.ecc = 0 ∧ BitVec.toNat ((v2_9.tile a2_12.tile).tc.sreg a2_12.ra) < BitVec.toNat ((v2_9.tile a2_12.tile).tc.sreg a2_12.rb) ∧ (dispatchWindow v2_9 wI7 a2_12.tile).1 ≤ BitVec.toNat ((v2_9.tile a2_12.tile).tc.sreg a2_12.ra) ∧ BitVec.toNat ((v2_9.tile a2_12.tile).tc.sreg a2_12.rb) ≤ (dispatchWindow v2_9 wI7 a2_12.tile).2 ∧
  a2_13.rd = 0#5 ∧ a2_13.ra = 0#5 ∧ a2_13.rb = 0#5 ∧ issues v2_9 a2_13.tile wI7 ∧ a2_13.env.ecc = 0 ∧
  issues v2_10 a2_12.tile wI7 ∧ a2_12.env.ecc = 0 ∧ a2_12.rb.toNat ≤ 3 ∧ BitVec.toNat (((v2_10.tile a2_12.tile).tc.tk a2_12.rb.toNat).completed - BitVec.setWidth 16 ((v2_10.tile a2_12.tile).tc.sreg a2_12.ra)) < 32768 ∧ ((v2_10.tile a2_12.tile).tc.tk a2_12.rb.toNat).notIssued (BitVec.setWidth 16 ((v2_10.tile a2_12.tile).tc.sreg a2_12.ra)) = false ∧
  issues v2_11 a2_13.tile wI7 ∧ a2_13.env.ecc = 0 ∧ a2_13.rd = 0#5 ∧ a2_13.ra = 0#5 ∧ a2_13.rb = 0#5 ∧ (v2_11.tile a2_13.tile).tc.digOpen = none ∧ (∀ u ≤ 3, ((v2_11.tile a2_13.tile).tc.tk u).issued = ((v2_11.tile a2_13.tile).tc.tk u).completed) ∧
  issues v2_12 a2_13.tile wI7 ∧ a2_13.env.ecc = 0 ∧ a2_13.rd = 0#5 ∧ a2_13.ra = 0#5 ∧ a2_13.rb = 0#5 ∧ (v2_12.tile a2_13.tile).tc.digOpen ≠ none := by
  repeat' apply And.intro
  all_goals decide +kernel

/-- The hypotheses of O17 (ThreadEndFreesTheCore) are met, clause by clause. -/
theorem witness_ThreadEndFreesTheCore :
  ({ inst := 8 } : Msg) ∈ tget [] ((v2_23.endThread 0 7 true).tile 0).tc.mbox 2 ∧
  wI7e ∈ (wCore.endThread 0 7 true).sch.insts ∧ wI7e.id = 7 := by
  repeat' apply And.intro
  all_goals decide +kernel

/-- The hypotheses of O18 (AllocatorAndPagerCommands) are met, clause by clause. -/
theorem witness_AllocatorAndPagerCommands :
  issues v2_18 a2_14.tile wI7 ∧ a2_14.env.ecc = 0 ∧ a2_14.rb = 0#5 ∧ v2_18.closedTile a2_14.tile = true ∧
  issues v2_19 a2_15.tile wI7 ∧ a2_15.env.ecc = 0 ∧ a2_15.rd = 0#5 ∧ a2_15.rb = 0#5 ∧ (v2_19.tile a2_15.tile).bow.cur = some a2_16 ∧
  issues v2_19 a2_13.tile wI7 ∧ a2_13.env.ecc = 0 ∧ a2_13.rd = 0#5 ∧ a2_13.ra = 0#5 ∧ a2_13.rb = 0#5 ∧ (v2_19.tile a2_13.tile).bow.cur = some a2_16 ∧
  issues v2_14 a2_14.tile wI7 ∧ a2_14.env.ecc = 0 ∧ meshTakes v2_14 a2_14.tile a2_14.env ∧ a2_14.rb = 0#5 ∧
  issues v2_15 a2_15.tile wI7 ∧ a2_15.env.ecc = 0 ∧ meshTakes v2_15 a2_15.tile a2_15.env ∧ a2_15.rd = 0#5 ∧ a2_15.rb = 0#5 ∧ 33 ≤ bits (BitVec.setWidth 16 ((v2_15.tile a2_15.tile).tc.sreg a2_15.ra)).toNat 6 0 ∧ ((v2_15.tile a2_15.tile).spm.ent (bits (BitVec.setWidth 16 ((v2_15.tile a2_15.tile).tc.sreg a2_15.ra)).toNat 6 0)).live = true ∧ ((v2_15.tile a2_15.tile).spm.ent (bits (BitVec.setWidth 16 ((v2_15.tile a2_15.tile).tc.sreg a2_15.ra)).toNat 6 0)).gen = bits (BitVec.setWidth 16 ((v2_15.tile a2_15.tile).tc.sreg a2_15.ra)).toNat 15 7 ∧ ((v2_15.tile a2_15.tile).spm.ent (bits (BitVec.setWidth 16 ((v2_15.tile a2_15.tile).tc.sreg a2_15.ra)).toNat 6 0)).inst = wI7.id ∧
  issues v2_16 a2_14.tile wI7 ∧ a2_14.env.ecc = 0 ∧ a2_14.rb = 0#5 ∧ v2_16.closedTile a2_14.tile = false ∧ BitVec.toNat ((v2_16.tile a2_14.tile).tc.sreg a2_14.ra) < (v2_16.net wI7.job.net).layers.length ∧ ((v2_16.net wI7.job.net).layer (BitVec.toNat ((v2_16.tile a2_14.tile).tc.sreg a2_14.ra))).pageCount ≠ 0 ∧ (v2_16.subsTo wI7 (BitVec.toNat ((v2_16.tile a2_14.tile).tc.sreg a2_14.ra))).length < ((v2_16.net wI7.job.net).layer (BitVec.toNat ((v2_16.tile a2_14.tile).tc.sreg a2_14.ra))).tiles ∧ (v2_16.tile a2_14.tile).bow.nxt = none ∧ layerPoisoned v2_16 wI7.job.net ((v2_16.net wI7.job.net).layer (BitVec.toNat ((v2_16.tile a2_14.tile).tc.sreg a2_14.ra))) = false ∧
  issues v2_17 a2_14.tile wI7 ∧ a2_14.env.ecc = 0 ∧ a2_14.rb = 0#5 ∧ v2_17.closedTile a2_14.tile = false ∧ BitVec.toNat ((v2_17.tile a2_14.tile).tc.sreg a2_14.ra) < (v2_17.net wI7.job.net).layers.length ∧ ((v2_17.net wI7.job.net).layer (BitVec.toNat ((v2_17.tile a2_14.tile).tc.sreg a2_14.ra))).pageCount ≠ 0 ∧ (v2_17.subsTo wI7 (BitVec.toNat ((v2_17.tile a2_14.tile).tc.sreg a2_14.ra))).length < ((v2_17.net wI7.job.net).layer (BitVec.toNat ((v2_17.tile a2_14.tile).tc.sreg a2_14.ra))).tiles ∧ (v2_17.tile a2_14.tile).bow.nxt = none ∧ layerPoisoned v2_17 wI7.job.net ((v2_17.net wI7.job.net).layer (BitVec.toNat ((v2_17.tile a2_14.tile).tc.sreg a2_14.ra))) = false := by
  repeat' apply And.intro
  all_goals decide +kernel

/-- The hypotheses of O19 (ReadsAndUnitCommands) are met, clause by clause. -/
theorem witness_ReadsAndUnitCommands :
  issues v2_20 a2_12.tile wI7b ∧ a2_12.env.ecc = 0 ∧ meshTakes v2_20 a2_12.tile a2_12.env ∧ v2_20.closedTile a2_12.tile = false ∧ ((do let f ← boundFrame wI7b (bits (BitVec.toNat ((v2_20.tile a2_12.tile).tc.sreg a2_12.ra)) 3 0) ; let base ← v2_20.frameStore f ; let g := v2_20.streamCfg (v2_20.frame f).stream ; if bits (BitVec.toNat ((v2_20.tile a2_12.tile).tc.sreg a2_12.ra)) 31 24 = 0 ∧ g.hasPart (bits (BitVec.toNat ((v2_20.tile a2_12.tile).tc.sreg a2_12.ra)) 6 4) (bits (BitVec.toNat ((v2_20.tile a2_12.tile).tc.sreg a2_12.ra)) 15 7) (bits (BitVec.toNat ((v2_20.tile a2_12.tile).tc.sreg a2_12.ra)) 23 16) = true then some (base + 4096 * g.partUnit (bits (BitVec.toNat ((v2_20.tile a2_12.tile).tc.sreg a2_12.ra)) 6 4) (bits (BitVec.toNat ((v2_20.tile a2_12.tile).tc.sreg a2_12.ra)) 15 7) (bits (BitVec.toNat ((v2_20.tile a2_12.tile).tc.sreg a2_12.ra)) 23 16)) else none) = some 20480) ∧ targetBad v2_20 a2_12.tile wI7b (BitVec.setWidth 16 ((v2_20.tile a2_12.tile).tc.sreg a2_12.rb)) (4096 * bits (BitVec.toNat ((v2_20.tile a2_12.tile).tc.sreg a2_12.rb)) 21 16) 4096 = false ∧
  issues v2_20 a2_12.tile wI7b ∧ a2_12.env.ecc = 0 ∧ meshTakes v2_20 a2_12.tile a2_12.env ∧ v2_20.closedTile a2_12.tile = false ∧ ((do let f ← boundFrame wI7b (bits (BitVec.toNat ((v2_20.tile a2_12.tile).tc.sreg a2_12.ra)) 3 0) ; let base ← v2_20.frameStore f ; if BitVec.toNat ((v2_20.tile a2_12.tile).tc.sreg a2_12.ra) < 16 then some base else none) = some 16384) ∧ targetBad v2_20 a2_12.tile wI7b (BitVec.setWidth 16 ((v2_20.tile a2_12.tile).tc.sreg a2_12.rb)) (64 * bits (BitVec.toNat ((v2_20.tile a2_12.tile).tc.sreg a2_12.rb)) 27 16) 64 = false ∧
  issues v2_21 a2_17.tile wI7 ∧ a2_17.env.ecc = 0 ∧ a2_17.env.queueEcc = 0 ∧ vOk a2_17.ra = true ∧ a2_17.rb = 0#5 ∧ a2_17.ra.getLsbD 0 = false ∧ (v2_21.tile a2_17.tile).arr.queue.length < 8 ∧
  issues v2_21 a2_17.tile wI7 ∧ a2_17.env.ecc = 0 ∧ a2_17.env.queueEcc = 0 ∧ vOk a2_17.ra = true ∧ a2_17.rb = 0#5 ∧ (v2_21.tile a2_17.tile).spm.memQ.length < 4 ∧
  issues wRp a2_18.tile wI7 ∧ a2_18.env.ecc = 0 ∧ a2_18.env.dataEcc = 0 ∧ vOk a2_18.ra = true ∧ a2_18.rb = 0#5 ∧ field (leBytes 32 (BitVec.toNat ((wRp.tile a2_18.tile).tc.vreg (vOf a2_18.ra)))) 2 1 < 2 ∧ field (leBytes 32 (BitVec.toNat ((wRp.tile a2_18.tile).tc.vreg (vOf a2_18.ra)))) 3 1 < 2 ∧ field (leBytes 32 (BitVec.toNat ((wRp.tile a2_18.tile).tc.vreg (vOf a2_18.ra)))) 12 20 = 0 ∧ wRp.isCrc16 a2_18.tile (field (leBytes 32 (BitVec.toNat ((wRp.tile a2_18.tile).tc.vreg (vOf a2_18.ra)))) 2 1) = false ∧ (wRp.tile a2_18.tile).tc.rpubOut < 2 ∧ field (leBytes 32 (BitVec.toNat ((wRp.tile a2_18.tile).tc.vreg (vOf a2_18.ra)))) 4 4 % 4 = 0 ∧ access wRp a2_18.tile wI7 (BitVec.ofNat 16 (field (leBytes 32 (BitVec.toNat ((wRp.tile a2_18.tile).tc.vreg (vOf a2_18.ra)))) 0 2)) (field (leBytes 32 (BitVec.toNat ((wRp.tile a2_18.tile).tc.vreg (vOf a2_18.ra)))) 4 4) (field (leBytes 32 (BitVec.toNat ((wRp.tile a2_18.tile).tc.vreg (vOf a2_18.ra)))) 8 4) false = Except.ok [0, 1] ∧ (wRp.ring.rpub.length + wRp.ring.rpubWait.length < 64 ∨ meshFull wRp a2_18.tile a2_18.env = false) := by
  repeat' apply And.intro
  all_goals first | exact eq_ok (by decide +kernel) | decide +kernel

/-- The hypotheses of O20 (MessageAndRemoteStateCommands) are met, clause by clause. -/
theorem witness_MessageAndRemoteStateCommands :
  a2_14.rb = 0#5 ∧ issues v2_24 a2_14.tile wI7 ∧ a2_14.env.ecc = 0 ∧
  issues v2_25 a2_12.tile wI7 ∧ a2_12.env.ecc = 0 ∧ a2_12.env.dataEcc = 0 ∧ vOk a2_12.rd = true ∧ remoteAddr v2_25 (BitVec.toNat ((v2_25.tile a2_12.tile).tc.sreg a2_12.ra)) = Except.ok (1, 1#16) ∧ BitVec.toNat ((v2_25.tile a2_12.tile).tc.sreg a2_12.rb) % 32 = 0 ∧ access v2_25 1 wI7 (1#16) (BitVec.toNat ((v2_25.tile a2_12.tile).tc.sreg a2_12.rb)) 32 false = Except.ok ((List.range 32).map (389120 + ·)) ∧
  issues v2_26 a2_12.tile wI7 ∧ a2_12.env.ecc = 0 ∧ vOk a2_12.rd = true ∧ remoteAddr v2_26 (BitVec.toNat ((v2_26.tile a2_12.tile).tc.sreg a2_12.ra)) = Except.ok (1, 2#16) ∧ BitVec.toNat ((v2_26.tile a2_12.tile).tc.sreg a2_12.rb) % 32 = 0 ∧ access v2_26 1 wI7 (2#16) (BitVec.toNat ((v2_26.tile a2_12.tile).tc.sreg a2_12.rb)) 32 true = Except.ok ((List.range 32).map (385024 + ·)) ∧ ((List.range 32).map (385024 + ·)).Nodup ∧
  issues v2_26 a2_14.tile wI7 ∧ a2_14.env.ecc = 0 ∧ a2_14.rb = 0#5 ∧ remoteAddr v2_26 (BitVec.toNat ((v2_26.tile a2_14.tile).tc.sreg a2_14.ra)) = Except.ok (1, 2#16) ∧ (v2_26.tile 1).spm.states[(bits (2#16).toNat 6 0 - 1) / 2]? = some a2_21 ∧
  issues v2_22 a2_11.tile wI7 ∧ a2_11.env.ecc = 0 ∧ meshTakes v2_22 a2_11.tile a2_11.env ∧ a2_11.rd = 0#5 ∧ vOk a2_11.rb = true ∧ BitVec.toNat ((v2_22.tile a2_11.tile).tc.sreg a2_11.ra) < 2048 ∧ v2_22.grade.hasTile (bits (BitVec.toNat ((v2_22.tile a2_11.tile).tc.sreg a2_11.ra)) 7 0) = true ∧ (v2_22.tile a2_11.tile).tc.returned.length < 2 ∧
  issues v2_23 a2_12.tile wI7 ∧ a2_12.env.ecc = 0 ∧ a2_12.env.dataEcc = 0 ∧ vOk a2_12.rb = true ∧ List.filter (fun x => x.inst == wI7.id) (tget [] (v2_23.tile a2_12.tile).tc.mbox (BitVec.toNat ((v2_23.tile a2_12.tile).tc.sreg a2_12.ra) % 8)) = a2_19 :: [a2_20] := by
  repeat' apply And.intro
  all_goals first | exact eq_ok (by decide +kernel) | decide +kernel

/-- The hypotheses of O21 (CheckValueAndDigestCommands) are met, clause by clause. -/
theorem witness_CheckValueAndDigestCommands :
  issues v2_27 a2_22.tile wI7 ∧ a2_22.env.ecc = 0 ∧ a2_22.rb.toNat < 2 ∧ a2_22.rd = 0#5 ∧ a2_22.ra = 0#5 ∧ ((v2_27.tile a2_22.tile).tc.cv a2_22.rb.toNat).holder = CvHolder.tile ∧
  issues v2_28 a2_22.tile wI7 ∧ a2_22.env.ecc = 0 ∧ a2_22.rb.toNat < 2 ∧ a2_22.rd = 0#5 ∧ a2_22.ra = 0#5 ∧ ((v2_28.tile a2_22.tile).tc.cv a2_22.rb.toNat).holder ≠ CvHolder.tile ∧
  issues v2_27 a2_23.tile wI7 ∧ a2_23.env.ecc = 0 ∧ a2_23.rb.toNat < 2 ∧ a2_23.rd = 0#5 ∧ ((v2_27.tile a2_23.tile).tc.cv a2_23.rb.toNat).holder = CvHolder.tile ∧
  issues v2_28 a2_23.tile wI7 ∧ a2_23.env.ecc = 0 ∧ a2_23.rb.toNat < 2 ∧ a2_23.rd = 0#5 ∧ ((v2_28.tile a2_23.tile).tc.cv a2_23.rb.toNat).holder ≠ CvHolder.tile ∧
  issues v2_27 a2_23.tile wI7 ∧ a2_23.env.ecc = 0 ∧ a2_23.rb.toNat < 2 ∧ a2_23.rd = 0#5 ∧ vOk a2_23.ra = true ∧ ((v2_27.tile a2_23.tile).tc.cv a2_23.rb.toNat).holder = CvHolder.tile ∧
  issues v2_28 a2_23.tile wI7 ∧ a2_23.env.ecc = 0 ∧ a2_23.rb.toNat < 2 ∧ a2_23.rd = 0#5 ∧ vOk a2_23.ra = true ∧ ((v2_28.tile a2_23.tile).tc.cv a2_23.rb.toNat).holder ≠ CvHolder.tile ∧
  issues v2_27 a2_24.tile wI7 ∧ a2_24.env.ecc = 0 ∧ a2_24.rb.toNat < 2 ∧ a2_24.ra = 0#5 ∧ ((v2_27.tile a2_24.tile).tc.cv a2_24.rb.toNat).holder = CvHolder.tile ∧
  issues v2_28 a2_24.tile wI7 ∧ a2_24.env.ecc = 0 ∧ a2_24.rb.toNat < 2 ∧ a2_24.ra = 0#5 ∧ ((v2_28.tile a2_24.tile).tc.cv a2_24.rb.toNat).holder ≠ CvHolder.tile ∧
  issues v2_29 a2_22.tile wI7 ∧ a2_22.env.ecc = 0 ∧ a2_22.rb.toNat < 2 ∧ a2_22.rd = 0#5 ∧ a2_22.ra = 0#5 ∧ ((v2_29.tile a2_22.tile).tc.cv a2_22.rb.toNat).holder = CvHolder.none ∧ (v2_29.tile a2_22.tile).tc.waiters a2_22.rb.toNat = [] ∧
  issues v2_27 a2_22.tile wI7 ∧ a2_22.env.ecc = 0 ∧ a2_22.rb.toNat < 2 ∧ a2_22.rd = 0#5 ∧ a2_22.ra = 0#5 ∧
  issues v2_28 a2_22.tile wI7 ∧ a2_22.env.ecc = 0 ∧ a2_22.rb.toNat < 2 ∧ a2_22.rd = 0#5 ∧ a2_22.ra = 0#5 ∧
  issues v2_16 a2_15.tile wI7 ∧ a2_15.env.ecc = 0 ∧ a2_15.rd = 0#5 ∧ a2_15.rb = 0#5 ∧ (v2_16.tile a2_15.tile).tc.digOpen = none ∧ BitVec.toNat ((v2_16.tile a2_15.tile).tc.sreg a2_15.ra) < (v2_16.net wI7.job.net).layers.length ∧
  issues v2_30 a2_13.tile wI7 ∧ a2_13.env.ecc = 0 ∧ a2_13.rd = 0#5 ∧ a2_13.ra = 0#5 ∧ a2_13.rb = 0#5 ∧ (v2_30.tile a2_13.tile).tc.digOpen = some 0 ∧ (∀ q ∈ (v2_30.tile a2_13.tile).arr.queue ++ (v2_30.tile a2_13.tile).arr.running, q.inst ≠ wI7.id) ∧
  issues v2_12 a2_13.tile wI7 ∧ a2_13.env.ecc = 0 ∧ a2_13.rd = 0#5 ∧ a2_13.ra = 0#5 ∧ a2_13.rb = 0#5 ∧ (v2_12.tile a2_13.tile).tc.digOpen = some 0 ∧ (∀ q ∈ (v2_12.tile a2_13.tile).arr.queue ++ (v2_12.tile a2_13.tile).arr.running, q.inst ≠ wI7.id) ∧
  a2_25.ra = 0#5 ∧ a2_25.rb = 0#5 ∧ issues v2_30 a2_25.tile wI7 ∧ a2_25.env.ecc = 0 := by
  repeat' apply And.intro
  all_goals decide +kernel

/-- The hypotheses of O22 (IllegalFieldsAndBadFetches) are met, clause by clause. -/
theorem witness_IllegalFieldsAndBadFetches :
  a2_22.rb ≠ 0#5 ∧ issues v2_11 a2_22.tile wI7 ∧ a2_22.env.ecc = 0 ∧
  a2_26.ra ≠ 0#5 ∧ issues v2_11 a2_26.tile wI7 ∧ a2_26.env.ecc = 0 ∧
  3 ≤ bits (BitVec.toNat a2_27.imm) 15 5 ∧ issues v2_11 a2_27.tile wI7 ∧ a2_27.env.ecc = 0 ∧
  a2_28.w = 3#2 ∧ issues v2_11 a2_28.tile wI7 ∧ a2_28.env.ecc = 0 ∧
  v2_31.grade.hasTile a2_13.tile = true ∧ (v2_31.tile a2_13.tile).tc.inst = some wI7.id ∧ v2_31.inst wI7.id = some wI7 ∧ (v2_31.tile a2_13.tile).tc.allocRd = none ∧ fetchCause v2_31 wI7 a2_13.tile (v2_31.tile a2_13.tile).tc = some 2 ∧
  v2_32.grade.hasTile a2_13.tile = true ∧ (v2_32.tile a2_13.tile).tc.inst = some wI7.id ∧ v2_32.inst wI7.id = some wI7 ∧ (v2_32.tile a2_13.tile).tc.allocRd = none ∧ fetchCause v2_32 wI7 a2_13.tile (v2_32.tile a2_13.tile).tc = some 7 := by
  repeat' apply And.intro
  all_goals decide +kernel

/-- The hypotheses of O23 (RegisterFileLaws) are met, clause by clause. -/
theorem witness_RegisterFileLaws :
  wTc.s.length = 32 ∧
  wTc.s.length = 32 ∧ 3#5 ≠ 0#5 ∧
  wTc.s.length = 32 ∧ 5#5 ≠ 3#5 := by
  repeat' apply And.intro
  all_goals decide +kernel

/-- The hypotheses of O24 (ResetsAndStandby) are met, clause by clause. -/
theorem witness_ResetsAndStandby :
  wRun.awake = true ∧ wRun.evr.flushing = false ∧
  v3_1.awake = true ∧ v3_1.evr.flushing = true ∧
  wHost.pview Port.bar2 = true ∧ keyed 3529179137#32 = true ∧ wHost.evr.flushing = false ∧
  wHeld.aon.mainReset = true ∧ wHeld.awake = true ∧ wHeld.aon.softHold = false ∧ wHeld.aon.pwrEnMain = true ∧ wHeld.evr.queue = [] ∧
  a3_1.aon.mainReset = false ∧ a3_1.aon.pllLocked = false ∧
  wHost.pview Port.bar2 = true ∧ keyed 3529179137#32 = true ∧ wHost.aon.standby = StbyPhase.none ∧ wHost.prd.gen ≠ PrdGen.idle ∧
  v3_3.aon.aonReset = false ∧ v3_3.aon.oscRunning = true ∧ v3_3.aon.standby = StbyPhase.asleep ∧
  v3_4.aon.oscRunning = false ∧
  v3_5.aon.standby = StbyPhase.asleep ∧ v3_5.aon.wakeLatched = true ∧ v3_5.aon.oscRunning = true ∧
  v3_6.aon.standby = StbyPhase.waitL2 ∧ v3_6.pcie.l0 = true := by
  repeat' apply And.intro
  all_goals decide +kernel

/-- The hypotheses of O25 (MonitorsOfSupplyClockAndTemperature) are met, clause by clause. -/
theorem witness_MonitorsOfSupplyClockAndTemperature :
  wRun.monitored = true ∧ 11 ≤ 11 ∧
  wRun.monitored = true ∧ 4 ≤ 4 ∧
  wRun.monitored = true ∧ 1#5 ≠ 0#5 ∧
  w0.monitored = true ∧ w0.aon.oscRunning = true ∧ w0.prd.gen = PrdGen.idle ∧
  v3_7.monitored = true ∧ v3_7.sys.clockCond = true ∧ v3_7.aon.pllLocked = true ∧
  w0.monitored = true ∧ 0 < w0.grade.channels ∧ w0.prd.gen = PrdGen.idle ∧
  wHost.monitored = true ∧
  v3_8.monitored = true ∧ 1 < v3_8.grade.links ∧ (v3_8.link 1).st = LinkSt.up ∧ v3_8.sch.insts = [] ∧
  w0.monitored = true ∧ w0.prd.gen = PrdGen.idle ∧ (125001 :: []).length ≤ w0.grade.sensors ∧ (∀ (m : Int), m ∈ 125001 :: [] → w0.grade.tLimit < m ∧ m < w0.grade.tLimit + 10000) ∧ BitVec.getLsbD w0.sys.monStatus 24 = false ∧ (w0.advanceTo 0).timeDue = w0.advanceTo 0 := by
  repeat' apply And.intro
  all_goals decide +kernel

/-- The hypotheses of O26 (EventsAreQueuedAndWritten) are met, clause by clause. -/
theorem witness_EventsAreQueuedAndWritten :
  w0.evr.queue.length < 64 ∧
  64 ≤ v3_9.evr.queue.length ∧
  v3_10.aon.mainReset = false ∧ v3_10.evr.queue = [a3_2, a3_3] ∧ v3_10.evr.lostPend = 0 ∧ (alwaysCodes.contains (BitVec.toNat a3_2.code) = true ∨ v3_10.evr.seen.contains (entryKey a3_2) = false) ∧
  v3_11.aon.mainReset = false ∧ v3_11.evr.queue = [a3_2, a3_3] ∧ v3_11.evr.lostPend = 0 ∧ alwaysCodes.contains (BitVec.toNat a3_2.code) = false ∧ v3_11.evr.seen.contains (entryKey a3_2) = true ∧
  wHost.pview Port.bar2 = true ∧
  wHost.pview Port.bar0 = false ∧
  2 < 4096 ∧ tget 0 v3_28.evr.upset 2 = 0 ∧
  0 < 4096 ∧ tget 0 v3_28.evr.upset 0 = 1 ∧
  1 < 4096 ∧ 2 ≤ tget 0 v3_28.evr.upset 1 := by
  repeat' apply And.intro
  all_goals decide +kernel

/-- The hypotheses of O27 (PowerFailFlush) are met, clause by clause. -/
theorem witness_PowerFailFlush :
  v3_12.aon.mainReset = false ∧ v3_12.aon.standby = StbyPhase.none ∧ v3_12.evr.flushing = false ∧ v3_12.evr.arm = ArmSt.armed ∧ v3_12.evr.queue = [] ∧
  v3_13.aon.mainReset = false ∧ v3_13.aon.standby ≠ StbyPhase.asleep ∧ v3_13.evr.flushing = true ∧
  v3_13.evr.flushing = true ∧ v3_13.aon.pinAfterFlush = false ∧ v3_13.aon.softAfterFlush = false ∧ v3_13.aon.standby = StbyPhase.none ∧
  v3_15.evr.arm = ArmSt.spent ∧ v3_15.evr.faulty = false ∧
  v3_14.evr.arm = ArmSt.erasing ∧ v3_14.evr.flushing = false ∧ Memory.wf (255#8) v3_14.evr.flash = true ∧
  v3_12.evr.arm ≠ ArmSt.spent := by
  repeat' apply And.intro
  all_goals decide +kernel

/-- The hypotheses of O28 (RecordsPagesAndPostedWrites) are met, clause by clause. -/
theorem witness_RecordsPagesAndPostedWrites :
  (v3_18.ringOf 1).closed = [a3_7] ∧ a3_7.pend = [] ∧ a3_7.spanNext = false ∧ v3_18.mirrorOn = false ∧ v3_18.ring.posted = [] ∧ v3_18.hostOpen = true ∧
  wHost.hostOpen = true ∧ wHost.ring.posted = [] ∧
  (w0.hostOpen = false ∨ w0.ring.posted ≠ []) ∧
  v3_20.ring.posted ≠ [] ∧ v3_20.hostOpen = false ∧ v3_20.ring.writeStall = false ∧
  v3_16.ring.own = a3_4 :: [] ∧ a3_4.own = true ∧ (List.any v3_16.ring.rings fun x => x.snd.xfer.isSome) = false ∧ (v3_16.ringOf a3_4.ring).run = true ∧ (v3_16.ringOf a3_4.ring).stalled = false ∧ v3_16.ring.writeStall = false ∧ (v3_16.ringOf a3_4.ring).openP = some a3_5 ∧ a3_5.used + recSize a3_4.payload.length ≤ 4032 ∧ (∀ (x : RecReq), (v3_16.advanceTo 0).admitRpub.nextRpub = some x → a3_4.arrival < x.arrival) ∧
  v3_17.ring.posted = [] ∧ v3_17.hostOpen = true ∧ (v3_17.ringOf 1).xfer = some a3_6 ∧ a3_6.item.own = true ∧ a3_6.fresh = 0 ∧ (v3_17.ringOf 1).openP = some a3_5 ∧ a3_6.close = 0 ∧
  (v3_19.ringOf 1).run = true ∧ (v3_19.ringOf 1).stalled = true ∧ (v3_19.ringOf 1).summary = true ∧ v3_19.ring.writeStall = false ∧ (v3_19.ringOf 1).held < v3_19.ringPages 1 ∧ (v3_19.ringOf 1).closed.any RingPage.isSummary = false ∧
  0 < 4 ∧ [1#8].length ≤ 4 ∧ (Posted.write 64 [1#8]) ∈ splitWrite 4 4 64 [1#8] ∧
  v3_21.ring.writeStall = true ∧ v3_21.pcie.l0 = true ∧ BitVec.getLsbD v3_21.pcie.command 2 = true ∧ v3_21.pcie.dstate = 0 := by
  repeat' apply And.intro
  all_goals decide +kernel

/-- The hypotheses of O29 (RingRegistersAndHostDma) are met, clause by clause. -/
theorem witness_RingRegistersAndHostDma :
  v3_22.ringWritable Port.bar0 1 = true ∧ (1#32).getLsbD 0 = true ∧ (v3_22.ringOf 1).run = false ∧
  wRing.ringWritable Port.bar0 1 = true ∧ (0#32).getLsbD 0 = false ∧ (wRing.ringOf 1).run = true ∧ (wRing.ringOf 1).xfer = none ∧
  v3_23.ringWritable Port.bar0 1 = true ∧ (v3_23.ringOf 1).run = true ∧ BitVec.toNat (1#32 - (v3_23.ringOf 1).cons) ≤ BitVec.toNat ((v3_23.ringOf 1).prod - (v3_23.ringOf 1).cons) ∧
  v3_23.ringWritable Port.bar0 1 = true ∧ (v3_23.ringOf 1).run = true ∧ BitVec.toNat ((v3_23.ringOf 1).prod - (v3_23.ringOf 1).cons) < BitVec.toNat (2#32 - (v3_23.ringOf 1).cons) ∧
  wRing.reach Port.bar0 = true ∧ (74564#32).getLsbD 0 = false ∧
  wRing.reach Port.bar0 = true ∧ BitVec.getLsbD wRing.ring.mirrorLo 0 = false ∧
  wRing.reach Port.bar0 = true ∧ (74565#32).getLsbD 0 = true ∧
  v3_24.reach Port.bar0 = true ∧ BitVec.getLsbD v3_24.ring.mirrorLo 0 = true ∧
  v3_25.pview Port.bar2 = true ∧ (1#32).getLsbD 0 = true ∧ v3_25.hdma.state ≠ 1 ∧ v3_25.dram.trained = true ∧ BitVec.toNat v3_25.hdma.src % 64 = 0 ∧ BitVec.toNat v3_25.hdma.dst % 64 = 0 ∧ BitVec.toNat v3_25.hdma.len % 64 = 0 ∧ 64 ≤ BitVec.toNat v3_25.hdma.len ∧ BitVec.toNat v3_25.hdma.len ≤ 2 ^ 24 ∧ BitVec.toNat v3_25.hdma.src + BitVec.toNat v3_25.hdma.len ≤ v3_25.dram.capacityMiB * 2 ^ 20 ∧
  wHost.pview Port.bar2 = true ∧ (1#32).getLsbD 0 = true ∧ wHost.hdma.state ≠ 1 ∧ wHost.dram.trained = false ∧
  v3_27.pview Port.bar2 = true ∧ (2#32).getLsbD 1 = true ∧ v3_27.hdma.state = 1 ∧
  v3_22.ringWritable Port.bar0 1 = true ∧ (v3_22.ringOf 1).run = false ∧
  v3_26.hdma.state = 1 ∧ v3_26.hostOpen = true ∧ v3_26.ring.writeStall = false ∧ v3_26.ring.posted = [] ∧ v3_26.dramLost v3_26.hdma.curSrc v3_26.hdma.curLen = false := by
  repeat' apply And.intro
  all_goals decide +kernel

/-- The hypotheses of O30 (CsiPackets) are met, clause by clause. -/
theorem witness_CsiPackets :
  wPorts.portTakes 0 0 = true ∧ ((wPorts.advanceTo 0).csiHeader 0 a4_1).vcStreams 0 0 ≠ [] ∧ (∀ k ∈ ((wPorts.advanceTo 0).csiHeader 0 a4_1).vcStreams 0 0, ((((wPorts.advanceTo 0).csiHeader 0 a4_1).vcStreams 0 0).foldl (fun v k => v.expire k v.now true) ((wPorts.advanceTo 0).csiHeader 0 a4_1)).openFid k = none) ∧
  (wPorts.stream 0).openF = none ∧ wPorts.streamReady 0 = true ∧
  wOpen.portTakes 0 a4_2.port = true ∧ a4_2.hdr.full = false ∧ a4_2.dt ≠ 16 ∧ a4_2.dt ≠ 17 ∧ (List.find? (fun k => BitVec.toNat ((((wOpen.advanceTo a4_2.t).csiHeader a4_2.port a4_2.hdr).streamCfg k).key.getD 1 0#8) == a4_2.dt) (((wOpen.advanceTo a4_2.t).csiHeader a4_2.port a4_2.hdr).vcStreams a4_2.port a4_2.vc) = none) ∧ a4_2.crcOk = true ∧
  wOpen.portTakes 0 a4_3.port = true ∧ a4_3.hdr.full = false ∧ a4_3.dt ≠ 16 ∧ a4_3.dt ≠ 17 ∧ (List.find? (fun k => BitVec.toNat ((((wOpen.advanceTo a4_3.t).csiHeader a4_3.port a4_3.hdr).streamCfg k).key.getD 1 0#8) == a4_3.dt) (((wOpen.advanceTo a4_3.t).csiHeader a4_3.port a4_3.hdr).vcStreams a4_3.port a4_3.vc) = some 0) ∧ a4_3.crcOk = false ∧
  wPorts.portTakes 0 a4_4.port = true ∧ a4_4.hdr.full = false ∧ a4_4.dt ≠ 16 ∧ a4_4.dt ≠ 17 ∧ (List.find? (fun k => BitVec.toNat ((((wPorts.advanceTo a4_4.t).csiHeader a4_4.port a4_4.hdr).streamCfg k).key.getD 1 0#8) == a4_4.dt) (((wPorts.advanceTo a4_4.t).csiHeader a4_4.port a4_4.hdr).vcStreams a4_4.port a4_4.vc) = some 0) ∧ a4_4.crcOk = true ∧ (((wPorts.advanceTo a4_4.t).csiHeader a4_4.port a4_4.hdr).stream 0).openF = none ∧
  wPorts.named 0 0 = true ∧ wPorts.ready 0 = true ∧
  wPorts.portTakes 0 0 = true ∧ a4_1.full = false ∧ ((wPorts.advanceTo 0).csiHeader 0 a4_1).vcStreams 0 0 ≠ [] ∧ (∀ (k : Nat), k ∈ ((wPorts.advanceTo 0).csiHeader 0 a4_1).vcStreams 0 0 → (List.foldl (fun x k => x.expire k (((wPorts.advanceTo 0).csiHeader 0 a4_1).stamp 0) true) ((wPorts.advanceTo 0).csiHeader 0 a4_1) (((wPorts.advanceTo 0).csiHeader 0 a4_1).vcStreams 0 0)).openFid k = none) ∧
  wOpen.portTakes 0 0 = true ∧ a4_1.full = false ∧ (((wOpen.advanceTo 0).csiHeader 0 a4_1).vcStreams 0 0 = [] ∨ ∃ k, k ∈ ((wOpen.advanceTo 0).csiHeader 0 a4_1).vcStreams 0 0 ∧ (List.foldl (fun x k => x.expire k (((wOpen.advanceTo 0).csiHeader 0 a4_1).stamp 0) true) ((wOpen.advanceTo 0).csiHeader 0 a4_1) (((wOpen.advanceTo 0).csiHeader 0 a4_1).vcStreams 0 0)).openFid k ≠ none) ∧
  (wPorts.stream 0).openF = none ∧ wPorts.streamReady 0 = true ∧ 1 ≠ 0 ∧
  (wPorts.stream 0).openF = none ∧ wPorts.streamReady 0 = true ∧ 4 ≠ wPorts.strm.nextF ∧
  (wOpen.stream 0).openF = some 4 ∧ ¬(wOpen.streamReady 0 = false ∧ 16 ≤ (List.filter LandItem.isEvent (wOpen.stream 0).ring).length) ∧
  (v4_14.stream 0).openF = some 4 ∧ v4_14.streamReady 0 = false ∧ 16 ≤ (List.filter LandItem.isEvent (v4_14.stream 0).ring).length ∧
  (wOpen.stream 0).openF = some 4 ∧ 1 ≠ 0 ∧
  wPorts.portTakes 0 0 = true ∧ CsiDiscard.null ∈ [CsiDiscard.generic, CsiDiscard.null, CsiDiscard.blanking] ∧
  wOpen.portTakes 0 a4_5.port = true ∧ a4_5.hdr.full = false ∧ a4_5.dt ≠ 16 ∧ a4_5.dt ≠ 17 ∧ List.find? (fun n => BitVec.toNat ((((wOpen.advanceTo a4_5.t).csiHeader a4_5.port a4_5.hdr).streamCfg n).key.getD 1 0#8) == a4_5.dt) (((wOpen.advanceTo a4_5.t).csiHeader a4_5.port a4_5.hdr).vcStreams a4_5.port a4_5.vc) = some 0 ∧ a4_5.crcOk = true ∧ (((wOpen.advanceTo a4_5.t).csiHeader a4_5.port a4_5.hdr).stream 0).openF = some 4 ∧ (∀ (e : Nat), (((wOpen.advanceTo a4_5.t).csiHeader a4_5.port a4_5.hdr).frame 4).windowEnd = some e → ((wOpen.advanceTo a4_5.t).csiHeader a4_5.port a4_5.hdr).stamp a4_5.t < e) ∧ (((wOpen.advanceTo a4_5.t).csiHeader a4_5.port a4_5.hdr).streamCfg 0).lineNum = false ∧ (((wOpen.advanceTo a4_5.t).csiHeader a4_5.port a4_5.hdr).streamCfg 0).cvScope = 0 ∧ a4_5.data.length = (((wOpen.advanceTo a4_5.t).csiHeader a4_5.port a4_5.hdr).streamCfg 0).lineBytes ∧ (((wOpen.advanceTo a4_5.t).csiHeader a4_5.port a4_5.hdr).frame 4).nextRow < (((wOpen.advanceTo a4_5.t).csiHeader a4_5.port a4_5.hdr).streamCfg 0).height ∧ ¬(((wOpen.advanceTo a4_5.t).csiHeader a4_5.port a4_5.hdr).frame 4).nextRow ∈ (((wOpen.advanceTo a4_5.t).csiHeader a4_5.port a4_5.hdr).frame 4).placed ∧ ((wOpen.advanceTo a4_5.t).csiHeader a4_5.port a4_5.hdr).freeSlotOf 0 = some wSlot ∧
  wPorts.named 0 0 = true ∧ wPorts.ready 0 = true ∧ (wPorts.csiPort 0).clkLane = true ∧
  wBoot.aon.pllLocked = true ∧ 0 < wBoot.grade.csi ∧ (wBoot.csiPort 0).calibrated = false ∧ (wBoot.csiPort 0).calFail = false ∧ wBoot.ready 9 = false := by
  repeat' apply And.intro
  all_goals decide +kernel

/-- The hypotheses of O31 (EthernetAndT1s) are met, clause by clause. -/
theorem witness_EthernetAndT1s :
  wPorts.portTakes 1 a4_6.port = true ∧ a4_6.full = false ∧ a4_6.fcsOk = true ∧ 60 ≤ a4_6.data.length ∧ a4_6.data.length ≤ 9212 ∧
  wPorts.portTakes 1 a4_7.port = true ∧ a4_7.full = false ∧ a4_7.fcsOk = false ∧
  wPorts.portTakes 1 a4_8.port = true ∧ a4_8.full = true ∧
  wPorts.ethStream 1 1 [1#8] = some 1 ∧ wPorts.streamReady 1 = true ∧
  wPorts.ethStream 1 1 [9#8] = none ∧
  wPorts.ethStream 1 2 [2#8] = some 2 ∧
  (wPorts.ethPort 0).link = true ∧
  wHost.pview Port.bar2 = true ∧ 0 < wHost.grade.eth ∧
  wHost.pview Port.bar0 = false ∧
  wPorts.portTakes 3 a4_9.port = true ∧ a4_9.fcsOk = true ∧ 60 ≤ a4_9.data.length ∧ a4_9.data.length ≤ 1514 ∧ (wPorts.t1sPort a4_9.port).recovering = false ∧ (wPorts.t1sPort a4_9.port).opp ≠ 0 ∧ (List.find? (fun k => BitVec.toNat ((wPorts.streamCfg k).key.headD 0#8) == (wPorts.t1sPort a4_9.port).opp) (wPorts.portStreams 3 a4_9.port) = some 3) ∧
  (wPorts.t1sPort 0).plca = true ∧ (wPorts.t1sPort 0).recovering = false ∧
  (v4_1.t1sPort 0).recovering = true ∧
  1 < w0dz16.grade.eth ∧ 1 ≤ 1 ∧ 1 ≤ 4 ∧
  v4_2.strm.stopped = false ∧ v4_2.strm.segQ = a4_10 :: [] ∧ (v4_2.streamCfg a4_10.stream).cvScope = 0 ∧ a4_10.data.length ≠ 8 + BitVec.toNat (a4_10.data.getD 1 0#8) * (v4_2.streamCfg a4_10.stream).lineBytes ∧
  v4_3.strm.stopped = false ∧ v4_3.strm.segQ = a4_11 :: [] ∧ (v4_3.streamCfg a4_11.stream).cvScope = 0 ∧ a4_11.data.length = 8 + BitVec.toNat (a4_11.data.getD 1 0#8) * (v4_3.streamCfg a4_11.stream).lineBytes ∧ BitVec.getLsbD (a4_11.data.getD 0 0#8) 7 = true ∧
  v4_4.strm.stopped = false ∧ v4_4.strm.segQ = a4_12 :: [] ∧ (v4_4.streamCfg a4_12.stream).cvScope = 0 ∧ a4_12.data.length = 8 + BitVec.toNat (a4_12.data.getD 1 0#8) * (v4_4.streamCfg a4_12.stream).lineBytes ∧ BitVec.getLsbD (a4_12.data.getD 0 0#8) 7 = false ∧ (v4_4.stream a4_12.stream).openF = none := by
  repeat' apply And.intro
  all_goals decide +kernel

/-- The hypotheses of O32 (FramesAndLines) are met, clause by clause. -/
theorem witness_FramesAndLines :
  v4_8.ready 14 = true ∧ v4_8.img.step6Done = true ∧ v4_8.dram.spillFixed = true ∧ v4_8.dram.storesDone = false ∧
  wOpen.strm.stopped = false ∧ (wOpen.stream 0).openF = some 4 ∧ (wOpen.frame 4).windowEnd = some 2000000 ∧ wOpen.now < 2000000 ∧
  v4_5.strm.stopped = false ∧ (v4_5.stream 0).openF = some 4 ∧ (v4_5.frame 4).windowEnd = some 1450000 ∧ 1450000 ≤ v4_5.now ∧
  (v4_15.stream 0).wasReady = true ∧ v4_15.strm.stopped = false ∧ (v4_15.stream 0).ring = LandItem.line 4 1 [1#8, 2#8, 3#8, 4#8] { } :: [LandItem.line 4 2 [] { idx := 1 }] ∧ (v4_15.frame 4).pre = false ∧ ([LandItem.line 4 2 [] { idx := 1 }] = [] ∨ ∃ i j d y m, [LandItem.line 4 2 [] { idx := 1 }] = LandItem.line i j d y :: m ∧ (v4_15.frame i).pre = false) ∧ (v4_15.frame 4).dropped = true ∧
  (v4_6.stream 0).wasReady = true ∧ v4_6.strm.stopped = false ∧ (v4_6.stream 0).ring = LandItem.line 4 1 [1#8, 2#8, 3#8, 4#8] { } :: [LandItem.line 4 2 [] { idx := 1 }] ∧ (v4_6.frame 4).pre = false ∧ ([LandItem.line 4 2 [] { idx := 1 }] = [] ∨ ∃ i j d y m, [LandItem.line 4 2 [] { idx := 1 }] = LandItem.line i j d y :: m ∧ (v4_6.frame i).pre = false) ∧ (v4_6.frame 4).dropped = false ∧ (some 0) = some 0 ∧
  (v4_6.stream 0).wasReady = true ∧ v4_6.strm.stopped = false ∧ (v4_6.stream 0).ring = LandItem.line 4 1 [1#8, 2#8, 3#8, 4#8] { } :: [LandItem.line 4 2 [] { idx := 1 }] ∧ (v4_6.frame 4).pre = false ∧ ([LandItem.line 4 2 [] { idx := 1 }] = [] ∨ ∃ i j d y m, [LandItem.line 4 2 [] { idx := 1 }] = LandItem.line i j d y :: m ∧ (v4_6.frame i).pre = false) ∧ (v4_6.frame 4).dropped = false ∧ (none : Option Nat) = none ∧ (v4_6.streamCfg 0).cvScope = 0 ∧
  (v4_16.stream 0).wasReady = true ∧ v4_16.strm.stopped = false ∧ (v4_16.stream 0).ring = LandItem.line 4 1 [1#8, 2#8, 3#8, 4#8] { } :: [LandItem.line 4 2 [] { idx := 1 }] ∧ (v4_16.frame 4).pre = false ∧ ([LandItem.line 4 2 [] { idx := 1 }] = [] ∨ ∃ i j d y m, [LandItem.line 4 2 [] { idx := 1 }] = LandItem.line i j d y :: m ∧ (v4_16.frame i).pre = false) ∧ (v4_16.frame 4).dropped = false ∧ (none : Option Nat) = none ∧ (v4_16.streamCfg 0).cvScope = 1 ∧ v4_16.unitLost 0 = true ∧
  (v4_17.stream 0).wasReady = true ∧ v4_17.strm.stopped = false ∧ (v4_17.stream 0).ring = LandItem.line 4 1 a4_17 { } :: ([] : List LandItem) ∧ (v4_17.frame 4).pre = false ∧ (([] : List LandItem) = [] ∨ ∃ i j d y m, ([] : List LandItem) = LandItem.line i j d y :: m ∧ (v4_17.frame i).pre = false) ∧ (v4_17.frame 4).dropped = false ∧ (none : Option Nat) = none ∧ (v4_17.streamCfg 0).cvScope = 1 ∧ v4_17.cvTile 0 = some 0 ∧ v4_17.excluded 0 = false ∧ ((v4_17.tile 0).tc.cv (v4_17.streamCfg 0).cvUnit).holder = CvHolder.none ∧ (v4_17.tile 0).tc.waiters (v4_17.streamCfg 0).cvUnit = [] ∧ leBytes (List.drop (v4_17.streamCfg 0).lineBytes a4_17).length (BitVec.toNat (v4_17.cvFinal 0 (v4_17.streamCfg 0).cvUnit (v4_17.cvFeed 0 (v4_17.streamCfg 0).cvUnit (v4_17.cvInit 0 (v4_17.streamCfg 0).cvUnit) (List.take (v4_17.streamCfg 0).lineBytes a4_17)))) = List.drop (v4_17.streamCfg 0).lineBytes a4_17 ∧
  (v4_18.stream 0).wasReady = true ∧ v4_18.strm.stopped = false ∧ (v4_18.stream 0).ring = LandItem.line 4 1 a4_18 { } :: ([] : List LandItem) ∧ (v4_18.frame 4).pre = false ∧ (([] : List LandItem) = [] ∨ ∃ i j d y m, ([] : List LandItem) = LandItem.line i j d y :: m ∧ (v4_18.frame i).pre = false) ∧ (v4_18.frame 4).dropped = false ∧ (none : Option Nat) = none ∧ (v4_18.streamCfg 0).cvScope = 1 ∧ v4_18.cvTile 0 = some 0 ∧ v4_18.excluded 0 = false ∧ ((v4_18.tile 0).tc.cv (v4_18.streamCfg 0).cvUnit).holder = CvHolder.none ∧ (v4_18.tile 0).tc.waiters (v4_18.streamCfg 0).cvUnit = [] ∧ leBytes (List.drop (v4_18.streamCfg 0).lineBytes a4_18).length (BitVec.toNat (v4_18.cvFinal 0 (v4_18.streamCfg 0).cvUnit (v4_18.cvFeed 0 (v4_18.streamCfg 0).cvUnit (v4_18.cvInit 0 (v4_18.streamCfg 0).cvUnit) (List.take (v4_18.streamCfg 0).lineBytes a4_18)))) ≠ List.drop (v4_18.streamCfg 0).lineBytes a4_18 ∧
  wBand.strm.stopped = false ∧ List.find? (fun x => x.snd.stream == 0 && x.snd.engaged && x.snd.state == FrameSt.opened && !x.snd.dropped && wBand.buildable x.fst 0 0) wBand.strm.frm = some (4, a4_13) ∧ wBand.frameStore 4 = some 16384 ∧
  v4_7.strm.stopped = false ∧ List.find? (fun y => y.snd.stream == 0 && y.snd.closing && y.snd.state == FrameSt.opened) (v4_7.drainFrameEvents 0).strm.frm = some (4, a4_14) ∧
  (∀ (i : Inst), i ∈ wPorts.sch.insts → ¬4 ∈ i.bound) ∧
  (∀ (i : Inst), i ∈ wPorts.sch.insts → ¬4 ∈ i.bound) ∧ 5 ≠ 4 ∧
  a4_19.dropped = true ∧
  a4_20.dropped = false ∧ BitVec.getLsbD a4_20.guard 6 = false ∧ a4_20.hasEof = true ∧ a4_c.height ≤ a4_20.placed.length ∧ a4_20.excess = 0 ∧ a4_20.intervalBad = false ∧
  a4_13.dropped = false ∧ BitVec.getLsbD a4_13.guard 6 = false ∧ (a4_13.hasEof = false ∨ a4_13.placed.length < a4_c.height) := by
  repeat' apply And.intro
  all_goals first | exact .inl rfl | exact .inr ⟨_, _, _, _, _, rfl, by decide +kernel⟩ | decide +kernel

/-- The hypotheses of O33 (TimebaseMessages) are met, clause by clause. -/
theorem witness_TimebaseMessages :
  (wPorts.advanceTo a4_15.t).gptpUp = true ∧ a4_15.domain = 0 ∧ a4_15.oneStep = true ∧
  (v4_9.advanceTo a4_16.t).gptpUp = true ∧ a4_16.domain = 0 ∧ a4_16.oneStep = false ∧ v4_9.tb.asCapable = true ∧ v4_9.tb.state = TbSt.free ∧
  (v4_10.advanceTo a4_16.t).gptpUp = true ∧ a4_16.domain = 0 ∧ a4_16.oneStep = false ∧ v4_10.tb.asCapable = true ∧ v4_10.tb.state = TbSt.locked ∧ v4_10.tb.acquiring = false ∧
  wPorts.portReady 1 0 = true ∧ wPorts.tb.state ≠ TbSt.locked ∧
  v4_12.gptpUp = true ∧ v4_12.tb.reqOpen = true ∧ (1200 - 1000 - (2100 - 2000)) / 2 ≤ 800 ∧
  (v4_9.advanceTo a4_16.t).gptpUp = true ∧ a4_16.domain = 0 ∧ a4_16.oneStep = false ∧ v4_9.tb.asCapable = true ∧ v4_9.tb.gmPresent = false ∧
  (v4_19.advanceTo a4_16.t).gptpUp = true ∧ a4_16.domain = 0 ∧ a4_16.oneStep = false ∧ v4_19.tb.asCapable = true ∧ v4_19.tb.gmPresent = true ∧ v4_19.tb.state = TbSt.free ∧
  (v4_10.advanceTo a4_16.t).gptpUp = true ∧ a4_16.domain = 0 ∧ a4_16.oneStep = false ∧ v4_10.tb.asCapable = true ∧ v4_10.tb.gmPresent = true ∧ v4_10.tb.state = TbSt.locked ∧ v4_10.tb.acquiring = false ∧
  wPorts.tb.state ≠ TbSt.locked ∧ wPorts.tb.state = TbSt.free ∧ wPorts.tb.gmPresent = false ∧
  v4_20.tb.state ≠ TbSt.locked ∧ ¬(v4_20.tb.state = TbSt.free ∧ v4_20.tb.gmPresent = false) ∧
  wPorts.tb.state ≠ TbSt.locked ∧ wPorts.tb.state = TbSt.free := by
  repeat' apply And.intro
  all_goals decide +kernel

/-- The hypotheses of O34 (BoundaryCounters) are met, clause by clause. -/
theorem witness_BoundaryCounters :
  wRun.prd.started = true ∧ wRun.crs.startWait = false ∧ wRun.prd.gen ≠ PrdGen.capo ∧ wRun.aon.mainReset = false ∧ wRun.aon.standby ≠ StbyPhase.requested ∧
  v5_1.prd.started = true ∧ v5_1.crs.startWait = false ∧ v5_1.prd.gen ≠ PrdGen.capo ∧ v5_1.aon.mainReset = false ∧ v5_1.aon.standby ≠ StbyPhase.requested := by
  repeat' apply And.intro
  all_goals decide +kernel

/-- The hypotheses of O35 (ReleaseOfThePeriod) are met, clause by clause. -/
theorem witness_ReleaseOfThePeriod :
  wCapo.prd.gen = PrdGen.capo ∧ wCapo.standing = 0 ∧
  v5_2.prd.gen = PrdGen.capo ∧ v5_2.standing ≠ 0 := by
  repeat' apply And.intro
  all_goals decide +kernel

/-- The hypotheses of O36 (AbortOfThePeriod) are met, clause by clause. -/
theorem witness_AbortOfThePeriod :
  wHost.pview Port.bar2 = true ∧ (1#32).getLsbD 0 = true ∧ wHost.prd.gen = PrdGen.run ∧
  wHost.pview Port.bar0 = false ∧
  v5_3.prd.gen = PrdGen.run ∧
  v5_4.prd.gen = PrdGen.hold ∧
  w0.prd.gen = PrdGen.idle := by
  repeat' apply And.intro
  all_goals decide +kernel

/-- The hypotheses of O37 (AbortRequestsOutsideRun) are met, clause by clause. -/
theorem witness_AbortRequestsOutsideRun :
  v5_5.pview Port.bar2 = true ∧ (1#32).getLsbD 0 = true ∧ v5_5.prd.gen ≠ PrdGen.run := by
  repeat' apply And.intro
  all_goals decide +kernel

/-- The hypotheses of O38 (DigestSelectionTakesEffectAtTheRelease) are met, clause by clause. -/
theorem witness_DigestSelectionTakesEffectAtTheRelease :
  wHost.pview Port.bar2 = true ∧
  wCapo.prd.gen = PrdGen.capo ∧
  v5_2.prd.gen = PrdGen.capo := by
  repeat' apply And.intro
  all_goals decide +kernel

/-- The hypotheses of O39 (FirstBoundary) are met, clause by clause. -/
theorem witness_FirstBoundary :
  0 < 1000 ∧
  v5_6.prd.lockWaitEnd = some 1600000 ∧ v5_6.prd.started = false ∧ v5_6.prd.gen ≠ PrdGen.capo ∧
  v5_7.upLinks = [] ∧
  v5_8.crs.startWait = true ∧ v5_8.prd.gen = PrdGen.idle ∧ v5_8.prd.next + 1000000000 ≤ 2000000000 := by
  repeat' apply And.intro
  all_goals decide +kernel

/-- The hypotheses of O40 (NoInstanceOutlivesItsPeriod) are met, clause by clause. -/
theorem witness_NoInstanceOutlivesItsPeriod :
  v5_3.prd.started = true ∧ v5_3.crs.startWait = false ∧ v5_3.prd.gen ≠ PrdGen.capo ∧ v5_3.aon.mainReset = false ∧
  v5_9.prd.started = true ∧ v5_9.crs.startWait = false ∧ v5_9.prd.gen ≠ PrdGen.capo ∧ v5_9.aon.mainReset = false := by
  repeat' apply And.intro
  all_goals decide +kernel

/-- The hypotheses of O41 (BindingAndAdmission) are met, clause by clause. -/
theorem witness_BindingAndAdmission :
  v5_11.jobInst 3 = some v5_10 ∧ v5_10.st = InstSt.created ∧ v5_10.b + v5_10.job.releaseUs * 1000 ≤ (v5_11.advanceTo (v5_10.b + v5_10.job.releaseUs * 1000)).now ∧
  v5_12.inst 7 = some (wI InstSt.waitInput) ∧ (wI InstSt.waitInput).st = InstSt.waitInput ∧ v5_12.lostInput (wI InstSt.waitInput) (wI InstSt.waitInput).again = none ∧ (wI InstSt.waitInput).bound.all v5_12.frameDone = true ∧ v5_12.now < (wI InstSt.waitInput).deadline ∧
  (((wI InstSt.deciding).tiles.all fun t => !v5_13.excluded t && !(v5_13.tile t).spm.diag) = true) ∧ ((wI InstSt.deciding).classOff = false ∨ (wI InstSt.deciding).job.cls = 0) ∧ (v5_13.gangHeld (wI InstSt.deciding).gang < if (wI InstSt.deciding).job.cls = 0 then 64 else 48) ∧
  v5_13.inst (wI InstSt.deciding).id = some (wI InstSt.deciding) ∧ ((wI InstSt.deciding).job.cls = 0 ∨ admissionTest v5_13.sch.insts (wI InstSt.deciding) v5_13.now = true) ∧
  wTwo.inst (wI InstSt.deciding).id = some (wI InstSt.deciding) ∧ (wI InstSt.deciding).job.cls ≠ 0 ∧ admissionTest wTwo.sch.insts (wI InstSt.deciding) wTwo.now = false ∧ wTwo.now < (wI InstSt.deciding).latestStart ∧ (wI InstSt.deciding).st ≠ InstSt.deferred ∧
  v5_14.inst wHeavy.id = some wHeavy ∧ wHeavy.job.cls ≠ 0 ∧ admissionTest v5_14.sch.insts wHeavy v5_14.now = false ∧ wHeavy.latestStart ≤ v5_14.now ∧
  v5_9.jobInst 3 = some (wI InstSt.deferred) ∧ (wI InstSt.deferred).st = InstSt.deferred ∧
  (wI InstSt.created).bound.headD 0 ≠ 0 ∧
  a5_1.bound.headD 0 = 0 ∧
  v5_13.sch.decideQ = (7, 1500000) :: [] ∧ v5_13.inst 7 = some (wI InstSt.deciding) ∧ (wI InstSt.deciding).deadline ≤ (v5_13.advanceTo 1900000).now ∧
  v5_13.sch.decideQ = (7, 1500000) :: [] ∧ v5_13.inst 7 = some (wI InstSt.deciding) ∧ (v5_13.advanceTo 0).now < (wI InstSt.deciding).deadline ∧ (wI InstSt.deciding).st = InstSt.deciding ∧
  wDefQ.sch.decideQ = (7, 1500000) :: [] ∧ wDefQ.inst 7 = some (wI InstSt.deferred) ∧ (wDefQ.advanceTo 0).now < (wI InstSt.deferred).deadline ∧ (wI InstSt.deferred).st = InstSt.deferred := by
  repeat' apply And.intro
  all_goals decide +kernel

/-- The hypotheses of O42 (DispatchAndDeadlines) are met, clause by clause. -/
theorem witness_DispatchAndDeadlines :
  nextDispatch [wI InstSt.admitted, wHeavy] = some (wI InstSt.admitted) ∧
  v5_16.jobInst 3 = some wRunning ∧ wRunning.st = InstSt.running ∧ wRunning.overrun = false ∧
  v5_3.jobInst 3 = some (wI InstSt.running) ∧ (wI InstSt.running).job.deadlineUs ≠ v5_3.prd.pUs ∧ (wI InstSt.running).deadline ≤ (v5_3.advanceTo (wI InstSt.running).deadline).now ∧
  ((wI InstSt.admitted).st = InstSt.deciding ∨ (wI InstSt.admitted).st = InstSt.admitted) ∧
  (wI InstSt.deferred).st = InstSt.deferred ∧
  wRunning.st = InstSt.running ∧ wRunning.localDone = false ∧
  v5_16.inst 7 = some wRunning ∧
  v5_15.prd.gen = PrdGen.run ∧ v5_15.gangFree 1 = true ∧ nextDispatch (List.filter (fun j => j.gang == 1 && j.st == InstSt.admitted && decide ((v5_15.advanceTo 0).now < j.deadline)) v5_15.sch.insts) = some (wI InstSt.admitted) ∧
  nextDispatch [wI InstSt.admitted, wHeavy] = some (wI InstSt.admitted) ∧ wHeavy ∈ [wI InstSt.admitted, wHeavy] ∧
  v5_17.inst 7 = some (wI InstSt.running) ∧ (wI InstSt.running).deadline ≤ v5_17.now ∧ v5_17.differs (wI InstSt.running) = none := by
  repeat' apply And.intro
  all_goals decide +kernel

/-- The hypotheses of O43 (PassesAndMemoryOperations) are met, clause by clause. -/
theorem witness_PassesAndMemoryOperations :
  (v6_2.tile 0).arr.queue = [wPassBad] ∧ v6_2.inst wPassBad.inst = some wI7 ∧ v6_2.excluded 0 = false ∧ (v6_2.tile 0).arr.running = [] ∧ checkDesc v6_2 0 wI7 wPassBad = 1 ∧
  (v6_4.tile 0).spm.memQ = [wFill] ∧ v6_4.inst wFill.inst = some wI7 ∧ memOpCode v6_4 0 wI7 wFill.bytes = 0 ∧ access v6_4 0 wI7 (BitVec.ofNat 16 (field wFill.bytes 4 2)) (field wFill.bytes 8 4) (field wFill.bytes 16 4) true = Except.ok [0, 1, 2, 3] ∧ (field wFill.bytes 0 1 = 1 → access v6_4 0 wI7 (BitVec.ofNat 16 (field wFill.bytes 6 2)) (field wFill.bytes 12 4) (field wFill.bytes 16 4) false = Except.ok []) ∧
  (v6_22.tile 0).arr.queue = wPass :: [] ∧ v6_22.inst wPass.inst = some wI7 ∧ v6_22.excluded 0 = false ∧ checkDesc v6_22 0 wI7 wPass = 0 ∧ startWaits v6_22 0 (Desc.ofBytes wPass.bytes) = true ∧
  (v6_1.tile 0).arr.queue = wPass :: [] ∧ v6_1.inst wPass.inst = some wI7 ∧ v6_1.excluded 0 = false ∧ checkDesc v6_1 0 wI7 wPass = 0 ∧ startWaits v6_1 0 (Desc.ofBytes wPass.bytes) = false ∧
  (∀ (y : Nat × Byte), y ∈ [(0, 1#8)] → 5 ≠ 4096 * ((placesOf v6_3 0 wI7 (Desc.ofBytes wPass.bytes).hOut true).getD (y.fst / 4096) (Place.fret 0)).fretOf.getD 0 + y.fst % 4096) ∧
  (v6_23.tile a6_16.tile).arr.running = wPassP :: [] ∧ v6_23.inst wPassP.inst = some wI7 ∧ List.mapM (fun k => passBlock v6_23 a6_16.tile wI7 wPassP (Desc.ofBytes wPassP.bytes) k) (List.range (Desc.ofBytes wPassP.bytes).steps) = none ∧
  (v6_24.tile 0).spm.memQ = wMopBad :: [] ∧ v6_24.inst wMopBad.inst = some wI7 ∧ memOpCode v6_24 0 wI7 wMopBad.bytes ≠ 0 := by
  repeat' apply And.intro
  all_goals first | decide +kernel | exact fun h => absurd h (by decide +kernel) | exact eq_ok (by decide +kernel)

/-- The hypotheses of O44 (ScratchpadEngines) are met, clause by clause. -/
theorem witness_ScratchpadEngines :
  (v6_5.tile 0).spm.dirtyQ = [1] ∧ 1 < 96 ∧ v6_5.ready 12 = false ∧
  a6_3.restore = none ∧ 33 ≤ 34 ∧ 34 < 128 ∧ ((v6_7.tile 0).spm.ent 34).live = false ∧ (∀ (k : Nat), 33 ≤ k → k < 34 → ((v6_7.tile 0).spm.ent k).live = true) ∧
  (v6_6.tile 0).spm.reqs = [a6_2] ∧ v6_6.inst a6_2.inst = some wI7 ∧ allocDecide v6_6 0 a6_2 wI7.job.frets = AllocAns.refuse 1 ∧
  (v6_7.tile 0).spm.reqs = [a6_3] ∧ v6_7.inst a6_3.inst = some wI7 ∧ allocDecide v6_7 0 a6_3 wI7.job.frets = AllocAns.grant ∧
  (v6_8.tile 0).spm.reqs = [a6_3] ∧ v6_8.inst a6_3.inst = some wI7 ∧ allocDecide v6_8 0 a6_3 wI7.job.frets = AllocAns.keep ∧
  a6_3.restore = none ∧ 33 ≤ 34 ∧ 34 < 128 ∧ ((v6_7.tile 0).spm.ent 34).live = false ∧ (∀ (n : Nat), 33 ≤ n → n < 34 → ((v6_7.tile 0).spm.ent n).live = true) ∧ 33 ≠ 34 ∧
  (v6_25.tile 0).spm.spilling = a6_s :: [] ∧ a6_s.fret < 96 ∧ ((tget none v6_25.dram.slots a6_s.slot).getD { }).bad = false ∧ ((v6_25.tile 0).spm.fret a6_s.fret).st = FretSt.spilling ∧ v6_25.dramLost (v6_25.dram.slotBase + 4096 * a6_s.slot) 4096 = true ∧
  (v6_9.tile 0).spm.spilling = a6_s :: [] ∧ a6_s.fret < 96 ∧ ((tget none v6_9.dram.slots a6_s.slot).getD { }).bad = false ∧ ((v6_9.tile 0).spm.fret a6_s.fret).st = FretSt.spilling ∧ v6_9.dramLost (v6_9.dram.slotBase + 4096 * a6_s.slot) 4096 = false ∧
  (v6_10.tile 0).spm.restoring = some (33, 0, 5, 1) ∧ tget none v6_10.dram.slots 5 = some a6_5 ∧ a6_5.bad = false ∧ v6_10.dramLost (v6_10.dram.slotBase + 4096 * 5) 4096 = false ∧ a6_5.crc = crc32c (memRead (0#8) v6_10.dram.mem (v6_10.dram.slotBase + 4096 * 5) 4096) := by
  repeat' apply And.intro
  all_goals first | exact (rfl : _ = some a6_5) | exact (rfl : _ = crc32c (memRead _ _ _ _)) | (intro k h1 h2; obtain rfl : k = 33 := (by omega); decide +kernel) | decide +kernel

/-- The hypotheses of O45 (MessagesAndWatchdogEvents) are met, clause by clause. -/
theorem witness_MessagesAndWatchdogEvents :
  v6_12.inst a6_6.inst = some wI7 ∧ remoteLink v6_12 a6_6.dst a6_6.mbox = none ∧ wI7.running.contains a6_6.dst = true ∧ 4 ≤ (tget [] (v6_12.tile a6_6.dst).tc.mbox a6_6.mbox).length ∧
  wCore.inst a6_7.inst = none ∧
  (v6_13.tile 0).tc.returned = [a6_8] ∧
  (v6_14.tile 0).tc.inst = some 7 ∧ (v6_14.tile 0).tc.wdArmed = true ∧
  List.find? (fun y => y.src == 1 && y.dst == 0 && y.mbox == 2) v6_27.flight = some a6_6 ∧ heldBack v6_27 a6_6 = true ∧
  List.find? (fun y => y.src == 1 && y.dst == 0 && y.mbox == 2) v6_11.flight = some a6_6 ∧ heldBack v6_11 a6_6 = false ∧
  List.find? (fun y => y.src == 1 && y.dst == 0 && y.mbox == 2) v6_11.flight = some a6_6 ∧ heldBack v6_11 a6_6 = false ∧ v6_11.inst a6_6.inst = some wI7 ∧
  v6_28.inst a6_m.inst = some wI7 ∧ fencedLink v6_28 a6_m.dst a6_m.mbox = some 1 ∧
  wCore.inst a6_6.inst = some wI7 ∧ fencedLink wCore a6_6.dst a6_6.mbox = none ∧ remoteLink wCore a6_6.dst a6_6.mbox = none ∧ wI7.running.contains a6_6.dst = true ∧ (tget [] (wCore.tile a6_6.dst).tc.mbox a6_6.mbox).length < 4 ∧
  v6_12.inst a6_6.inst = some wI7 ∧ fencedLink v6_12 a6_6.dst a6_6.mbox = none ∧ remoteLink v6_12 a6_6.dst a6_6.mbox = none ∧ wI7.running.contains a6_6.dst = true ∧ 4 ≤ (tget [] (v6_12.tile a6_6.dst).tc.mbox a6_6.mbox).length := by
  repeat' apply And.intro
  all_goals decide +kernel

/-- The hypotheses of O46 (PagesAndPartReads) are met, clause by clause. -/
theorem witness_PagesAndPartReads :
  a6_9.retried = false ∧ v6_15.dram.staging = [a6_9] ∧
  (List.find? (fun p => p.page == 2 && p.next == false && p.marked && p.fwdDone) (v6_18.tile 0).bow.slots = some a6_13) ∧ pagePinned v6_18 0 2 = false ∧
  (List.find? (fun p => p.page == 0 && p.next == false && p.marked && p.fwdDone) (wPin.tile 0).bow.slots = some a6_14) ∧ pagePinned wPin 0 0 = true ∧
  List.find? (fun y => y.isPage 0 2 && !y.whole && !y.remote) v6_29.dram.staging = some a6_9 ∧ v6_29.dram.trained = true ∧ v6_29.dramLost ((v6_29.net 0).base + 16384 * 2) 16384 = true ∧
  List.find? (fun y => y.isPage 0 2 && !y.whole && !y.remote) v6_15.dram.staging = some a6_9 ∧ v6_15.dram.trained = true ∧ v6_15.dramLost ((v6_15.net 0).base + 16384 * 2) 16384 = false ∧
  a6_10.fromPeer = none ∧ a6_10.subs ≠ [] ∧
  a6_9r.retried = true ∧ a6_9r.fromPeer = none ∧
  List.find? (fun y => y.isPage 0 2 && y.ready && !y.subs.isEmpty) v6_30.dram.staging = some a6_10 ∧ mayInject v6_30.dram.staging a6_10 = false ∧
  List.find? (fun y => y.isPage 0 2 && y.ready && !y.subs.isEmpty) v6_16.dram.staging = some a6_10 ∧ mayInject v6_16.dram.staging a6_10 = true ∧
  List.find? (fun y => y.tile == 0 && y.net == 0 && y.page == 2) v6_31.dram.flight = some a6_11 ∧ nextOnBand v6_31.dram.flight a6_11 = false ∧
  List.find? (fun y => y.tile == 0 && y.net == 0 && y.page == 2) v6_17.dram.flight = some a6_11 ∧ nextOnBand v6_17.dram.flight a6_11 = true ∧ a6_lane.laneBad = true ∧
  List.find? (fun y => y.tile == 0 && y.net == 0 && y.page == 2) v6_17.dram.flight = some a6_11 ∧ nextOnBand v6_17.dram.flight a6_11 = true ∧ (((v6_17.tile 0).bow.cur.toList ++ (v6_17.tile 0).bow.nxt.toList).any fun c => c.inst == a6_11.inst) = true ∧ List.find? (fun y => y.page == 2 && !y.usable) (v6_17.tile 0).bow.slots = some a6_12 ∧
  v6_19.firstRead 0 = some a6_15 ∧ v6_19.inst a6_15.inst = some wI7 ∧ v6_19.dramLost a6_15.src a6_15.len = false ∧ targetBad v6_19 0 wI7 a6_15.handle a6_15.off a6_15.len = false ∧ access v6_19 0 wI7 a6_15.handle a6_15.off a6_15.len true = Except.ok [0, 1] ∧ (v6_19.tile 0).tc.inst = some a6_15.inst := by
  repeat' apply And.intro
  all_goals first | decide +kernel | exact eq_ok (by decide +kernel)

/-- The hypotheses of O47 (DramEvents) are met, clause by clause. -/
theorem witness_DramEvents :
  v6_20.dram.trained = true ∧ 0 < v6_20.grade.channels ∧
  v6_21.training = true ∧
  (wShare.remoteEntry 0 2).isSome = true ∧ wShare.leadLink 0 = some 0 ∧ (wShare.link 0).pageNet ≠ some (0, 2) := by
  repeat' apply And.intro
  all_goals decide +kernel

/-- The hypotheses of O48 (PcieEndpoint) are met, clause by clause. -/
theorem witness_PcieEndpoint :
  v7_1.aon.mainReset = false ∧
  wHost.aon.standby ≠ StbyPhase.waitL2 ∧
  wHost.aon.mainReset = false ∧ wHost.pcie.l0 = true ∧ a7_1.write = true ∧
  wHost.aon.mainReset = false ∧ wHost.pcie.l0 = true ∧ a7_2.write = false ∧
  v7_2.aon.mainReset = false ∧ v7_2.pcie.l0 = true ∧
  BitVec.getLsbD v7_22.sys.straps 5 = true ∧
  wHost.aon.mainReset = false ∧ wHost.pcie.l0 = true ∧ wHost.ring.posted = [] ∧
  v3_21.aon.mainReset = false ∧ v3_21.pcie.l0 = true ∧ v3_21.ring.posted ≠ [] ∧
  BitVec.getLsbD wHost.pcie.aerUncSev 20 = false ∧ true = true ∧
  BitVec.getLsbD wHost.pcie.devCtl 3 = false := by
  repeat' apply And.intro
  all_goals decide +kernel

/-- The hypotheses of O49 (RegisterAccesses) are met, clause by clause. -/
theorem witness_RegisterAccesses :
  2 ≠ 4 ∧
  wHost.writes Port.bar0 12304 = false ∧
  v7_3.writes Port.bar2 65548 = true ∧
  wHost.reach Port.bar2 = true ∧
  Port.bar2 ≠ Port.bar0 ∧ v7_4.grade.hasTile 0 = true ∧
  w0.reach Port.spi = true ∧ (spiParse wRead).len + 2 ≤ wRead.length ∧ (spiParse wRead).words ≤ 1 ∧ (spiParse wRead).status wRead = 0 ∧ field wRead 0 1 = 11 ∧
  wRun.reach Port.spi = true ∧ (spiParse wWrite).len + 2 ≤ wWrite.length ∧ (spiParse wWrite).words ≤ 1 ∧ (spiParse wWrite).status wWrite = 0 ∧ field wWrite 0 1 = 2 ∧
  field [9#8] 0 1 ≠ 11 ∧ field [9#8] 0 1 ≠ 2 ∧
  wHost.pview Port.bar2 = true ∧
  2 ≠ 4 ∧ 2 ≠ 8 ∧
  v7_3.writes Port.bar2 65548 = true ∧ (∃ w, v7_3.w1cAt 65548 = some w) ∧
  v7_23.reach Port.bar2 = false ∧ Port.bar2 ≠ Port.spi ∧ v7_23.aon.mainReset = false ∧ v7_23.pcie.l0 = true ∧
  1 % 4 + 1 ≤ 4 ∧
  4 < 1 % 4 + 4 ∧ ¬(4 = 8 ∧ 1 % 4 = 0) ∧
  Port.bar2 ≠ Port.bar0 ∧ v7_4.grade.hasTile 0 = true ∧ 1 ≠ 0 := by
  repeat' apply And.intro
  all_goals first | decide +kernel | exact ⟨_, rfl⟩

/-- The hypotheses of O50 (ReportsExclusionsAndDiagnosticState) are met, clause by clause. -/
theorem witness_ReportsExclusionsAndDiagnosticState :
  12 ≤ 12 ∧
  13 ≤ 13 ∧
  v7_5.pview Port.bar2 = true ∧ hasKey 3529179141#32 = true ∧
  wHost.pview Port.bar2 = true ∧ hasKey 3529179391#32 = true ∧
  (wHost.pview Port.bar2 = false ∨ hasKey 5#32 = false) ∧
  v7_13.pview Port.bar2 = true ∧ hasKey 3529179905#32 = true ∧ (3529179905#32).getLsbD 0 = true ∧ v7_13.grade.hasTile 0 = true ∧ v7_13.mayDiag 0 = true ∧
  wHost.pview Port.bar2 = true ∧ hasKey 3529179905#32 = true ∧ (3529179905#32).getLsbD 0 = true ∧ wHost.grade.hasTile 0 = true ∧ wHost.mayDiag 0 = false ∧
  v7_14.pview Port.bar2 = true ∧ hasKey 3529179136#32 = true ∧ (3529179136#32).getLsbD 0 = false ∧ v7_14.grade.hasTile 0 = true ∧ (v7_14.tile 0).spm.diag = true ∧
  (1 = 1 ∨ 1 = 3) ∧
  (1 = 1 ∨ 1 = 3) ∧ v7_20.saf.readmitAcc = true ∧ v7_20.saf.readmitTile = 0 ∧ v7_20.saf.readmitT = v7_20.now := by
  repeat' apply And.intro
  all_goals decide +kernel

/-- The hypotheses of O51 (FaultInjection) are met, clause by clause. -/
theorem witness_FaultInjection :
  v7_6.pview Port.bar2 = true ∧ hasKey 3529179137#32 = true ∧ (3529179137#32).getLsbD 0 = true ∧ v7_6.injRefusal (bits (BitVec.toNat v7_6.saf.injSel) 7 0) (bits (BitVec.toNat v7_6.saf.injSel) 15 8) (bits (BitVec.toNat v7_6.saf.injSel) 23 16) = 0 ∧
  v7_7.pview Port.bar2 = true ∧ hasKey 3529179137#32 = true ∧ (3529179137#32).getLsbD 0 = true ∧ v7_7.injRefusal (bits (BitVec.toNat v7_7.saf.injSel) 7 0) (bits (BitVec.toNat v7_7.saf.injSel) 15 8) (bits (BitVec.toNat v7_7.saf.injSel) 23 16) = 2 ∧
  wHost.injOpen = false ∧
  v7_8.pview Port.bar2 = true ∧ hasKey 3529179138#32 = true ∧ (3529179138#32).getLsbD 1 = true ∧ v7_8.saf.injState = InjSt.armed ∧
  v7_9.saf.injState = InjSt.applied ∧
  v7_8.saf.injState = InjSt.armed ∧ v7_8.saf.injCode = 12 ∧
  v7_10.saf.injState = InjSt.armed ∧ v7_10.saf.injCode = 13 ∧
  v7_11.saf.injState = InjSt.armed ∧ v7_11.saf.injCode = 1 ∧
  v7_24.saf.injState = InjSt.armed ∧ v7_24.saf.injCode = 2 ∧
  v7_25.saf.injState = InjSt.armed ∧ v7_25.saf.injCode = 4 ∧
  v7_26.saf.injState = InjSt.armed ∧ v7_26.saf.injCode = 8 ∧
  v7_12.saf.injState = InjSt.armed ∧ v7_12.saf.injCode ∈ [5, 6, 7] ∧
  v7_27.saf.injState = InjSt.armed ∧ v7_27.saf.injCode ∈ [3, 9, 10, 11] ∧
  v7_28.saf.injState = InjSt.applied ∧ v7_28.saf.injCode = 8 := by
  repeat' apply And.intro
  all_goals decide +kernel

/-- The hypotheses of O52 (LinkFencingAndTimers) are met, clause by clause. -/
theorem witness_LinkFencingAndTimers :
  v7_15.pview Port.bar2 = true ∧ 1 < v7_15.grade.links ∧ v7_15.crs.fence.getLsbD 1 = false ∧ (v7_15.linkCfg 1).mode ≠ 1 ∧ (v7_15.link 1).st = LinkSt.up ∧
  v7_16.pview Port.bar2 = true ∧ v7_16.crs.fence.getLsbD 1 = true ∧ 1 < 2 ∧ (v7_16.link 1).st = LinkSt.fenced ∧ v7_16.linkUsed 1 = true ∧
  wUp.receives 1 = true ∧ (wUp.link 1).crcTimes = [] ∧
  (v8_29.link 1).held ≠ [] ∧ (v8_29.link 1).sameRetries < 7 ∧
  (wUp.link 1).st = LinkSt.up ∧
  (v8_30.link 1).st = LinkSt.down ∧ v8_30.linkUsed 1 = true ∧ v8_30.crs.fence.getLsbD 1 = false ∧
  (wTrain.link 1).st = LinkSt.training ∧ (wTrain.link 1).gotHello = false ∧
  (v8_29.link 1).held ≠ [] ∧ (v8_29.link 1).sameRetries < 7 ∧ ({ } : Flit) ∈ ((v8_29.rewind 1).link 1).held ∧
  (v8_32.link 1).nakFor = some 3#8 ∧
  (wUp.link 1).sent.length < 2048 ∧
  2048 ≤ (v8_33.link 1).sent.length ∧
  a8_l.sent.length < 2048 ∧
  2048 ≤ a8_l2.sent.length := by
  repeat' apply And.intro
  all_goals decide +kernel

/-- The hypotheses of O53 (BringUpAndLoader) are met, clause by clause. -/
theorem witness_BringUpAndLoader :
  wBoot.discovering = true ∧ sfdpBad a7_3 = true ∧
  wBoot.discovering = true ∧ sfdpBad a7_4 = false ∧ wBoot.bootSrc < 2 ∧
  v7_17.emmcUnderWay = true ∧
  wBoot.training = true ∧
  wBoot.aon.pllLocked = true ∧ 0 < wBoot.grade.csi ∧ (wBoot.csiPort 0).calibrated = false ∧ (wBoot.csiPort 0).calFail = false ∧
  wRun.sectionFault a7_9 a7_10.data wRun.img.dramBad = some (2, noRec) ∧ wRun.mayRecover a7_9 (2, noRec).1 = false ∧
  a7_10.data = none ∧
  v7_18.ready 7 = true ∧ v7_18.bootSrc < 2 ∧ v7_18.img.started = false ∧ v7_18.img.stopped = false ∧ v7_18.evr.flushing = false ∧ (a7_5.addLoadBytes [a7_6.primary, a7_6.primaryDir, a7_6.alternate, a7_6.alternateDir]).copyDir 0 a7_6.primary a7_6.primaryDir = some ((wDirs wHead).getD []) ∧ (a7_5.addLoadBytes [a7_6.primary, a7_6.primaryDir, a7_6.alternate, a7_6.alternateDir]).copyDir (v7_18.img.densityMiB * 2 ^ 20 / 2) a7_6.alternate a7_6.alternateDir = none ∧
  v7_18.ready 7 = true ∧ v7_18.bootSrc < 2 ∧ v7_18.img.started = false ∧ v7_18.img.stopped = false ∧ v7_18.evr.flushing = false ∧ (a7_5.addLoadBytes [a7_7.primary, a7_7.primaryDir, a7_7.alternate, a7_7.alternateDir]).copyDir 0 a7_7.primary a7_7.primaryDir = none ∧ (a7_5.addLoadBytes [a7_7.primary, a7_7.primaryDir, a7_7.alternate, a7_7.alternateDir]).copyDir (v7_18.img.densityMiB * 2 ^ 20 / 2) a7_7.alternate a7_7.alternateDir = some ((wDirs wHead).getD []) ∧
  v7_18.ready 7 = true ∧ v7_18.bootSrc < 2 ∧ v7_18.img.started = false ∧ v7_18.img.stopped = false ∧ v7_18.evr.flushing = false ∧ (a7_5.addLoadBytes [a7_8.primary, a7_8.primaryDir, a7_8.alternate, a7_8.alternateDir]).copyDir 0 a7_8.primary a7_8.primaryDir = none ∧ (a7_5.addLoadBytes [a7_8.primary, a7_8.primaryDir, a7_8.alternate, a7_8.alternateDir]).copyDir (v7_18.img.densityMiB * 2 ^ 20 / 2) a7_8.alternate a7_8.alternateDir = none ∧
  v7_18.ready 7 = true ∧ v7_18.bootSrc < 2 ∧ v7_18.img.started = false ∧ v7_18.img.stopped = false ∧ v7_18.evr.flushing = false ∧ (a7_5.addLoadBytes [a7_11.primary, a7_11.primaryDir, a7_11.alternate, a7_11.alternateDir]).copyDir 0 a7_11.primary a7_11.primaryDir = some ((wDirs wHead).getD []) ∧ (a7_5.addLoadBytes [a7_11.primary, a7_11.primaryDir, a7_11.alternate, a7_11.alternateDir]).copyDir (v7_18.img.densityMiB * 2 ^ 20 / 2) a7_11.alternate a7_11.alternateDir = some ((wDirs wHead).getD []) ∧
  v7_19.img.cur = some 0 ∧ v7_19.img.stopped = false ∧ v7_19.img.finished = false ∧ (v7_19.evr.flushing = false ∨ (v7_19.img.dir.getD 0 { }).onEmmc = true) ∧
  wRun.sectionFault a7_12 a7_13.data wRun.img.dramBad = none := by
  repeat' apply And.intro
  all_goals decide +kernel

/-- The hypotheses of O54 (AcceptedFlits) are met, clause by clause. -/
theorem witness_AcceptedFlits :
  (v8_1.linkCfg 1).mode ≠ 1 ∧ ((v8_1.link 1).st = LinkSt.up ∨ (v8_1.link 1).st = LinkSt.training) ∧
  (v8_2.link 1).st ≠ LinkSt.up ∧ (v8_2.link 1).st ≠ LinkSt.training ∧
  wUp.receives 1 = true ∧ crcHolds 1 (wF []) = true ∧ BitVec.getLsbD (wF []).lflags 0 = false ∧ BitVec.getLsbD (wF []).lflags 1 = false ∧ (wF []).seq = (wUp.link 1).rxSeq ∧
  wUp.receives 1 = true ∧ crcHolds 1 a8_1 = true ∧ BitVec.getLsbD a8_1.lflags 0 = false ∧ BitVec.getLsbD a8_1.lflags 1 = false ∧ a8_1.seq ≠ (wUp.link 1).rxSeq ∧
  wUp.receives 1 = true ∧ crcHolds 1 a8_5 = false ∧
  wUp.receives 1 = true ∧ crcHolds 0 a8_2 = true ∧ BitVec.getLsbD a8_2.lflags 1 = true ∧
  wUp.receives 1 = true ∧ crcHolds 0 (wF []) = true ∧ BitVec.getLsbD (wF []).lflags 0 = false ∧ BitVec.getLsbD (wF []).lflags 1 = false ∧
  (v8_1.linkCfg 1).mode ≠ 1 ∧ ((v8_1.link 1).st = LinkSt.up ∨ (v8_1.link 1).st = LinkSt.training) ∧ 0 ≠ 1 := by
  repeat' apply And.intro
  all_goals decide +kernel

/-- The hypotheses of O55 (ControlAndPeriodFlits) are met, clause by clause. -/
theorem witness_ControlAndPeriodFlits :
  wTrain.accept 1 1 (wF wHello) = (v8_3, true) ∧ (v8_3.link 1).st = LinkSt.training ∧ v8_3.helloFault 1 (wF wHello).payload = 0 ∧
  wTrain.accept 1 1 (wF []) = (v8_4, true) ∧ (v8_4.link 1).st = LinkSt.training ∧ v8_4.helloFault 1 (wF []).payload ≠ 0 ∧
  wUp.accept 1 1 (wF []) = (v8_5, true) ∧ (v8_5.link 1).st = LinkSt.up ∧
  v8_9.accept 1 2 (wB 2000000) = (v8_10, true) ∧ (v8_10.link 1).st = LinkSt.up ∧ v8_10.prd.anyBoundary = false ∧
  wUp.accept 1 2 (wB 2000000) = (v8_11, true) ∧ (v8_11.link 1).st = LinkSt.up ∧ v8_11.prd.anyBoundary = true ∧ (v8_11.prd.anyBoundary && decide (tDist (bndInfo (wB 2000000).payload).boundary v8_11.prd.boundary < v8_11.prd.pUs * 500)) = false ∧
  v8_12.accept 1 2 wBc = (v8_13, true) ∧ (v8_13.link 1).st = LinkSt.up ∧ (v8_13.prd.anyBoundary && decide (tDist (bndInfo wBc.payload).boundary v8_13.prd.boundary < v8_13.prd.pUs * 500)) = true ∧ v8_13.prd.gen = PrdGen.capo ∧ v8_13.now ≤ v8_13.boundaryNs + 5000 ∧
  wUp.accept 1 2 (wB 1000000) = (v8_14, true) ∧ (v8_14.link 1).st = LinkSt.up ∧ (v8_14.prd.anyBoundary && decide (tDist (bndInfo (wB 1000000).payload).boundary v8_14.prd.boundary < v8_14.prd.pUs * 500)) = true ∧ (v8_14.prd.gen ≠ PrdGen.capo ∨ v8_14.boundaryNs + 5000 < v8_14.now) ∧
  wUp.accept 1 3 (wF [0#8]) = (v8_15, true) ∧ (v8_15.link 1).st = LinkSt.up ∧ v8_15.prd.gen ≠ PrdGen.capo ∧
  wCapoUp.accept 1 3 (wF [0#8]) = (v8_16, true) ∧ (v8_16.link 1).st = LinkSt.up ∧ v8_16.prd.gen = PrdGen.capo ∧
  wUp.accept 1 4 (wF [0#8]) = (v8_34, true) ∧ (v8_34.link 1).st = LinkSt.up ∧ v8_34.prd.gen ≠ PrdGen.capo ∧
  wCapoUp.accept 1 4 (wF [0#8]) = (v8_35, true) ∧ (v8_35.link 1).st = LinkSt.up ∧ v8_35.prd.gen = PrdGen.capo := by
  repeat' apply And.intro
  all_goals decide +kernel

/-- The hypotheses of O56 (MessagesAndPagesAcrossChips) are met, clause by clause. -/
theorem witness_MessagesAndPagesAcrossChips :
  (wHold.link 1).hold = [a8_4] ∧ ((wHold.modLink 1 fun l => { l with hold := [] }).offer 1 a8_4 = ((wHold0.offer 1 a8_4).1, false)) ∧
  (wHoldF.link 1).hold = [a8_4] ∧ ((wHoldF.modLink 1 fun l => { l with hold := [] }).offer 1 a8_4 = ((wHoldF0.offer 1 a8_4).1, true)) ∧
  (v8_17.link 1).st = LinkSt.up ∧ (wUp.link 1).msgA = none ∧ wUp.accept 1 5 (wF []) = (v8_36, true) ∧ (v8_36.link 1).st = LinkSt.up ∧ (v8_36.modLink 1 fun l => { l with msgA := some (wF []).payload }).accept 1 6 a8_3 = (v8_17, true) ∧
  (v8_38.link 1).st = LinkSt.up ∧ (v8_37.link 1).msgA = some [7#8] ∧ v8_37.accept 1 6 (wF []) = (v8_38, true) ∧
  (v8_39.offer 1 (v8_39.remMsg 1 [0#8, 0#8, 0#8, 0#8, 3#8] [])).snd = true ∧ 8 ≤ ((v8_39.offer 1 (v8_39.remMsg 1 [0#8, 0#8, 0#8, 0#8, 3#8] [])).fst.link 1).hold.length ∧
  (wUp.link 1).linked = true ∧ wUp.grade.hasTile a8_4.msg.dst = true ∧ wUp.instOf a8_4.job a8_4.period = some wI7 ∧ wI7.running.contains a8_4.msg.dst = true ∧ ((wUp.link 1).hold.any fun h => h.job == a8_4.job && h.period == a8_4.period && h.msg.src == a8_4.msg.src && h.msg.dst == a8_4.msg.dst && h.msg.mbox == a8_4.msg.mbox) = false ∧ (tget [] (wUp.tile a8_4.msg.dst).tc.mbox a8_4.msg.mbox).length < 4 ∧
  (wFull.link 1).linked = true ∧ wFull.grade.hasTile a8_4.msg.dst = true ∧ wFull.instOf a8_4.job a8_4.period = some wI7 ∧ wI7.running.contains a8_4.msg.dst = true ∧ (((wFull.link 1).hold.any fun h => h.job == a8_4.job && h.period == a8_4.period && h.msg.src == a8_4.msg.src && h.msg.dst == a8_4.msg.dst && h.msg.mbox == a8_4.msg.mbox) = true ∨ 4 ≤ (tget [] (wFull.tile a8_4.msg.dst).tc.mbox a8_4.msg.mbox).length) ∧
  wUp.accept 1 7 (wF [0#8, 0#8, 2#8]) = (v8_20, true) ∧ (v8_20.link 1).st = LinkSt.up ∧ v8_20.leads 1 (field (wF [0#8, 0#8, 2#8]).payload 0 1) = false ∧
  v8_21.accept 1 7 (wF [0#8, 0#8, 2#8]) = (v8_22, true) ∧ (v8_22.link 1).st = LinkSt.up ∧ v8_22.leads 1 (field (wF [0#8, 0#8, 2#8]).payload 0 1) = true ∧ v8_22.dram.poisoned.contains (field (wF [0#8, 0#8, 2#8]).payload 0 1, field (wF [0#8, 0#8, 2#8]).payload 2 4) = true ∧
  wLead.accept 1 7 (wF [0#8, 0#8, 2#8]) = (v8_23, true) ∧ (v8_23.link 1).st = LinkSt.up ∧ v8_23.leads 1 (field (wF [0#8, 0#8, 2#8]).payload 0 1) = true ∧ v8_23.dram.poisoned.contains (field (wF [0#8, 0#8, 2#8]).payload 0 1, field (wF [0#8, 0#8, 2#8]).payload 2 4) = false ∧
  v8_24.accept 1 8 (wF [0#8, 1#8, 2#8]) = (v8_25, true) ∧ (v8_25.link 1).st = LinkSt.up ∧ (v8_25.remoteEntry (field (wF [0#8, 1#8, 2#8]).payload 0 1) (field (wF [0#8, 1#8, 2#8]).payload 2 4)).isSome = true ∧ bitOf (field (wF [0#8, 1#8, 2#8]).payload 1 1) 0 = true ∧
  v8_24.accept 1 8 (wF [0#8, 0#8, 2#8]) = (v8_26, true) ∧ (v8_26.link 1).st = LinkSt.up ∧ (v8_26.remoteEntry (field (wF [0#8, 0#8, 2#8]).payload 0 1) (field (wF [0#8, 0#8, 2#8]).payload 2 4)).isSome = true ∧ bitOf (field (wF [0#8, 0#8, 2#8]).payload 1 1) 0 = false ∧
  wUp.accept 1 8 (wF [0#8, 0#8, 2#8]) = (v8_40, true) ∧ (v8_40.link 1).st = LinkSt.up ∧ v8_40.remoteEntry (field (wF [0#8, 0#8, 2#8]).payload 0 1) (field (wF [0#8, 0#8, 2#8]).payload 2 4) = none ∧
  wUp.accept 1 9 (wF [0#8, 0#8, 2#8]) = (v8_41, true) ∧ (v8_41.link 1).st = LinkSt.up ∧ (v8_41.link 1).pageNet = none ∧
  v8_27.accept 1 9 (wF [0#8, 0#8, 2#8]) = (v8_28, true) ∧ (v8_28.link 1).st = LinkSt.up ∧ (v8_28.link 1).pageNet = some (0, 2) ∧ ((v8_28.link 1).pageData ++ pad26 (wF [0#8, 0#8, 2#8]).payload).length < 16384 := by
  repeat' apply And.intro
  all_goals decide +kernel

/-- The hypotheses of O57 (HoistCommandsTaken) are met, clause by clause. -/
theorem witness_HoistCommandsTaken :
  (a9_1.path = HPath.sc ∧ wH.hoist.canCmd = some a9_1.counter ∨ a9_1.path = HPath.host ∧ wH.hoist.eid = 0#8) ∧
  hRight 67 (wHa []).path = 0 ∧
  hRight 16 a9_3.path = 2 ∧ v9_6.hoist.service = false ∧
  hRight 1 (wHa []).path = 1 ∧ false = false ∧
  hRight 1 (wHa []).path = 1 ∧ true = true ∧ (wHa []).slot < 4 ∧ (wH.hslot (wHa []).slot).st ≠ HSlotSt.empty ∧ (wH.hslot (wHa []).slot).holder = 0 ∧ (wH.hslot (wHa []).slot).action = none := by
  repeat' apply And.intro
  all_goals decide +kernel

/-- The hypotheses of O58 (HoistCommandEffects) are met, clause by clause. -/
theorem witness_HoistCommandEffects :
  hTakes wH (wHa []) ∧ wH.hRefusal 1 (wHa []) ((wHa []).len 0) = none ∧
  hTakes wH (wHa []) ∧ wH.hRefusal 2 (wHa []) ((wHa []).len 0) = none ∧ (wHa []).slot < 4 ∧
  hTakes v9_3 (wHa [0#8, 0#8, 0#8, 0#8, 1#8]) ∧ v9_3.hoist.record (wordAt (wHa [0#8, 0#8, 0#8, 0#8, 1#8]).args 0) = some a9_2 ∧ v9_3.hRefusal 3 (wHa [0#8, 0#8, 0#8, 0#8, 1#8]) ((wHa [0#8, 0#8, 0#8, 0#8, 1#8]).len 5 && decide ((wHa [0#8, 0#8, 0#8, 0#8, 1#8]).arg 4 < 2)) = none ∧
  hTakes wH (wHa []) ∧ wH.hRefusal 16 (wHa []) ((wHa []).len 0) = none ∧ wH.oneOut (wHa []).slot = false ∧
  hTakes wHout (wHa []) ∧ wHout.hRefusal 17 (wHa []) ((wHa []).len 0) = none ∧ wHout.inRefusal (wHa []) = none ∧
  hTakes wH (wHa []) ∧ wH.hRefusal 18 (wHa []) ((wHa []).len 0) = none ∧ wH.hoist.trayLatch = false ∧ (wH.hslot (wHa []).slot).shdnLatch = false ∧ (wH.hslot (wHa []).slot).ocLatch = false ∧ wH.oneOut (wHa []).slot = false ∧
  hTakes wH (wHa []) ∧ wH.hRefusal 19 (wHa []) ((wHa []).len 0) = none ∧
  hTakes wH (wHa []) ∧ wH.hRefusal 20 (wHa []) ((wHa []).len 0) = none ∧
  hTakes wH (wHa [6#8]) ∧ wH.hRefusal 32 (wHa [6#8]) ((wHa [6#8]).len 1) = none ∧
  hTakes wH (wHa [3#8, 1#8]) ∧ wH.hRefusal 33 (wHa [3#8, 1#8]) ((wHa [3#8, 1#8]).len 2 && decide ((wHa [3#8, 1#8]).arg 0 < 4) && decide ((wHa [3#8, 1#8]).arg 1 < 2)) = none ∧
  hTakes wH (wHa [15#8]) ∧ wH.hRefusal 34 (wHa [15#8]) ((wHa [15#8]).len 1 && decide ((wHa [15#8]).arg 0 < 16)) = none ∧
  hTakes wH (wHa [0#8, 0#8, 0#8, 0#8, 2#8]) ∧ wH.hRefusal 48 (wHa [0#8, 0#8, 0#8, 0#8, 2#8]) ((wHa [0#8, 0#8, 0#8, 0#8, 2#8]).len 5 && decide (1 ≤ (wHa [0#8, 0#8, 0#8, 0#8, 2#8]).arg 4) && decide ((wHa [0#8, 0#8, 0#8, 0#8, 2#8]).arg 4 ≤ 8)) = none ∧ [1#32, 2#32].length = (wHa [0#8, 0#8, 0#8, 0#8, 2#8]).arg 4 ∧ BitVec.toNat (wordAt (wHa [0#8, 0#8, 0#8, 0#8, 2#8]).args 0) % 4 = 0 ∧
  hTakes wH (wHa [64#8, 32#8, 0#8, 0#8, 1#8, 5#8, 0#8, 0#8, 0#8]) ∧ wH.hRefusal 49 (wHa [64#8, 32#8, 0#8, 0#8, 1#8, 5#8, 0#8, 0#8, 0#8]) (decide (1 ≤ (wHa [64#8, 32#8, 0#8, 0#8, 1#8, 5#8, 0#8, 0#8, 0#8]).arg 4) && decide ((wHa [64#8, 32#8, 0#8, 0#8, 1#8, 5#8, 0#8, 0#8, 0#8]).arg 4 ≤ 8) && (wHa [64#8, 32#8, 0#8, 0#8, 1#8, 5#8, 0#8, 0#8, 0#8]).len (5 + 4 * (wHa [64#8, 32#8, 0#8, 0#8, 1#8, 5#8, 0#8, 0#8, 0#8]).arg 4)) = none ∧ BitVec.toNat (wordAt (wHa [64#8, 32#8, 0#8, 0#8, 1#8, 5#8, 0#8, 0#8, 0#8]).args 0) % 4 = 0 ∧ (((List.range ((wHa [64#8, 32#8, 0#8, 0#8, 1#8, 5#8, 0#8, 0#8, 0#8]).arg 4)).any fun i => ownedRegs.contains ((BitVec.toNat (wordAt (wHa [64#8, 32#8, 0#8, 0#8, 1#8, 5#8, 0#8, 0#8, 0#8]).args 0) + 4 * i) / 4 * 4)) = false) ∧
  hTakes wH (wHa [10#8, 0#8]) ∧ wH.hRefusal 64 (wHa [10#8, 0#8]) ((wHa [10#8, 0#8]).len 2 && decide (1 ≤ field (wHa [10#8, 0#8]).args 0 2) && decide (field (wHa [10#8, 0#8]).args 0 2 ≤ 3600)) = none ∧
  hTakes wH (wHa []) ∧ wH.hRefusal 65 (wHa []) ((wHa []).len 0) = none ∧
  hTakes v9_4 (wHa [2#8]) ∧ v9_4.hRefusal 66 (wHa [2#8]) ((wHa [2#8]).len 1) = none ∧ (wHa [2#8]).arg 0 = 2 ∧
  hTakes wHout a9_3 ∧ wHout.hRefusal 67 a9_3 (a9_3.len 0) = none ∧ (wHout.hslot a9_3.slot).st = HSlotSt.out ∧
  hTakes v9_5 (wHa []) ∧ v9_5.hRefusal 68 (wHa []) ((wHa []).len 0) = none ∧ (v9_5.hslot (wHa []).slot).contested = true ∧
  hTakes v9_7 (wHa [1#8]) ∧ v9_7.hRefusal 66 (wHa [1#8]) ((wHa [1#8]).len 1) = none ∧ (wHa [1#8]).arg 0 = 1 ∧ v9_7.hoist.ropeAWet = false ∧ v9_7.hoist.ropeBWet = false ∧ 60000000 ≤ v9_7.hoist.dryUs ∧
  hTakes wH (wHa []) ∧ wH.hRefusal 68 (wHa []) ((wHa []).len 0) = none ∧ (wH.hslot (wHa []).slot).contested = false := by
  repeat' apply And.intro
  all_goals decide +kernel

/-- The hypotheses of O59 (HoistFrames) are met, clause by clause. -/
theorem witness_HoistFrames :
  canValid wH.hoist.canHb [] = false ∧
  canValid wH.hoist.canHb wHb = true ∧ wH.hoist.scPresent = true ∧
  1 < 4 ∧
  9#8 ≠ 0#8 ∧ 9#8 ≠ 255#8 := by
  repeat' apply And.intro
  all_goals decide +kernel

/-- The hypotheses of O60 (HoistInterlocksAndSamples) are met, clause by clause. -/
theorem witness_HoistInterlocksAndSamples :
  1 < 4 ∧ (wH.hslot 1).efuse = true ∧
  1 < 4 ∧ (wHout.hslot 1).efuse = false ∧
  wH.hoist.trips = [] ∧ (∀ p < 4, (wH.hslot p).action = none) ∧ (∀ i ∈ [a9_4, a9_4, a9_4, a9_4], i.prsntN = false) ∧
  50 ≤ 50 ∧ 50 < 200 ∧
  50 ≤ 199 ∧ 199 < 200 ∧
  (v9_11.hslot 1).read.answered = true ∧ (v9_11.hslot 1).merged = (v9_11.hslot 1).read.owned ∧
  1 < 4 ∧ (v9_12.hslot 1).prsntN = false ∧ (v9_12.hslot 1).powerNow ≠ 3 ∧ (v9_12.hslot 1).contested = false ∧ (v9_12.hslot 1).caseNow (v9_12.hslot 1).powerNow (v9_12.trafficNow 1) ≠ 0 := by
  repeat' apply And.intro
  all_goals decide +kernel

/-- A word and its successor differ. -/
theorem add_one_ne (x : BitVec 32) : x + 1#32 ≠ x := by bv_omega

/-- The hypotheses of the clause of O44 on a spilled fret whose check value does not match are met. -/
theorem witness_spillMismatch : (v6_26.tile 0).spm.restoring = some (33, 0, 5, 1) ∧ tget none v6_26.dram.slots 5 = some a6_s5 ∧ a6_s5.bad = false ∧
    v6_26.dramLost (v6_26.dram.slotBase + 4096 * 5) 4096 = false ∧
    a6_s5.crc ≠ crc32c (memRead (0#8) v6_26.dram.mem (v6_26.dram.slotBase + 4096 * 5) 4096) :=
  ⟨by decide +kernel, rfl, rfl, by decide +kernel, add_one_ne (crc32c (memRead 0#8 [] 28672 4096))⟩

/-- The last flit of a page brings it to 16,384 bytes. -/
theorem page_length : 16384 ≤ (List.replicate 16380 0#8 ++ pad26 []).length := by
  rw [List.length_append, List.length_replicate]; decide

/-- The hypotheses of the clauses of O56 on the last flit of a page are met. -/
theorem witness_lastPageFlit :
  v8_42.accept 1 9 (wF []) = (v8_43, true) ∧ (v8_43.link 1).st = LinkSt.up ∧ (v8_43.link 1).pageNet = some (0, 2) ∧ 16384 ≤ ((v8_43.link 1).pageData ++ pad26 (wF []).payload).length ∧ (v8_43.modLink 1 fun l => { l with pageNet := none, pageData := [], pagesRx := l.pagesRx + 1 }).remoteEntry 0 2 = none ∧
  v8_44.accept 1 9 (wF []) = (v8_45, true) ∧ (v8_45.link 1).st = LinkSt.up ∧ (v8_45.link 1).pageNet = some (0, 2) ∧ 16384 ≤ ((v8_45.link 1).pageData ++ pad26 (wF []).payload).length ∧ (v8_45.modLink 1 fun l => { l with pageNet := none, pageData := [], pagesRx := l.pagesRx + 1 }).remoteEntry 0 2 = some { page := 2, remote := true } :=
  ⟨rfl, by decide +kernel, by decide +kernel, page_length, by decide +kernel, rfl, by decide +kernel, by decide +kernel, page_length, by decide +kernel⟩

/-- The hypotheses of the clauses of O43 on a pass that drains and one that completes are met: the blocks and regions of the
pass are read. -/
theorem witness_passComplete : ∃ bl inp epi,
    (v6_3.tile a6_16.tile).arr.running = [wPass] ∧ v6_3.inst wPass.inst = some wI7 ∧ a6_16.accCorr = false ∧
    a6_16.accUncorr = false ∧ a6_16.spmCorr = false ∧ a6_16.spmUncorr = false ∧
    ((List.range (Desc.ofBytes wPass.bytes).steps).mapM fun k => passBlock v6_3 0 wI7 wPass (Desc.ofBytes wPass.bytes) k) =
      some bl ∧ bl.any (·.2) = false ∧
    regionRead v6_3 0 wI7 (Desc.ofBytes wPass.bytes).hIn false (Desc.ofBytes wPass.bytes).inputs = some inp ∧
    ((Desc.ofBytes wPass.bytes).writes = true →
      (regionRead v6_3 0 wI7 (Desc.ofBytes wPass.bytes).hOut true (Desc.ofBytes wPass.bytes).outputs).isSome = true) ∧
    (if (Desc.ofBytes wPass.bytes).needsEpi then
        regionRead v6_3 0 wI7 (Desc.ofBytes wPass.bytes).hEpi false (Desc.ofBytes wPass.bytes).epiRange
      else some fun _ => 0#8) = some epi ∧ a6_16.upTo = none ∧ a6_17.upTo = some 4 ∧ a6_17.tile = a6_16.tile := by
  refine ⟨_, _, _, by decide +kernel, by decide +kernel, rfl, rfl, rfl, rfl, rfl, by decide +kernel, rfl, by decide +kernel, rfl,
    rfl, rfl, rfl⟩

/-! ## The reset state and the queue -/

/-- State.reset meets the invariants of O3 to O5. -/
theorem test_reset_bounds : queueBounded State.reset ∧ memoryCanonical State.reset :=
  ⟨by unfold queueBounded; decide +kernel, by unfold memoryCanonical; decide +kernel⟩

/-- A device whose trip output is low and whose oscillator has stopped. -/
def wStopped : State := { w0 with aon := { w0.aon with thermShdnN := false, oscRunning := false } }

/-- A queue that is not empty: the hypotheses of O3 to O5 are met by a state whose front command runs. -/
theorem witness_step : ∃ t, queueBounded wStopped ∧ memoryCanonical wStopped ∧
    step { wStopped with pending := [.leak 0, .coldStart] } = .next t ∧ runs 1 { wStopped with pending := [.leak 0, .coldStart] } t ∧
    t.pending = [.coldStart] ∧
    ({ wStopped with pending := [.leak 0, .coldStart] } : State).pending.head? ≠ some .coldStart ∧
    (∀ x, ({ wStopped with pending := [.leak 0, .coldStart] } : State).pending.head? ≠ some (.internalResetRelease x)) ∧
    wStopped.aon.thermShdnN = false ∧ wStopped.aon.oscRunning = false :=
  ⟨_, by unfold queueBounded; decide +kernel, by unfold memoryCanonical; decide +kernel, rfl, ⟨_, rfl, rfl⟩, rfl, by decide +kernel,
    (by intro x h; cases h), rfl, rfl⟩

/-- The retention part is as R93 and R494 have it after a cold start: STARTS is 1. -/
theorem test_reset_starts : State.reset.evr.starts = 1#32 ∧ State.reset.evr.ring = [] := by decide +kernel

/-- A tick leaves everything but the device time. -/
theorem test_tick_keeps : (State.tick w0).tiles = w0.tiles ∧ (State.tick w0).prd = w0.prd := ⟨rfl, rfl⟩

/-! ## Values the spec gives -/

/-- "123456789" in ASCII. -/
def nine : List Byte := [0x31#8, 0x32#8, 0x33#8, 0x34#8, 0x35#8, 0x36#8, 0x37#8, 0x38#8, 0x39#8]

/-- R64: the check value of CRC-64/ECMA-182. -/
theorem test_crc64 : crc64 nine = 0x6C40DF5F0B497347#64 := by decide +kernel

/-- R119: the check value of CRC-32C. -/
theorem test_crc32c : crc32c nine = 0xE3069283#32 := by decide +kernel

/-- R201: the check value of CRC-16/CCITT-FALSE. -/
theorem test_crc16 : crc16 nine = 0x29B1 := by decide +kernel

/-- The worked example "identifying a part": SYS_ID of a DZ16 at B0. -/
theorem test_sysId : sysId { w0 with grade := .dz16 } = 0xC3E11010#32 := by decide +kernel

/-- The worked example "a tile window on DZ8": the window of tile 83 is that of row 5, column 3; tile 8 is absent. -/
theorem test_tileWindow :
    Grade.dz8.hasTile ((0x1530000 - 0x1000000) / 65536) = true ∧ (0x1530000 - 0x1000000) / 65536 = 5 * 16 + 3 ∧
    (({ w0 with grade := .dz8 } : State).readReg .bar2 0x1080000).1 = 0#32 := by decide +kernel

/-- The worked example "a camera context": 5,760 bytes a line. -/
theorem test_lineBytes : ({ geom := 0xA21C0F00#32 } : StreamCfg).lineBytes = 5760 := by decide +kernel

/-- The same example: the context of stream 37 appears at 0x0004_0250. -/
theorem test_context :
    (({ w0 with img := { streams := [(37, { geom := 0xA21C0F00#32, bind := 0x0021CC02#32 })] } } : State).readReg
      .bar2 0x40250).1 = 0xA21C0F00#32 ∧
    (({ w0 with img := { streams := [(37, { geom := 0xA21C0F00#32, bind := 0x0021CC02#32 })] } } : State).readReg
      .bar2 0x40254).1 = 0x0021CC02#32 := by decide +kernel

/-- The worked example "packing a page": 1,000 bytes take 1,120, 20,000 bytes take 20,096. -/
theorem test_recSize : recSize 1000 = 1120 ∧ recSize 20000 = 20096 := by decide +kernel

/-- The worked example "a grant that spills": 8 frets of class 2 wait for 12 victims of class 3. -/
theorem test_victims :
    roomFor [24, 16, 0, 0] [10, 20, 0, 40] 10 2 = -4 ∧
    (chooseVictims [24, 16, 0, 0] 8 2 [10, 20, 0, 40] 10 ((List.range 40).map fun f => (f, 3))).map List.length = some 12 := by
  decide +kernel

/-- The same example: class 0 is then granted 14 of the 14 frets left. -/
theorem test_reserve : roomFor [24, 16, 0, 0] [10, 20, 8, 28] 14 0 = 14 := by decide +kernel

/-- The worked example "deadline arithmetic in one slot": the boundary of period 7,200,123. -/
theorem test_grid : gridFrom 0 10000000 72001229999999 = 7200123 * 10000000 := by decide +kernel

/-! ## One instruction each -/

/-- The core of tile 0 after an instruction. -/
def core (o : Host.Outcome State Fault Refusal) : Tc :=
  match o with
  | .next s => (s.tile 0).tc
  | _ => {}

/-- ADD wraps (R333). -/
theorem test_add_wraps : (core (exec (.add { tile := 0, rd := 3#5, ra := 1#5, rb := 2#5 }) (wC 0xFFFFFFFF#32 2#32))).sreg 3 = 1#32 := by
  decide +kernel

/-- s0 ignores a write (R333). -/
theorem test_add_s0 : (core (exec (.add { tile := 0, rd := 0#5, ra := 1#5, rb := 2#5 }) (wC 5#32 2#32))).sreg 0 = 0#32 := by
  decide +kernel

/-- DIV by zero gives all ones, and -2^31 by -1 gives -2^31 (R333). -/
theorem test_div_corners :
    (core (exec (.div { tile := 0, rd := 3#5, ra := 1#5, rb := 2#5 }) (wC 7#32 0#32))).sreg 3 = 0xFFFFFFFF#32 ∧
    (core (exec (.div { tile := 0, rd := 3#5, ra := 1#5, rb := 2#5 }) (wC 0x80000000#32 0xFFFFFFFF#32))).sreg 3 =
      0x80000000#32 := by decide +kernel

/-- REM by zero gives the dividend (R333). -/
theorem test_rem_zero : (core (exec (.rem { tile := 0, rd := 3#5, ra := 1#5, rb := 2#5 }) (wC 7#32 0#32))).sreg 3 = 7#32 := by
  decide +kernel

/-- SRA shifts by the low five bits and keeps the sign (R333). -/
theorem test_sra : (core (exec (.sra { tile := 0, rd := 3#5, ra := 1#5, rb := 2#5 }) (wC 0x80000000#32 33#32))).sreg 3 =
    0xC0000000#32 := by decide +kernel

/-- The worked example "a summing loop and a pass": BNE back by three words, here from 0x0040. -/
theorem test_bne : (core (exec (.bne { tile := 0, ra := 1#5, rb := 2#5, off := 0xFFFD#16 }) (wC 4#32 8#32))).pc = 0x34#16 := by
  decide +kernel

/-- A load is little-endian and sign-extends (R337). -/
theorem test_lh : (core (exec (.lh { tile := 0, rd := 3#5, ra := 1#5, h := 0#3 }) (wC 1024#32 8#32))).sreg 3 = 0x0702#32 := by
  decide +kernel

/-- An undefined shape: a reserved field that is not zero stops the thread with cause ILLEGAL (R365). -/
theorem test_illegal : (core (exec (.clz { tile := 0, rd := 3#5, ra := 1#5, rb := 2#5 }) (wC 4#32 8#32))).exc &&& 0xFF#32 = 1#32 := by
  decide +kernel

/-! ## Well-formedness -/

/-- Ill-formed operands, one check of Instr.wf each (1 of 4). -/
theorem test_wf_refuses_1 :
    ([
    .supplyMonitorCross 32 0 {}, .supplyMonitorCross 0 0 { sentinel := [(256, 0, 0#64)] }, .pllLockLoss 5 0 {},
    .pllLockLoss 0 0 { sentinel := [(256, 0, 0#64)] }, .pllFreqWindowEnd 0#5 0 { sentinel := [(256, 0, 0#64)] },
    .referenceLoss 0 { sentinel := [(256, 0, 0#64)] }, .ddrPllLockLoss 16 0 {},
    .ddrPllLockLoss 0 0 { sentinel := [(256, 0, 0#64)] }, .courseTxPllLoss 2,
    .tempSample [] 0 { sentinel := [(256, 0, 0#64)] }, .prdAbort .bar2 0#32 0 { sentinel := [(256, 0, 0#64)] },
    .boundary { sentinel := [(256, 0, 0#64)] }, .boundary { sentinel := [(0, 3, 0#64)] },
    .boundary { lateTiles := [256] }, .boundary { silent := [256] }, .scrubFretDone 256, .jobBind 4096,
    .latestStartRetest 4096, .dispatch 256 0, .overrunStart 4096, .deadlineKill 4096, .csiFs 12 0 0 0 {},
    .csiFs 0 32 0 0 {}, .csiFs 0 0 65536 0 {}, .csiFe 12 0 0 0 {}, .csiFe 0 32 0 0 {}, .csiFe 0 0 65536 0 {},
    .csiLs 12 0 0 {}, .csiLs 0 32 0 {}, .csiLs 0 0 65536 {}, .csiLe 12 0 0 {}, .csiLe 0 32 0 {}, .csiLe 0 0 65536 {},
    .csiLongPacket { port := 12, vc := 0, dt := 0, data := [] },
    .csiLongPacket { port := 0, vc := 32, dt := 0, data := [] },
    .csiLongPacket { port := 0, vc := 0, dt := 64, data := [] }, .csiDiscardPacket 12 .null {},
    .ethFrame { port := 4, data := [] }, .t1sFrame { port := 2, data := [] }, .plcaOpportunityExpiry 2,
    .plcaRecovery 2 false, .plcaRecoverySilenceEnd 2, .ethLinkUp 4 0, .ethLinkDown 4, .dphyCalibrationDone 12 false] : List Instr).all (fun c => !c.wf) = true := by decide +kernel

/-- Ill-formed operands, one check of Instr.wf each (2 of 4). -/
theorem test_wf_refuses_2 :
    ([
    .frameWindowEnd 4096, .lineCheck 4096 0 none, .bandBuild 4096 0 0, .bandBuild 0 5 0, .frameCompletion 4096 0,
    .passStart 256, .passComplete { tile := 256 }, .memopComplete 256 0, .memopComplete 0 5, .allocRequestDecision 256 0,
    .spillComplete 256 0, .spillComplete 0 3, .eventEntryWrite [(4096, 0)],
    .eventEntryWrite [(0, 3)], .restoreComplete 256, .pageStaged 256 0 0 false, .pageInject 256 0,
    .pageUsable 256 0 0 {}, .pageUsable 0 256 0 {}, .pageFree 256 0 false, .partReadDone 256 0, .dramRefresh 16 0,
    .msgArrive 256 0 0 0, .msgArrive 0 256 0 0, .msgArrive 0 0 8 0, .msgArrive 0 0 0 3, .msgRetry 256, .wdogExpire 256, .recordCommit 256 0 true,
    .pagePublish 256, .summaryPlace 256 0, .registerWrite .bar2 (2 ^ 32) 0#64 4, .registerWrite .bar2 0 0#64 4097,
    .registerWrite .bar2 0 0#64 0, .w1cWrite .bar2 (2 ^ 32) 0#32 0#32, .rcRead .bar2 (2 ^ 32) 4, .rcRead .bar2 0 3, .rslLowRead .bar2 0 3, .registerWrite .bar2 0 0#64 3,
    .rslLowRead .bar2 (2 ^ 32) 4, .ringRunStart .bar2 256 0#32, .ringRunStop .bar2 256 0#32,
    .ringBaseWrite .bar2 256 false 0#32, .ringConsWrite .bar2 256 0#32, .linkFence .bar2 2, .linkUnfence .bar2 2,
    .injectionApply 0 [] { sentinel := [(256, 0, 0#64)] }, .diagEnter .bar2 256 0#32, .diagExit .bar2 256 0#32,
    .ethAddrWrite .bar2 4 false 0#32, .flitIdle 2 { payload := List.replicate 26 0#8 }, .flitIdle 0 {},
    .hello 2 { payload := List.replicate 26 0#8 }] : List Instr).all (fun c => !c.wf) = true := by decide +kernel

/-- Ill-formed operands, one check of Instr.wf each (3 of 4). -/
theorem test_wf_refuses_3 :
    ([
    .hello 0 {}, .crsStartFlit 2 { payload := List.replicate 26 0#8 }, .crsStartFlit 0 {},
    .share 2 { payload := List.replicate 26 0#8 }, .share 0 {}, .planinfo 2 { payload := List.replicate 26 0#8 },
    .planinfo 0 {}, .boundaryFlit 2 { payload := List.replicate 26 0#8 }, .boundaryFlit 0 {},
    .digestFlit 2 { payload := List.replicate 26 0#8 }, .digestFlit 0 {},
    .endFlit 2 { payload := List.replicate 26 0#8 }, .endFlit 0 {},
    .msgPair 2 { payload := List.replicate 26 0#8 } { payload := List.replicate 26 0#8 },
    .msgPair 0 {} { payload := List.replicate 26 0#8 }, .msgPair 0 { payload := List.replicate 26 0#8 } {},
    .pageReq 2 { payload := List.replicate 26 0#8 }, .pageReq 0 {}, .pageHead 2 { payload := List.replicate 26 0#8 },
    .pageHead 0 {}, .pageData 2 { payload := List.replicate 26 0#8 }, .pageData 0 {}, .flitCrcFail 2 false 0,
    .replayTimerExpiry 2, .linkSilenceTimeout 2, .laneLockLoss 2, .linkRetrainTimer 2, .helloTimer 2, .skipInsert 2,
    .remoteMsgReoffer 2, .sharedPageFallback 256 0, .canFrameDiscard 2048 [], .getStatus { path := .sc, slot := 4 },
    .getStatus { path := .sc, slot := 0, args := List.replicate 247 0#8 }, .getSensors { path := .sc, slot := 4 },
    .getLog { path := .sc, slot := 4 }, .moduleOut { path := .sc, slot := 4 }, .moduleIn { path := .sc, slot := 4 },
    .moduleCycle { path := .sc, slot := 4 }, .moduleReset { path := .sc, slot := 4 },
    .moduleKill { path := .sc, slot := 4 }, .shed { path := .sc, slot := 4 }, .fence { path := .sc, slot := 4 },
    .forceAbsent { path := .sc, slot := 4 }, .pviewRead { path := .sc, slot := 4 } none] : List Instr).all (fun c => !c.wf) = true := by decide +kernel

/-- Ill-formed operands, one check of Instr.wf each (4 of 4). -/
theorem test_wf_refuses_4 :
    ([
    .pviewWrite { path := .sc, slot := 4 } false, .hold { path := .sc, slot := 4 },
    .holdRelease { path := .sc, slot := 4 }, .holdExpiry 4, .interlockClear { path := .sc, slot := 4 },
    .latchRelease { path := .sc, slot := 4 }, .clearContest { path := .sc, slot := 4 }, .leak 2, .shdn 4,
    .moduleOc 4, .yanked 4, .railSample {},
    .railSample { slots := List.replicate 4 {}, reads := List.replicate 5 {} },
    .linkPinSample { slots := List.replicate 5 (false, false, false) }, .moduleRegisterPoll (List.replicate 5 {}),
    .examinationPoint (List.replicate 5 {}), .hoistStart {} [],
    .hoistStart { slots := List.replicate 4 {}, reads := List.replicate 5 {} } [],
    .hoistStart { slots := List.replicate 4 {} } (List.replicate 5 {}), .csiClockLaneChange 12 false] : List Instr).all (fun c => !c.wf) = true := by decide +kernel

/-- Ill-formed surroundings of an instruction, one check of TEnv.wf each. -/
def badEnvs : List TEnv :=
  [{ ecc := 5 }, { dataEcc := 3 }, { queueEcc := 3 }, { queued := 17 }, { peers := [(256, 1, 0)] }, { peers := [(0, 0, 0)] },
   { peers := [(0, 13, 0)] }, { peers := [(0, 1, 5)] }]

/-- An absent tile number and an unknown error code are refused, a plain RFmt instruction is not. -/
theorem test_wf_RFmt :
    ([
    .add, .sub, .and, .or, .xor, .sll, .srl, .sra, .slt, .sltu, .min, .max, .minu, .maxu, .mul, .mulh, .mulhu, .div,
    .divu, .rem, .remu, .clz, .popc, .nop, .halt, .wdarm, .wdkick, .wdoff, .bind, .bindd, .alloc, .free, .pagerSub,
    .retire, .adv, .pread, .hread, .apass, .mop, .waitc, .rpub, .send, .recv, .mcount, .rldv, .rstv, .gen, .claim,
    .init, .feedb, .feedh, .feedw, .feedv, .cvRead, .cvRelease, .dopen, .dclose, .dreadl, .dreadh, .pand, .por,
    .pxor, .pnot, .pset, .pget] : List (RFmt → Instr)).all (fun f => (f { tile := 255 }).wf &&
      !(f { tile := 256 }).wf &&
      badEnvs.all fun e => !(f { tile := 0, env := e }).wf) = true := by decide +kernel

/-- An absent tile number and an unknown error code are refused, a plain IFmt instruction is not. -/
theorem test_wf_IFmt :
    ([
    .addi, .andi, .ori, .xori, .slti, .lui, .shi, .jalr, .csrr] : List (IFmt → Instr)).all (fun f => (f { tile := 255 }).wf &&
      !(f { tile := 256 }).wf &&
      badEnvs.all fun e => !(f { tile := 0, env := e }).wf) = true := by decide +kernel

/-- An absent tile number and an unknown error code are refused, a plain MFmt instruction is not. -/
theorem test_wf_MFmt :
    ([
    .lb, .lbu, .lh, .lhu, .lw, .sb, .sh, .sw, .vld, .vst] : List (MFmt → Instr)).all (fun f => (f { tile := 255 }).wf &&
      !(f { tile := 256 }).wf &&
      badEnvs.all fun e => !(f { tile := 0, env := e }).wf) = true := by decide +kernel

/-- An absent tile number and an unknown error code are refused, a plain BFmt instruction is not. -/
theorem test_wf_BFmt :
    ([
    .beq, .bne, .blt, .bge, .bltu, .bgeu] : List (BFmt → Instr)).all (fun f => (f { tile := 255 }).wf &&
      !(f { tile := 256 }).wf &&
      badEnvs.all fun e => !(f { tile := 0, env := e }).wf) = true := by decide +kernel

/-- An absent tile number and an unknown error code are refused, a plain JFmt instruction is not. -/
theorem test_wf_JFmt :
    ([
    .jal] : List (JFmt → Instr)).all (fun f => (f { tile := 255 }).wf &&
      !(f { tile := 256 }).wf &&
      badEnvs.all fun e => !(f { tile := 0, env := e }).wf) = true := by decide +kernel

/-- An absent tile number and an unknown error code are refused, a plain VFmt instruction is not. -/
theorem test_wf_VFmt :
    ([
    .vadd, .vsub, .vmul, .vmulh, .vmin, .vmax, .vminu, .vmaxu, .vand, .vor, .vxor, .vsll, .vsra, .vsrl, .vadds,
    .vsubs, .vabs, .vsel, .vrsra, .vfadd, .vfsub, .vfmul, .vfma, .vfmin, .vfmax, .vfrcp, .vfexp2, .vcmp, .vcvt,
    .vshuf, .vcomp, .vsort, .vmrgh, .vmrgl] : List (VFmt → Instr)).all (fun f => (f { tile := 255 }).wf &&
      !(f { tile := 256 }).wf &&
      badEnvs.all fun e => !(f { tile := 0, env := e }).wf) = true := by decide +kernel

/-- An absent tile number and an unknown error code are refused, a plain XFmt instruction is not. -/
theorem test_wf_XFmt :
    ([
    .vbcast, .vext, .vrmax, .vrmin, .vradd, .vrargmax, .vcnt, .vlut8] : List (XFmt → Instr)).all (fun f => (f { tile := 255 }).wf &&
      !(f { tile := 256 }).wf &&
      badEnvs.all fun e => !(f { tile := 0, env := e }).wf) = true := by decide +kernel

/-- An absent tile number and an unknown error code are refused, a plain GFmt instruction is not. -/
theorem test_wf_GFmt :
    ([
    .vldt, .vlds] : List (GFmt → Instr)).all (fun f => (f { tile := 255 }).wf &&
      !(f { tile := 256 }).wf &&
      badEnvs.all fun e => !(f { tile := 0, env := e }).wf) = true := by decide +kernel


end Sys2Proof.Tests
end

section
/-!
SUPPORT. A step keeps the grade and takes exactly the front command: `good_idle` and `base_exec`, one for each branch of `step`.
-/

namespace Sys2Proof.Laws

open Sys2Proof.Machine Sys2Proof.Safety

/-- A bounded and canonical state is its own baseline, whatever waits in its queue of commands. -/
theorem base_withPending {s : State} (hq : queueBounded s) (hm : memoryCanonical s) (l : List Instr) :
    Base { s with pending := l } { s with pending := l } := by
  obtain ⟨hdram, hhost, hflash⟩ := hm
  exact ⟨rfl, rfl, hq, hdram, hhost, hflash⟩

/-- What a step keeps is measured against the old state without its front command. -/
theorem base_step {s t : State} (hq : queueBounded s) (hm : memoryCanonical s) (e : step s = .next t) :
    Base { s with pending := s.pending.tail } t := by
  have hself := base_withPending hq hm s.pending.tail
  cases hp : s.pending with
  | nil =>
    have ht : s.idle = t := by simpa only [step, hp, Host.Outcome.next.injEq] using e
    have hs : ({ s with pending := [] } : State) = s := hp ▸ rfl
    rw [hp, List.tail_nil, hs] at hself
    rw [List.tail_nil, hs, ← ht]
    exact (good_idle ⟨hself, id, id, rfl⟩).toBase
  | cons c rest =>
    have ht : exec c { s with pending := rest } = .next t := by simpa only [step, hp] using e
    rw [hp, List.tail_cons] at hself
    exact base_exec hself ht

/-- Settles O3: both parts are fields of what every step keeps. -/
theorem stepKeepsGradeAndQueue : Obligations.StepKeepsGradeAndQueue := by
  unfold Obligations.StepKeepsGradeAndQueue
  intro s t hq hm e
  have h := base_step hq hm e
  exact ⟨h.grade, h.pending⟩

end Sys2Proof.Laws
end

section
/-!
SUPPORT. What the accesses of Machine/Regs.lean and Machine/Access.lean do: where a write is taken, what a read leaves of
the posted writes, the bytes of a read, the words of a tile's window, the branches of an SPI transaction.
-/

namespace Sys2Proof.Machine

theorem next_congr {s t : State} (h : s = t) : (.next s : Result) = .next t := congrArg _ h

/-! ## Writes -/

theorem State.writes_misaligned (s : State) (path : Port) {a : Nat} (h : a % 4 ≠ 0) : s.writes path a = false := by
  simp [State.writes, h]

theorem State.writeReg_not_writes {s : State} {path : Port} {a : Nat} (v : Word) (h : s.writes path a = false) :
    s.writeReg path a v = s := by
  simp [State.writeReg, h]

theorem State.writeReg_misaligned (s : State) (path : Port) {a : Nat} (v : Word) (h : a % 4 ≠ 0) :
    s.writeReg path a v = s :=
  State.writeReg_not_writes v (s.writes_misaligned path h)

theorem execRegisterWrite_word (path : Port) (a : Nat) (v : DWord) (s : State) :
    execRegisterWrite path a v 4 s = .next (s.writeReg path a (v.setWidth 32)) := rfl

theorem execRegisterWrite_dword (path : Port) (a : Nat) (v : DWord) (s : State) :
    execRegisterWrite path a v 8 s =
      .next ((s.writeReg path a (v.setWidth 32)).writeReg path (a + 4) ((v >>> 32).setWidth 32)) := rfl

theorem execRegisterWrite_narrow (path : Port) (a : Nat) (v : DWord) {n : Nat} (s : State) (h4 : n ≠ 4) (h8 : n ≠ 8) :
    execRegisterWrite path a v n s = .next s := by
  simp [execRegisterWrite, h4, h8]

theorem execRegisterWrite_misaligned (path : Port) {a : Nat} (v : DWord) (n : Nat) (s : State) (h : a % 4 ≠ 0) :
    execRegisterWrite path a v n s = .next s := by
  have hhi : (a + 4) % 4 ≠ 0 := by omega
  simp [execRegisterWrite, State.writeReg_misaligned _ _ _ h, State.writeReg_misaligned _ _ _ hhi]

theorem execW1cWrite_eq {s : State} {path : Port} {a : Nat} {w : W1c} (v now : Word) (hp : s.writes path a = true)
    (hw : s.w1cAt a = some w) : execW1cWrite path a v now s = .next (w.write v now) := by
  simp [execW1cWrite, hp, hw]

/-- SCH_EVENTS is the W1C register at 0x1000C. -/
theorem State.w1cAt_schEvents (s : State) : s.w1cAt 0x1000C =
    some ⟨s.sch.events, 0x3F#32, fun w => { s with sch := { s.sch with events := w } }, ovlSch⟩ := rfl

@[simp] theorem State.logControl_sch (s : State) (path : Port) (off block : Nat) (v : Word) :
    (s.logControl path off block v).sch = s.sch := (congrArg State.sch (s.logEv_rest ..) :)
@[simp] theorem State.logControl_prd (s : State) (path : Port) (off block : Nat) (v : Word) :
    (s.logControl path off block v).prd = s.prd := (congrArg State.prd (s.logEv_rest ..) :)
@[simp] theorem State.logControl_tiles (s : State) (path : Port) (off block : Nat) (v : Word) :
    (s.logControl path off block v).tiles = s.tiles := (congrArg State.tiles (s.logEv_rest ..) :)

/-! ## What a read leaves alone: the posted writes -/

/-- The effect of a read, if it has one, leaves the posted-write queue as it is. -/
def RegVal.keepsPosted (s : State) : RegVal → Prop
  | .eff _ t => t.ring.posted = s.ring.posted
  | _ => True

@[simp] theorem RegVal.keepsPosted_val (s : State) (w : Word) : (RegVal.val w).keepsPosted s := trivial
@[simp] theorem RegVal.keepsPosted_lo (s : State) (d : DWord) : (RegVal.lo d).keepsPosted s := trivial
@[simp] theorem RegVal.keepsPosted_hi (s : State) : RegVal.hi.keepsPosted s := trivial
@[simp] theorem RegVal.keepsPosted_eff (s t : State) (w : Word) :
    (RegVal.eff w t).keepsPosted s ↔ t.ring.posted = s.ring.posted := Iff.rfl
@[simp] theorem RegVal.keepsPosted_ite (s : State) (c : Prop) [Decidable c] (v w : RegVal) :
    (if c then v else w).keepsPosted s ↔ (c → v.keepsPosted s) ∧ (¬c → w.keepsPosted s) := by
  split <;> simp [*]
@[simp] theorem n2v_keepsPosted (s : State) (n : Nat) : (n2v n).keepsPosted s := trivial
@[simp] theorem bytesAt_keepsPosted (s : State) (l : List Byte) (off : Nat) : (bytesAt l off).keepsPosted s := trivial
@[simp] theorem mapWord_keepsPosted (s : State) (m : BitVec 256) (i : Nat) : (mapWord m i).keepsPosted s := trivial
@[simp] theorem fourBytes_keepsPosted (s : State) (f : Nat → Nat) : (fourBytes f).keepsPosted s := trivial

@[simp] theorem pairsAt_keepsPosted (s : State) (l : List DWord) (k : Nat) : (pairsAt l k).keepsPosted s := by
  unfold pairsAt
  split <;> trivial

@[simp] theorem subWord_keepsPosted (s : State) (o : Option BowSub) : (subWord o).keepsPosted s := by
  cases o <;> trivial

@[simp] theorem State.modSpm_ring (s : State) (t : Nat) (f : Spm → Spm) : (s.modSpm t f).ring = s.ring := rfl
@[simp] theorem State.modBow_ring (s : State) (t : Nat) (f : Bow → Bow) : (s.modBow t f).ring = s.ring := rfl

theorem State.takeFree_ring {s t : State} {v : DWord} (h : s.takeFree = (v, t)) : t.ring = s.ring := by
  cases h
  rfl

@[simp] theorem State.logEv_ring (s : State) (code src arg : Nat) (inj : Bool) :
    (s.logEv code src arg inj).ring = s.ring :=
  (congrArg State.ring (s.logEv_rest code src arg inj) :)

@[simp] theorem State.report_ring (s : State) (bit src cause : Nat) (inj : Bool) :
    (s.report bit src cause inj).ring = s.ring := by
  unfold State.report
  split
  · exact State.logEv_ring ..
  · rfl

@[simp] theorem State.readEntry_ring (s : State) (i : Nat) : (s.readEntry i).2.ring = s.ring := by
  unfold State.readEntry
  split
  · rfl
  · exact State.report_ring ..
  · exact State.report_ring ..

@[simp] theorem State.sysReg_keepsPosted (s : State) (path : Port) (off : Nat) : (s.sysReg path off).keepsPosted s := by
  unfold State.sysReg
  repeat' split
  all_goals simp

@[simp] theorem State.rdyReg_keepsPosted (s : State) (off : Nat) : (s.rdyReg off).keepsPosted s := by
  unfold State.rdyReg
  repeat' split
  all_goals simp

@[simp] theorem State.prdReg_keepsPosted (s : State) (off : Nat) : (s.prdReg off).keepsPosted s := by
  unfold State.prdReg
  repeat' split
  all_goals simp

@[simp] theorem State.penReg_keepsPosted (s : State) (off : Nat) : (s.penReg off).keepsPosted s := by
  simp [State.penReg]

@[simp] theorem State.schReg_keepsPosted (s : State) (off : Nat) : (s.schReg off).keepsPosted s := by
  unfold State.schReg
  repeat' split
  all_goals simp

@[simp] theorem State.ringReg_keepsPosted (s : State) (k off : Nat) : (s.ringReg k off).keepsPosted s := by
  unfold State.ringReg
  repeat' split
  all_goals simp

@[simp] theorem State.ringBlkReg_keepsPosted (s : State) (off : Nat) : (s.ringBlkReg off).keepsPosted s := by
  unfold State.ringBlkReg
  repeat' split
  all_goals simp

@[simp] theorem State.ctxReg_keepsPosted (s : State) (k off : Nat) : (s.ctxReg k off).keepsPosted s := by
  unfold State.ctxReg
  repeat' split
  all_goals simp

@[simp] theorem State.csiReg_keepsPosted (s : State) (k off : Nat) : (s.csiReg k off).keepsPosted s := by
  unfold State.csiReg
  repeat' split
  all_goals simp

@[simp] theorem State.ethReg_keepsPosted (s : State) (k off : Nat) : (s.ethReg k off).keepsPosted s := by
  unfold State.ethReg
  repeat' split
  all_goals simp

@[simp] theorem State.t1sReg_keepsPosted (s : State) (k off : Nat) : (s.t1sReg k off).keepsPosted s := by
  unfold State.t1sReg
  repeat' split
  all_goals simp

@[simp] theorem State.intakeReg_keepsPosted (s : State) (off : Nat) : (s.intakeReg off).keepsPosted s := by
  unfold State.intakeReg
  repeat' split
  all_goals simp

@[simp] theorem StreamRt.guardReg_keepsPosted (s : State) (x : StreamRt) (off : Nat) : (x.guardReg off).keepsPosted s := by
  simp [StreamRt.guardReg]

@[simp] theorem StreamRt.statReg_keepsPosted (s : State) (x : StreamRt) (off : Nat) : (x.statReg off).keepsPosted s := by
  unfold StreamRt.statReg
  repeat' split
  all_goals simp

@[simp] theorem State.tbReg_keepsPosted (s : State) (off : Nat) : (s.tbReg off).keepsPosted s := by
  unfold State.tbReg
  repeat' split
  all_goals simp

@[simp] theorem State.strmReg_keepsPosted (s : State) (off : Nat) : (s.strmReg off).keepsPosted s := by
  simp [State.strmReg]

@[simp] theorem State.safReg_keepsPosted (s : State) (off : Nat) : (s.safReg off).keepsPosted s := by
  unfold State.safReg
  repeat' split
  all_goals simp

@[simp] theorem State.liveWord_keepsPosted (s : State) (k off : Nat) : (s.liveWord k off).keepsPosted s := by
  simp [State.liveWord]

@[simp] theorem State.evrReg_keepsPosted (s : State) (path : Port) (off : Nat) : (s.evrReg path off).keepsPosted s := by
  unfold State.evrReg
  repeat' split
  all_goals simp

@[simp] theorem State.linkReg_keepsPosted (s : State) (k off : Nat) : (s.linkReg k off).keepsPosted s := by
  unfold State.linkReg
  repeat' split
  all_goals simp

@[simp] theorem MmEntry.reg_keepsPosted (s : State) (m : MmEntry) (off : Nat) : (m.reg off).keepsPosted s := by
  unfold MmEntry.reg
  repeat' split
  all_goals simp

@[simp] theorem State.crsReg_keepsPosted (s : State) (off : Nat) : (s.crsReg off).keepsPosted s := by
  unfold State.crsReg
  repeat' split
  all_goals simp

@[simp] theorem Hdma.reg_keepsPosted (s : State) (h : Hdma) (off : Nat) : (h.reg off).keepsPosted s := by
  unfold Hdma.reg
  repeat' split
  all_goals simp

@[simp] theorem State.dramReg_keepsPosted (s : State) (path : Port) (off : Nat) : (s.dramReg path off).keepsPosted s := by
  unfold State.dramReg
  repeat' split
  all_goals simp

@[simp] theorem State.arrReg_keepsPosted (s : State) (t off : Nat) : (s.arrReg t off).keepsPosted s := by
  unfold State.arrReg
  split
  · simp
  · split
    · split
      · simp
      · split
        rename_i h
        exact congrArg RingBlk.posted (State.takeFree_ring h)
    all_goals simp

@[simp] theorem State.spmReg_keepsPosted (s : State) (t off : Nat) : (s.spmReg t off).keepsPosted s := by
  unfold State.spmReg
  repeat' split
  all_goals simp

@[simp] theorem State.bowReg_keepsPosted (s : State) (t off : Nat) : (s.bowReg t off).keepsPosted s := by
  unfold State.bowReg
  repeat' split
  all_goals simp

@[simp] theorem State.tcReg_keepsPosted (s : State) (t off : Nat) : (s.tcReg t off).keepsPosted s := by
  unfold State.tcReg
  repeat' split
  all_goals simp

@[simp] theorem State.aperture_keepsPosted (s : State) (t off : Nat) : (s.aperture t off).keepsPosted s := by
  simp [State.aperture]

@[simp] theorem State.tileReg_keepsPosted (s : State) (t off : Nat) : (s.tileReg t off).keepsPosted s := by
  simp [State.tileReg]

@[simp] theorem State.regAt_keepsPosted (s : State) (path : Port) (a : Nat) : (s.regAt path a).keepsPosted s := by
  simp [State.regAt]

theorem State.setPath_ring (s : State) (path : Port) (x : Path) : (s.setPath path x).ring = s.ring := by
  cases path <;> rfl

/-- A read of a register leaves the posted writes alone. -/
theorem State.readReg_posted (s : State) (path : Port) (a : Nat) :
    (s.readReg path a).2.ring.posted = s.ring.posted := by
  have h := s.regAt_keepsPosted path a
  unfold State.readReg
  cases e : s.regAt path a with
  | val w => rfl
  | eff w t => rw [e] at h; exact h
  | lo d => exact congrArg RingBlk.posted (s.setPath_ring path _)
  | hi => rfl

theorem State.readBytes_posted (s : State) (path : Port) (a n : Nat) :
    (s.readBytes path a n).2.ring.posted = s.ring.posted := by
  unfold State.readBytes
  split
  · simp only [State.readReg_posted]
  · split
    · simp only [State.readReg_posted]
    · rfl

/-! ## Reads -/

theorem State.readReg_of_eff {s t : State} {path : Port} {a : Nat} {w : Word} (h : s.regAt path a = .eff w t) :
    s.readReg path a = (w, t) := by
  simp [State.readReg, h]

theorem State.readReg_of_lo {s : State} {path : Port} {a : Nat} {d : DWord} (h : s.regAt path a = .lo d) :
    s.readReg path a = (d.setWidth 32,
      s.setPath path { latch := tput 0#32 (s.pathOf path).latch (a + 4) ((d >>> 32).setWidth 32) }) := by
  simp [State.readReg, h]

theorem State.readReg_of_hi {s : State} {path : Port} {a : Nat} (h : s.regAt path a = .hi) :
    s.readReg path a = (tget 0#32 (s.pathOf path).latch a, s) := by
  simp [State.readReg, h]

theorem narrow_word (w : Word) : narrow w 0 4 = w := by
  apply BitVec.eq_of_toNat_eq
  simpa [narrow] using w.isLt

theorem State.readBytes_dword (s : State) (path : Port) {a : Nat} (h : a % 4 = 0) :
    s.readBytes path a 8 = ([(s.readReg path a).1, ((s.readReg path a).2.readReg path (a + 4)).1],
      ((s.readReg path a).2.readReg path (a + 4)).2) := by
  simp [State.readBytes, h]

/-- A read within one word returns its bytes, with the side effects of the whole register (R19). -/
theorem State.readBytes_within (s : State) (path : Port) {a n : Nat} (h : a % 4 + n ≤ 4) :
    s.readBytes path a n =
      ([narrow (s.readReg path (a / 4 * 4)).1 (a % 4) n], (s.readReg path (a / 4 * 4)).2) := by
  have h8 : ¬(n = 8 ∧ a % 4 = 0) := by omega
  simp only [State.readBytes, if_neg h8, if_pos h]

theorem State.readBytes_word (s : State) (path : Port) {a : Nat} (h : a % 4 = 0) :
    s.readBytes path a 4 = ([(s.readReg path a).1], (s.readReg path a).2) := by
  have ha : a / 4 * 4 = a := by omega
  rw [State.readBytes_within s path (by omega), ha, h, narrow_word]

theorem State.readBytes_across (s : State) (path : Port) {a n : Nat} (h : 4 < a % 4 + n)
    (h8 : ¬(n = 8 ∧ a % 4 = 0)) : s.readBytes path a n = (List.replicate ((n + 3) / 4) 0#32, s) := by
  simp only [State.readBytes, if_neg h8, if_neg (Nat.not_le.mpr h)]

/-! ## Completions -/

theorem State.complete_now {s : State} {path : Port} (h : path = .spi ∨ s.ring.posted = []) (data : List Word)
    (status : Nat) :
    s.complete path data status = { s with out := { s.out with data := data, status := status } } := by
  simp only [State.complete, if_pos h]

/-- Over PCIe a completion waits behind the posted writes that are queued (R403). -/
theorem State.complete_behind {s : State} {path : Port} (hp : path ≠ .spi) (h : s.ring.posted ≠ []) (data : List Word)
    (status : Nat) :
    s.complete path data status = { s with
      ring := { s.ring with posted := s.ring.posted ++ [.completion data status] }
      out := { s.out with data := [], status := 3 } } := by
  simp only [State.complete, hp, h, or_self, if_false]

theorem State.readOver_reached {s : State} {path : Port} (h : s.reach path = true) (a n : Nat) :
    s.readOver path a n = (s.readBytes path a n).2.complete path (s.readBytes path a n).1 0 := by
  simp [State.readOver, h]

theorem State.readOver_unsupported {s : State} {path : Port} (h : s.reach path = false) (hp : path ≠ .spi)
    (hr : s.aon.mainReset = false) (hl : s.pcie.l0 = true) (a n : Nat) :
    s.readOver path a n = (s.unsupported false).complete path [] 1 := by
  simp [State.readOver, h, hp, hr, hl]

/-! ## RSL latches and tile windows -/

@[simp] theorem State.setPath_tiles (s : State) (path : Port) (x : Path) : (s.setPath path x).tiles = s.tiles := by
  cases path <;> rfl

@[simp] theorem State.setPath_grade (s : State) (path : Port) (x : Path) : (s.setPath path x).grade = s.grade := by
  cases path <;> rfl

@[simp] theorem State.pathOf_setPath (s : State) (path : Port) (x : Path) : (s.setPath path x).pathOf path = x := by
  cases path <;> rfl

theorem Grade.lt_of_hasTile {g : Grade} {t : Nat} (h : g.hasTile t = true) : t < 256 := by
  have hs : g.side ≤ 16 := by cases g <;> decide
  have ht : t / 16 < g.side := by
    simp only [Grade.hasTile, Bool.and_eq_true, decide_eq_true_eq] at h
    exact h.1
  omega

theorem hiddenFrom_pview {path : Port} (h : path ≠ .bar0) (a : Nat) : hiddenFrom path a = false := by
  cases path with
  | bar0 => exact absurd rfl h
  | bar2 => rfl
  | spi => rfl

/-- The P-view shows the window of every tile of the grade. -/
theorem State.regAt_tile {s : State} {path : Port} {t off : Nat} (hp : path ≠ .bar0) (ht : s.grade.hasTile t = true)
    (h4 : off % 4 = 0) (ho : off < 65536) : s.regAt path (0x1000000 + 65536 * t + off) = s.tileReg t off := by
  have hlt := Grade.lt_of_hasTile ht
  have hidx : (0x1000000 + 65536 * t + off - 0x1000000) / 65536 = t := by omega
  have hoff : (0x1000000 + 65536 * t + off) % 65536 = off := by omega
  have hal : ¬((0x1000000 + 65536 * t + off) % 4 ≠ 0 ∨ hiddenFrom path (0x1000000 + 65536 * t + off) = true) := by
    simp only [hiddenFrom_pview hp, Bool.false_eq_true, or_false]
    omega
  unfold State.regAt
  rw [if_neg hal]
  simp (disch := omega) only [if_neg, if_pos, hidx, hoff]

theorem State.tileReg_waitMax {s : State} {t : Nat} (ht : s.grade.hasTile t = true) :
    s.tileReg t 0x9028 =
      .eff (s.tile t).spm.waitMax (s.modSpm t fun p => { p with waitMax := 0#32 }) := by
  simp [State.tileReg, ht, State.spmReg]

theorem State.tileReg_retired {s : State} {t : Nat} (ht : s.grade.hasTile t = true) :
    s.tileReg t 0xB018 = .lo (s.tile t).tc.retired := by
  simp [State.tileReg, ht, State.tcReg]

theorem State.tileReg_retiredHigh {s : State} {t : Nat} (ht : s.grade.hasTile t = true) :
    s.tileReg t 0xB01C = .hi := by
  simp [State.tileReg, ht, State.tcReg]

/-! ## SPI transactions -/

/-- A transaction that ends before RCRC, or that comes before the port is up, touches nothing. -/
theorem State.spi_silent {s : State} {mosi : List Byte} (done : Nat)
    (h : s.reach .spi = false ∨ mosi.length < (spiParse mosi).len + 2) :
    s.spi mosi done = { s with out := { s.out with miso := [] } } := by
  simp [State.spi, h]

/-- A request with a STATUS other than OK is answered and touches nothing (R408). -/
theorem State.spi_bad {s : State} {mosi : List Byte} (done : Nat) (h : (spiParse mosi).status mosi ≠ 0) :
    ∃ m, s.spi mosi done = { s with out := { s.out with miso := m } } := by
  by_cases hs : s.reach .spi = false ∨ mosi.length < (spiParse mosi).len + 2
  · exact ⟨_, State.spi_silent done hs⟩
  · have hgo : (!s.reach .spi || decide (mosi.length < (spiParse mosi).len + 2)) = false := by simpa using hs
    unfold State.spi
    rw [if_neg (by simp [hgo]), if_pos h]
    exact ⟨_, rfl⟩

theorem SpiReq.status_unknown {mosi : List Byte} (hr : field mosi 0 1 ≠ 0x0B) (hw : field mosi 0 1 ≠ 0x02) :
    (spiParse mosi).status mosi ≠ 0 := by
  have hc : ((spiParse mosi).cmd ≠ 0x0B ∧ (spiParse mosi).cmd ≠ 0x02) := ⟨hr, hw⟩
  unfold SpiReq.status
  split
  · decide
  · simp [hc]

section
variable {s : State} {mosi : List Byte} {n : Nat} (hr : s.reach .spi = true)
  (hlen : (spiParse mosi).len + 2 ≤ mosi.length) (hn : (spiParse mosi).words ≤ n)
  (hst : (spiParse mosi).status mosi = 0)
include hr hlen hn hst

theorem State.spi_read (hc : field mosi 0 1 = 0x0B) :
    s.spi mosi n =
      let r := s.spiReads (spiParse mosi).addr (spiParse mosi).words
      { r.2 with out := { r.2.out with miso := spiAnswer (spiParse mosi) n 0 (wordsBytes r.1) } } := by
  have hcmd : (spiParse mosi).cmd = 0x0B := hc
  simp [State.spi, hr, Nat.not_lt.mpr hlen, hst, hcmd, Nat.min_eq_right hn]

theorem State.spi_write (hc : field mosi 0 1 = 0x02) :
    s.spi mosi n =
      let u := s.spiWrites (spiParse mosi).addr
        ((List.range (spiParse mosi).words).map fun i => wordAt mosi (6 + 4 * i))
      { u with out := { u.out with miso := spiAnswer (spiParse mosi) n 0 [] } } := by
  have hcmd : (spiParse mosi).cmd = 0x02 := hc
  simp [State.spi, hr, Nat.not_lt.mpr hlen, hst, hcmd, Nat.min_eq_right hn]

end

end Sys2Proof.Machine
end

section
/-!
SUPPORT. The clauses of RegisterAccesses (R17 to R19, R28, R67, R390, R391, R403 to R408, R429, R558), and the statement from
them.
-/

namespace Sys2Proof.Machine

/-- What a read over a path leaves: its completion at once, or behind the posted writes that are queued (R19, R403). -/
theorem State.readOver_completes {s : State} {path : Port} (hr : s.reach path = true) (a n : Nat) :
    let r := s.readBytes path a n
    (path = .spi ∨ s.ring.posted = [] →
      s.readOver path a n = { r.2 with out := { r.2.out with data := r.1, status := 0 } }) ∧
    (path ≠ .spi → s.ring.posted ≠ [] → s.readOver path a n = { r.2 with
      ring := { r.2.ring with posted := r.2.ring.posted ++ [.completion r.1 0] }
      out := { r.2.out with data := [], status := 3 } }) := by
  have hp := s.readBytes_posted path a n
  constructor
  · intro h
    rw [State.readOver_reached hr, State.complete_now (hp ▸ h)]
  · intro hpath h
    rw [State.readOver_reached hr, State.complete_behind hpath (hp ▸ h)]

/-- SPM_WAIT_MAX is returned and cleared, and no other tile is touched (R17, R559). -/
theorem State.readReg_waitMax {s : State} {path : Port} {t : Nat} (hp : path ≠ .bar0)
    (ht : s.grade.hasTile t = true) :
    s.readReg path (0x1000000 + 65536 * t + 0x9028) =
      ((s.tile t).spm.waitMax, s.modSpm t fun p => { p with waitMax := 0#32 }) :=
  State.readReg_of_eff ((State.regAt_tile hp ht (by decide) (by decide)).trans (State.tileReg_waitMax ht))

/-- The low word of TC_RETIRED is returned and its high word latched for the path (R17, R18). -/
theorem State.readReg_retired {s : State} {path : Port} {t : Nat} (hp : path ≠ .bar0)
    (ht : s.grade.hasTile t = true) :
    s.readReg path (0x1000000 + 65536 * t + 0xB018) =
      ((s.tile t).tc.retired.setWidth 32, s.setPath path {
        latch := tput 0#32 (s.pathOf path).latch (0x1000000 + 65536 * t + 0xB01C)
          (((s.tile t).tc.retired >>> 32).setWidth 32) }) :=
  State.readReg_of_lo ((State.regAt_tile hp ht (by decide) (by decide)).trans (State.tileReg_retired ht))

theorem State.readReg_retiredHigh {s : State} {path : Port} {t : Nat} (hp : path ≠ .bar0)
    (ht : s.grade.hasTile t = true) :
    s.readReg path (0x1000000 + 65536 * t + 0xB01C) =
      (tget 0#32 (s.pathOf path).latch (0x1000000 + 65536 * t + 0xB01C), s) :=
  State.readReg_of_hi ((State.regAt_tile hp ht (by decide) (by decide)).trans (State.tileReg_retiredHigh ht))

/-- The high word read after the low one is that of the same instant (R17). -/
theorem State.readReg_retired_pair {s : State} {path : Port} {t : Nat} (hp : path ≠ .bar0)
    (ht : s.grade.hasTile t = true) :
    ((s.readReg path (0x1000000 + 65536 * t + 0xB018)).2.readReg path (0x1000000 + 65536 * t + 0xB01C)).1 =
      ((s.tile t).tc.retired >>> 32).setWidth 32 := by
  rw [State.readReg_retired hp ht, State.readReg_retiredHigh hp (by simpa using ht)]
  simp

/-- SCH_CLASS_EN is stored, and takes effect at the release (R390). -/
theorem execSchClassEnWrite_stored {s : State} {path : Port} (h : s.pview path = true) (v : Word) :
    execSchClassEnWrite path v s = .next
      (({ s with sch := { s.sch with classEn := v.setWidth 4 ||| 1#4 } } : State).logControl path 0x008 0 v) := by
  simp only [execSchClassEnWrite, h, if_true]

/-- SCH_ABSENT_FORCE is stored but for the part's own bit, and takes effect at the release (R391). -/
theorem execSchAbsentForceWrite_stored {s : State} {path : Port} (h : s.pview path = true) (v : Word) :
    execSchAbsentForceWrite path v s = .next
      (({ s with sch := { s.sch with force := clrBit ((v >>> 4).setWidth 4) (modPos s) } } : State).logControl
        path 0x004 1 v) := by
  simp only [execSchAbsentForceWrite, h, if_true]

/-- Settles O49, clause by clause; the completion of a read rests on `readBytes_posted`: no read touches the posted writes. -/
theorem registerAccesses : Obligations.RegisterAccesses := by
  unfold Obligations.RegisterAccesses
  refine ⟨?writes, ?w1c, ?schEvents, ?reads, ?bytes, ?window, ?spi, ?spiUnknown, ?plain⟩
  case writes =>
    intro path a v n s
    exact ⟨execRegisterWrite_word path a v s, execRegisterWrite_dword path a v s,
      execRegisterWrite_narrow path a v s,
      fun h => next_congr (State.writeReg_not_writes _ h), execRegisterWrite_misaligned path v n s⟩
  case w1c => exact fun path a v now w s => execW1cWrite_eq v now
  case schEvents => exact fun path v now s h => execW1cWrite_eq v now h s.w1cAt_schEvents
  case reads =>
    intro path a n s
    refine ⟨fun h => ⟨s.readOver path a n, rfl, rfl, State.readOver_completes h a n⟩, fun h hp hr hl => ?_⟩
    have hu := next_congr (State.readOver_unsupported h hp hr hl a n)
    exact ⟨hu, hu⟩
  case bytes =>
    intro path a n s
    refine ⟨fun h => ⟨s.readBytes_word path h, ?_⟩, fun h => ?_, fun h h8 => ?_⟩
    · rw [s.readBytes_dword path h]
    · rw [s.readBytes_within path h]
    · rw [s.readBytes_across path h h8]
  case window =>
    intro path t s hp ht
    refine ⟨?_, ?_, ?_, State.readReg_retired_pair hp ht⟩
    · rw [State.readReg_waitMax hp ht]
      exact ⟨rfl, by simp, fun x hx => by simp [State.tile_modSpm, hx]⟩
    · rw [State.readReg_retired hp ht]
    · rw [State.readReg_retired hp ht]
      exact State.setPath_tiles ..
  case spi =>
    intro mosi n s hr hlen hn hst
    refine ⟨fun hc => ⟨s.spi mosi n, ?_, ?_⟩, fun hc => ?_⟩
    · exact next_congr (if_pos hc)
    · rw [State.spi_read hr hlen hn hst hc]
    · exact (next_congr (if_pos hc)).trans
        (next_congr (State.spi_write hr hlen hn hst hc))
  case spiUnknown =>
    intro mosi s hr hw
    obtain ⟨m, hm⟩ := s.spi_bad 16 (SpiReq.status_unknown hr hw)
    refine ⟨m, next_congr ((if_neg ?_).trans hm)⟩
    exact not_or.mpr ⟨hr, hw⟩
  case plain =>
    intro path v s h
    refine ⟨next_congr (if_pos h), next_congr (if_pos h),
      ⟨_, execSchClassEnWrite_stored h v, ?_⟩, ⟨_, execSchAbsentForceWrite_stored h v, ?_⟩⟩
    · simp
    · simp

end Sys2Proof.Machine
end

section
/-!
SUPPORT. Rules of the operations that passes and memory operations are built from: what a change of one tile leaves of the
others, what an access leaves of a scratchpad and where a write lands, what a finished ticket changes, which region a handle
names after an access.
-/

namespace Sys2Proof.Machine

open Sys2Proof.Safety

/-! ## A change of one tile -/

/-- Nothing but tile `t` differs. -/
def State.onlyAt (s : State) (t : Nat) (u : State) : Prop :=
  (∀ r, r ≠ t → u.tile r = s.tile r) ∧ sansTiles u = sansTiles s

theorem State.onlyAt_self (s : State) (t : Nat) : s.onlyAt t s := ⟨fun _ _ => rfl, rfl⟩

theorem State.onlyAt.modTile {s u : State} {t : Nat} (h : s.onlyAt t u) (f : Tile → Tile) :
    s.onlyAt t (u.modTile t f) :=
  ⟨fun r hr => by rw [State.tile_modTile, if_neg hr, h.1 r hr], h.2⟩

theorem State.onlyAt.modTc {s u : State} {t : Nat} (h : s.onlyAt t u) (f : Tc → Tc) : s.onlyAt t (u.modTc t f) :=
  h.modTile _

theorem State.onlyAt.modSpm {s u : State} {t : Nat} (h : s.onlyAt t u) (f : Spm → Spm) : s.onlyAt t (u.modSpm t f) :=
  h.modTile _

theorem State.onlyAt.modArr {s u : State} {t : Nat} (h : s.onlyAt t u) (f : Arr → Arr) : s.onlyAt t (u.modArr t f) :=
  h.modTile _

theorem State.onlyAt.finishTicket {s u : State} {t : Nat} (h : s.onlyAt t u) (k id : Nat) (w : Word) :
    s.onlyAt t (u.finishTicket t k id w) := h.modTc _

theorem State.onlyAt.spmFail {s u : State} {t : Nat} (h : s.onlyAt t u) (e : HErr) : s.onlyAt t (u.spmFail t e) := by
  cases e with
  | handle => exact h.modSpm _
  | bound => exact h.modSpm _
  | wait => exact h

/-! ## Tickets and failed accesses -/

@[simp] theorem State.finishTicket_spm (s : State) (t k id : Nat) (w : Word) :
    ((s.finishTicket t k id w).tile t).spm = (s.tile t).spm := by simp [State.finishTicket]

@[simp] theorem State.finishTicket_arr (s : State) (t k id : Nat) (w : Word) :
    ((s.finishTicket t k id w).tile t).arr = (s.tile t).arr := by simp [State.finishTicket]

theorem State.finishTicket_tc {s : State} {t id : Nat} (h : (s.tile t).tc.inst = some id) (k : Nat) (w : Word) :
    ((s.finishTicket t k id w).tile t).tc = (s.tile t).tc.setTk k (((s.tile t).tc.tk k).finish w) := by
  simp [State.finishTicket, h]

@[simp] theorem State.spmFail_mem (s : State) (t : Nat) (e : HErr) :
    ((s.spmFail t e).tile t).spm.mem = (s.tile t).spm.mem := by cases e <;> simp [State.spmFail]

@[simp] theorem State.spmFail_arr (s : State) (t : Nat) (e : HErr) :
    ((s.spmFail t e).tile t).arr = (s.tile t).arr := by cases e <;> simp [State.spmFail]

/-! ## Accesses to a scratchpad -/

/-- A scratchpad but for what every access changes: the ages in its frets (R281) and the array port's conflict counters
(R266). -/
def Spm.sansUse (p : Spm) : Spm := { p with frets := [], confA := [] }

theorem Spm.sansUse_foldl {α : Type} {f : Spm → α → Spm} (hf : ∀ p x, (f p x).sansUse = p.sansUse) (l : List α) (p : Spm) :
    (l.foldl f p).sansUse = p.sansUse :=
  List.foldlRecOn (motive := fun q => q.sansUse = p.sansUse) l f rfl fun q hq x _ => (hf q x).trans hq

@[simp] theorem Spm.sansUse_touch (p : Spm) (addrs : List Nat) : (p.touch addrs).sansUse = p.sansUse :=
  Spm.sansUse_foldl (by intros; rfl) _ _

@[simp] theorem Spm.sansUse_conflicts (p : Spm) (gs : List (List Nat)) : (gs.foldl Spm.conflictA p).sansUse = p.sansUse :=
  Spm.sansUse_foldl (by intros; rfl) _ _

@[simp] theorem Spm.sansUse_touchRanges (p : Spm) (pl : List Place) (l : List (Nat × Nat)) :
    (touchRanges p pl l).sansUse = p.sansUse :=
  Spm.sansUse_foldl (by intros; split <;> rfl) _ _

theorem Spm.mem_of_sansUse {p q : Spm} (h : p.sansUse = q.sansUse) : p.mem = q.mem := (congrArg Spm.mem h :)

@[simp] theorem Spm.touch_mem (p : Spm) (addrs : List Nat) : (p.touch addrs).mem = p.mem :=
  Spm.mem_of_sansUse (p.sansUse_touch addrs)

@[simp] theorem Spm.conflicts_mem (p : Spm) (gs : List (List Nat)) : (gs.foldl Spm.conflictA p).mem = p.mem :=
  Spm.mem_of_sansUse (p.sansUse_conflicts gs)

theorem Spm.writeAt_mem_congr {p q : Spm} (h : p.mem = q.mem) (addrs : List Nat) (bs : List Byte) :
    (p.writeAt addrs bs).mem = (q.writeAt addrs bs).mem := by simp only [Spm.writeAt, h]

/-- A write leaves every byte it does not name alone. -/
theorem Spm.tget_writeAt_other (p : Spm) {addrs : List Nat} {x : Nat} (hx : x ∉ addrs) (bs : List Byte) :
    tget 0#8 (p.writeAt addrs bs).mem x = tget 0#8 p.mem x :=
  List.foldlRecOn (motive := fun m => tget 0#8 m x = tget 0#8 p.mem x) (addrs.zip bs) _ rfl fun m hm e he =>
    have hne : x ≠ e.1 := fun h => hx (h ▸ (List.of_mem_zip he).1)
    (tget_tput_other 0#8 m e.1 x e.2 hne).trans hm

/-- The places a handle names depend on no age and no conflict counter: an access leaves them. -/
theorem regionOf_congr {s u : State} {t : Nat} (hspm : (u.tile t).spm.sansUse = (s.tile t).spm.sansUse)
    (hx : u.excluded t = s.excluded t) (i : Inst) (h : Half) (write : Bool) :
    regionOf u t i h write = regionOf s t i h write := by
  have hents : (u.tile t).spm.ents = (s.tile t).spm.ents := (congrArg Spm.ents hspm :)
  have hstates : (u.tile t).spm.states = (s.tile t).spm.states := (congrArg Spm.states hspm :)
  unfold regionOf Spm.ent
  dsimp only
  rw [hx, hents, hstates]

end Sys2Proof.Machine
end

section
/-!
SUPPORT. The clauses of PassesAndMemoryOperations on the array (R234, R235, R240, R243, R245, R257): the start of a pass,
what a drain writes, the completion of a pass.
-/

namespace Sys2Proof.Machine

open Sys2Proof.Safety

/-! ## The start of a pass -/

/-- What PASS_START makes of the head of a tile's queue: the rejection, the wait or the start (R234, R235). -/
theorem execPassStart_head {t : Nat} {q : PassReq} {l : List PassReq} {i : Inst} {s : State}
    (hq : (s.tile t).arr.queue = q :: l) (hi : s.inst q.inst = some i) (hx : s.excluded t = false) :
    execPassStart t s = .next (if checkDesc s t i q ≠ 0 then s.rejectPass t q l (checkDesc s t i q)
      else if startWaits s t (Desc.ofBytes q.bytes) then s else s.startPass t i q l) := by
  simp only [execPassStart, hq, hi, hx, Bool.false_eq_true, if_false]

theorem State.onlyAt_startPass (s : State) (t : Nat) (i : Inst) (q : PassReq) (l : List PassReq) :
    s.onlyAt t (s.startPass t i q l) := (s.onlyAt_self t).modArr _

/-- With one pass under way and that one rejected, the flush gives its status word and leaves no pass under way (R348). -/
theorem State.flushRejected_single {s : State} {t : Nat} {q : PassReq} {code : Nat} (hr : (s.tile t).arr.running = [q])
    (he : q.ecode = 256 + code) : s.flushRejected t (s.tile t).arr.running.length =
      (s.modArr t fun a => { a with running := [] }).finishTicket t 0 q.inst
        (statusWord code (Desc.ofBytes q.bytes).tag) := by
  simp only [hr, List.length_singleton, State.flushRejected, State.passDone, he, Nat.le_add_right, if_true,
    Nat.add_sub_cancel_left]

/-- The array after a rejection of a descriptor's form at a tile with no pass under way. -/
def Arr.rejected (a : Arr) (q : PassReq) (l : List PassReq) : Arr :=
  { a with queue := l, running := [], events := setBit a.events 0, lastErr := statusWord 1 (Desc.ofBytes q.bytes).tag }

/-- A reserved form with no pass under way: the queue moves on, the status word is given back, nothing else is done. -/
theorem State.rejectPass_form {s : State} {t : Nat} (hr : (s.tile t).arr.running = []) (q : PassReq) (l : List PassReq) :
    ∃ w : State, (w.tile t).arr = (s.tile t).arr.rejected q l ∧ (w.tile t).spm = (s.tile t).spm ∧
      (w.tile t).tc = (s.tile t).tc ∧
      s.rejectPass t q l 1 = w.finishTicket t 0 q.inst (statusWord 1 (Desc.ofBytes q.bytes).tag) := by
  refine ⟨_, ?_, ?_, ?_, State.flushRejected_single (q := { q with ecode := 256 + 1 }) ?_ rfl⟩
  · simp [Arr.rejected]
  · simp
  · simp
  · simp [hr]

/-! ## What a drain writes -/

/-- The scratchpad addresses of drained bytes, through the places of the output region (R264). -/
def drainAddrs (pl : List Place) (out : List (Nat × Byte)) : List Nat :=
  out.map fun x => 4096 * ((pl.getD (x.1 / 4096) (.fret 0)).fretOf).getD 0 + x.1 % 4096

/-- A drain writes its bytes at their addresses in the output region (R243). -/
theorem State.drainPass_mem (s : State) (t : Nat) (i : Inst) (q : PassReq) (d : Desc) (out : List (Nat × Byte)) :
    ((s.drainPass t i q d out).tile t).spm.mem =
      ((s.tile t).spm.writeAt (drainAddrs (placesOf s t i d.hOut true) out) (out.map (·.2))).mem := by
  simp only [State.drainPass, State.tile_modTc_same, State.tile_modSpm_same]
  exact Spm.writeAt_mem_congr (Spm.touch_mem ..) _ _

@[simp] theorem State.drainPass_arr (s : State) (t : Nat) (i : Inst) (q : PassReq) (d : Desc) (out : List (Nat × Byte)) :
    ((s.drainPass t i q d out).tile t).arr = (s.tile t).arr := by simp [State.drainPass]

theorem State.onlyAt.drainPass {s u : State} {t : Nat} (h : s.onlyAt t u) (i : Inst) (q : PassReq) (d : Desc)
    (out : List (Nat × Byte)) : s.onlyAt t (u.drainPass t i q d out) := (h.modSpm _).modTc _

/-! ## What a completed pass leaves -/

@[simp] theorem State.readPass_arr (s : State) (t : Nat) (i : Inst) (d : Desc) (gs : List (List Nat)) :
    ((s.readPass t i d gs).tile t).arr = (s.tile t).arr := by simp [State.readPass]

/-- The reads of a pass reset ages and count conflicts, no more (R281, R266). -/
theorem State.readPass_sansUse (s : State) (t : Nat) (i : Inst) (d : Desc) (gs : List (List Nat)) :
    ((s.readPass t i d gs).tile t).spm.sansUse = (s.tile t).spm.sansUse := by
  simp only [State.readPass, State.tile_modSpm_same, Spm.sansUse_conflicts]
  split <;> split <;> simp

theorem placesOf_readPass (s : State) (t : Nat) (i : Inst) (d : Desc) (gs : List (List Nat)) (h : Half) (write : Bool) :
    placesOf (s.readPass t i d gs) t i h write = placesOf s t i h write :=
  congrArg (Option.getD · [])
    (regionOf_congr (s.readPass_sansUse t i d gs) (by simp [State.excluded, State.readPass]) i h write)

/-- A pass that lands leaves of the scratchpad's bytes what its drain leaves. -/
theorem State.landPass_mem (s : State) (t : Nat) (i : Inst) (q : PassReq) (d : Desc) (r : PassOut)
    (last : Option (List Byte)) :
    ((s.landPass t i q d r last).tile t).spm.mem = ((s.drainPass t i q d (r.out.drop q.drained)).tile t).spm.mem := by
  simp only [State.landPass, State.tile_modArr_same, State.drainPass_mem, placesOf_readPass]
  exact Spm.writeAt_mem_congr (Spm.mem_of_sansUse (s.readPass_sansUse t i d _)) _ _

/-- A pass that lands puts its results into the accumulators (R239). -/
theorem State.landPass_acc (s : State) (t : Nat) (i : Inst) (q : PassReq) (d : Desc) (r : PassOut)
    (last : Option (List Byte)) : ((s.landPass t i q d r last).tile t).arr.acc =
      r.acc.foldl (fun m x => tput {} m x.1 { (tget {} m x.1) with val := x.2 }) (s.tile t).arr.acc := by
  simp [State.landPass]

@[simp] theorem State.landPass_passes (s : State) (t : Nat) (i : Inst) (q : PassReq) (d : Desc) (r : PassOut)
    (last : Option (List Byte)) : ((s.landPass t i q d r last).tile t).arr.passes = (s.tile t).arr.passes := by
  simp [State.landPass]

theorem State.onlyAt.landPass {s u : State} {t : Nat} (h : s.onlyAt t u) (i : Inst) (q : PassReq) (d : Desc) (r : PassOut)
    (last : Option (List Byte)) : s.onlyAt t (u.landPass t i q d r last) := by
  unfold State.landPass State.readPass
  exact ((h.modSpm _).drainPass i q d _).modArr _

/-- The last pass under way lands, is counted and gives its status word back (R243). -/
def State.endPass (s : State) (t : Nat) (i : Inst) (q : PassReq) (d : Desc) (r : PassOut) (last : Option (List Byte)) :
    State :=
  ((s.landPass t i q d r last).modArr t fun x => { x with running := [], passes := x.passes + 1 }).passDone t q 0

theorem State.onlyAt.endPass {s u : State} {t : Nat} (h : s.onlyAt t u) (i : Inst) (q : PassReq) (d : Desc) (r : PassOut)
    (last : Option (List Byte)) : s.onlyAt t (u.endPass t i q d r last) := by
  unfold State.endPass State.passDone
  exact ((h.landPass i q d r last).modArr _).finishTicket 0 q.inst _

theorem State.endPass_tile (s : State) (t : Nat) (i : Inst) (q : PassReq) (d : Desc) (r : PassOut)
    (last : Option (List Byte)) :
    ((s.endPass t i q d r last).tile t).arr.running = [] ∧
      ((s.endPass t i q d r last).tile t).arr.passes = (s.tile t).arr.passes + 1 ∧
      ((s.endPass t i q d r last).tile t).arr.acc =
        r.acc.foldl (fun m x => tput {} m x.1 { (tget {} m x.1) with val := x.2 }) (s.tile t).arr.acc ∧
      ((s.endPass t i q d r last).tile t).spm.mem =
        ((s.drainPass t i q d (r.out.drop q.drained)).tile t).spm.mem := by
  simp only [State.endPass, State.passDone, State.finishTicket_arr, State.finishTicket_spm, State.tile_modArr_same,
    State.landPass_passes, State.landPass_acc, State.landPass_mem, and_self]

/-! ## The completion of a pass -/

theorem State.onlyAt.addWaits {s u : State} {a : PassIn} (h : s.onlyAt a.tile u) : s.onlyAt a.tile (u.addWaits a) :=
  h.modArr _

/-- The ECC of a drain that meets no corrected error stays in its tile (R258, R269). -/
theorem State.onlyAt.passEcc {s u : State} {a : PassIn} (h : s.onlyAt a.tile u) (ha : a.accCorr = false)
    (hs : a.spmCorr = false) : s.onlyAt a.tile (u.passEcc a) := by
  simp only [State.passEcc, ha, hs, Bool.or_self, Bool.false_eq_true, if_false]
  exact (h.modArr _).modSpm _

/-- The waits and the ECC of a pass are counted beside its accumulators and its count of passes. -/
theorem State.passEcc_arr {s : State} {a : PassIn} (ha : a.accCorr = false) (hs : a.spmCorr = false) :
    (((s.addWaits a).passEcc a).tile a.tile).arr.acc = (s.tile a.tile).arr.acc ∧
      (((s.addWaits a).passEcc a).tile a.tile).arr.passes = (s.tile a.tile).arr.passes := by
  simp [State.passEcc, State.addWaits, ha, hs]

/-- The weights of a pass, byte o of its block k, from the blocks found (R242). -/
def blockByte (bl : List ((Nat → Byte) × Bool)) (k o : Nat) : Byte :=
  match bl[k]? with
  | some b => b.1 o
  | none => 0#8

/-- What PASS_COMPLETE does with a pass whose blocks and places are all there and which meets no error (R243, R259). -/
theorem execPassComplete_ready {a : PassIn} {q : PassReq} {l : List PassReq} {i : Inst}
    {bl : List ((Nat → Byte) × Bool)} {inp epi : Nat → Byte} {s w : State} {d : Desc} {r : PassOut}
    (hd : d = Desc.ofBytes q.bytes) (hrun : (s.tile a.tile).arr.running = q :: l)
    (hinst : s.inst q.inst = some i) (hacc : a.accUncorr = false)
    (hspm : a.spmUncorr = false) (hbl : ((List.range d.steps).mapM fun k => passBlock s a.tile i q d k) = some bl)
    (hgood : bl.any (·.2) = false) (hinp : regionRead s a.tile i d.hIn false d.inputs = some inp)
    (hout : d.writes = true → (regionRead s a.tile i d.hOut true d.outputs).isSome = true)
    (hepi : (if d.needsEpi then regionRead s a.tile i d.hEpi false d.epiRange else some fun _ => 0#8) = some epi)
    (hw : w = (s.addWaits a).passEcc a) (hr : r = runPass (w.tile a.tile).arr d (blockByte bl) inp epi) :
    (∀ n, a.upTo = some n → execPassComplete a s = .next (w.drainTo a.tile i q l d r n)) ∧
      (a.upTo = none → l = [] →
        execPassComplete a s = .next (w.endPass a.tile i q d r (blockHeld d bl.getLast?))) := by
  subst hd hw hr
  have hwrites : (if (Desc.ofBytes q.bytes).writes = true then
      (regionRead s a.tile i (Desc.ofBytes q.bytes).hOut true (Desc.ofBytes q.bytes).outputs).isSome else true) = true := by
    split
    · exact hout ‹_›
    · rfl
  simp only [execPassComplete, hrun, hinst, hbl, hinp, hepi, hwrites, hgood, hacc, hspm, Bool.false_eq_true, if_false]
  refine ⟨fun n hn => ?_, fun hn hl => ?_⟩
  · rw [hn]
    rfl
  · rw [hn, hl]
    rfl

/-- A pass one of whose blocks is away waits, and asks for the places it is going to reach (R242, R276). -/
theorem execPassComplete_waits {a : PassIn} {q : PassReq} {l : List PassReq} {i : Inst} {s : State}
    (hrun : (s.tile a.tile).arr.running = q :: l) (hinst : s.inst q.inst = some i)
    (hbl : ((List.range (Desc.ofBytes q.bytes).steps).mapM fun k =>
      passBlock s a.tile i q (Desc.ofBytes q.bytes) k) = none) :
    execPassComplete a s = .next ((s.addWaits a).askPass a.tile i (Desc.ofBytes q.bytes)) := by
  simp only [execPassComplete, hrun, hinst, hbl]

end Sys2Proof.Machine
end

section
/-!
SUPPORT. The clauses of PassesAndMemoryOperations on the memory engine (R275, R352), and the statement from them.
-/

namespace Sys2Proof.Machine

open Sys2Proof.Safety

/-! ## Memory operations -/

/-- A memory operation is taken from its tile's queue and its status word given back (R275). -/
def State.endMemOp (s : State) (t : Nat) (m : MemOp) (l : List MemOp) (code : Nat) : State :=
  (s.modSpm t fun p => { p with memQ := l }).finishTicket t 1 m.inst (statusWord code (field m.bytes 0x18 4))

theorem State.onlyAt.endMemOp {s u : State} {t : Nat} (h : s.onlyAt t u) (m : MemOp) (l : List MemOp) (code : Nat) :
    s.onlyAt t (u.endMemOp t m l code) := (h.modSpm _).finishTicket 1 m.inst _

theorem State.endMemOp_tile (s : State) (t : Nat) (m : MemOp) (l : List MemOp) (code : Nat) :
    ((s.endMemOp t m l code).tile t).spm.memQ = l ∧
      ((s.endMemOp t m l code).tile t).spm.mem = (s.tile t).spm.mem ∧
      ((s.endMemOp t m l code).tile t).arr = (s.tile t).arr := by
  simp [State.endMemOp]

/-- The bytes that a memory operation writes: those of its source, or its fill word over and over (R275). -/
def memOpBytes (p : Spm) (m : MemOp) (sa : List Nat) : List Byte :=
  if field m.bytes 0 1 = 1 then p.readAt sa
  else (List.range (field m.bytes 0x10 4)).map fun k => (leBytes 4 (field m.bytes 0x14 4)).getD (k % 4) 0#8

/-- A memory operation with an error code is refused with it; at most an event of its tile's scratchpad tells why (R271). -/
theorem execMemopComplete_refused {t ecc : Nat} {m : MemOp} {l : List MemOp} {i : Inst} {s : State}
    (hq : (s.tile t).spm.memQ = m :: l) (hi : s.inst m.inst = some i) (hc : memOpCode s t i m.bytes ≠ 0) :
    ∃ e, execMemopComplete t ecc s = .next ((s.spmFail t e).endMemOp t m l (memOpCode s t i m.bytes)) := by
  simp only [execMemopComplete, hq, hi, hc, ne_eq, not_false_eq_true, if_true]
  split
  · exact ⟨.handle, rfl⟩
  · split
    · exact ⟨.bound, rfl⟩
    · exact ⟨.wait, rfl⟩

/-- A memory operation in order whose reads meet no error writes its bytes and ends with code 0 (R275); a COPY counts its
bank conflicts too (R274). -/
theorem execMemopComplete_done {t : Nat} {m : MemOp} {l : List MemOp} {i : Inst} {da sa : List Nat} {s : State}
    (hq : (s.tile t).spm.memQ = m :: l) (hi : s.inst m.inst = some i) (hc : memOpCode s t i m.bytes = 0)
    (hda : access s t i (BitVec.ofNat 16 (field m.bytes 4 2)) (field m.bytes 8 4) (field m.bytes 0x10 4) true = .ok da)
    (hsa : field m.bytes 0 1 = 1 → access s t i (BitVec.ofNat 16 (field m.bytes 6 2)) (field m.bytes 0x0C 4)
      (field m.bytes 0x10 4) false = .ok sa) :
    ∃ w : State, execMemopComplete t 0 s = .next (w.endMemOp t m l 0) ∧ s.onlyAt t w ∧
      (w.tile t).arr = (s.tile t).arr ∧
      (w.tile t).spm.mem = ((s.tile t).spm.writeAt da (memOpBytes (s.tile t).spm m sa)).mem := by
  by_cases hcopy : field m.bytes 0 1 = 1
  · refine ⟨(s.modSpm t fun p => (copyConflicts sa da).foldl Spm.conflictA p).modSpm t fun p =>
      ((p.touch sa).touch da).writeAt da (memOpBytes (s.tile t).spm m sa), ?_,
      ((s.onlyAt_self t).modSpm _).modSpm _, by simp, ?_⟩
    · simp [execMemopComplete, hq, hi, hc, hda, hsa hcopy, hcopy, memOpBytes, State.endMemOp]
    · simp only [State.tile_modSpm_same]
      exact Spm.writeAt_mem_congr (by simp) _ _
  · refine ⟨s.modSpm t fun p => ((p.touch []).touch da).writeAt da (memOpBytes (s.tile t).spm m sa), ?_,
      (s.onlyAt_self t).modSpm _, by simp, ?_⟩
    · simp [execMemopComplete, hq, hi, hc, hda, hcopy, memOpBytes, State.endMemOp]
    · simp only [State.tile_modSpm_same]
      exact Spm.writeAt_mem_congr (by simp) _ _

/-! ## The statement -/

/-- Settles O43, clause by clause: each command is one operation on its tile (`execPassStart_head`,
`execPassComplete_ready`, `execMemopComplete_done`), and the rules of that operation say what it leaves. -/
theorem passesAndMemoryOperations : Obligations.PassesAndMemoryOperations := by
  unfold Obligations.PassesAndMemoryOperations
  refine ⟨?start, ?reserved, ?complete, ?drain, ?waits, ?memop, ?refused⟩
  case start =>
    intro t q l i s hq hi hx hc
    have hhead := execPassStart_head hq hi hx
    rw [if_neg (not_not_intro hc)] at hhead
    refine ⟨fun hw => hhead.trans (next_congr (if_pos hw)), fun hw => ⟨s.startPass t i q l, ?_, ?_⟩⟩
    · exact hhead.trans (next_congr (if_neg (by simp [hw])))
    · obtain ⟨htiles, hrest⟩ := s.onlyAt_startPass t i q l
      refine ⟨?_, ?_, ?_, ?_, ?_, ?_, htiles, hrest⟩ <;> simp [State.startPass]
  case reserved =>
    intro t q l i s hq hi hx hr hc
    obtain ⟨w, harr, hspm, htc, hw⟩ := State.rejectPass_form hr q l
    have hhead := execPassStart_head hq hi hx
    rw [hc, if_pos Nat.one_ne_zero, hw] at hhead
    refine ⟨_, hhead, ?_⟩
    rw [State.finishTicket_arr, State.finishTicket_spm, harr, hspm]
    exact ⟨rfl, rfl, rfl, rfl, rfl, rfl, fun hinst => htc ▸ State.finishTicket_tc (htc ▸ hinst) 0 _⟩
  case complete =>
    intro a q l i bl inp epi s hrun hinst hac hau hsc hsu d hbl hgood hinp hout hepi w r
    obtain ⟨hdrain, hend⟩ := execPassComplete_ready (d := d) (w := w) (r := r) rfl hrun hinst hau hsu hbl hgood hinp hout
      hepi rfl rfl
    refine ⟨hdrain, fun hn hl => ⟨_, hend hn hl, ?_⟩⟩
    obtain ⟨hacc, hpasses⟩ := State.passEcc_arr (s := s) hac hsc
    obtain ⟨hnone, hcount, hval, hmem⟩ := w.endPass_tile a.tile i q d r (blockHeld d bl.getLast?)
    exact ⟨hnone, hcount.trans (congrArg (· + 1) hpasses), hval.trans (congrArg (List.foldl _ · _) hacc), hmem,
      ((s.onlyAt_self a.tile).addWaits.passEcc hac hsc).endPass i q d r _⟩
  case drain =>
    intro t i q d out x s pl hx
    rw [State.drainPass_mem]
    refine Spm.tget_writeAt_other _ (fun hmem => ?_) _
    obtain ⟨y, hy, hxy⟩ := List.mem_map.mp hmem
    exact hx y hy hxy.symm
  case waits => exact fun a q l i s hrun hinst => execPassComplete_waits hrun hinst
  case memop =>
    intro t m l i da sa s hq hi hc hda hsa bs
    obtain ⟨w, hexec, honly, harr, hmem⟩ := execMemopComplete_done hq hi hc hda hsa
    obtain ⟨hq', hmem', harr'⟩ := w.endMemOp_tile t m l 0
    exact ⟨_, hexec, hq', hmem'.trans hmem, harr'.trans harr, honly.endMemOp m l 0⟩
  case refused =>
    intro t ecc m l i s hq hi hc
    obtain ⟨e, hexec⟩ := execMemopComplete_refused (ecc := ecc) hq hi hc
    obtain ⟨hq', hmem', harr'⟩ := (s.spmFail t e).endMemOp_tile t m l (memOpCode s t i m.bytes)
    exact ⟨_, hexec, hq', hmem'.trans (s.spmFail_mem t e), harr'.trans (s.spmFail_arr t e),
      ((s.onlyAt_self t).spmFail e).endMemOp m l _⟩

end Sys2Proof.Machine
end

section
/-!
SUPPORT. What the issue of an instruction leaves of its state (the tile's parts but its core, what is read of them), and the
rules of the operations that instructions share: a load, a gather, a command through the mesh queue.
-/

namespace Sys2Proof.Machine

open Sys2Proof.Safety

/-! ## The state at the issue -/

/-- The issue counts its stalled cycles in the core, and leaves the rest of every tile. -/
theorem State.tile_atIssue (s : State) (t u : Nat) (e : TEnv) :
    (s.atIssue t e).tile u = if u = t then { s.tile t with tc := stalled (s.tile t).tc e } else s.tile u :=
  s.tile_modTc t u _

@[simp] theorem State.tile_atIssue_same (s : State) (t : Nat) (e : TEnv) :
    (s.atIssue t e).tile t = { s.tile t with tc := stalled (s.tile t).tc e } := s.tile_modTc_same t _

@[simp] theorem State.bow_atIssue (s : State) (t u : Nat) (e : TEnv) :
    ((s.atIssue t e).tile u).bow = (s.tile u).bow := by
  rw [State.tile_atIssue]
  split
  · next h => rw [h]
  · rfl

@[simp] theorem State.spm_atIssue (s : State) (t u : Nat) (e : TEnv) :
    ((s.atIssue t e).tile u).spm = (s.tile u).spm := by
  rw [State.tile_atIssue]
  split
  · next h => rw [h]
  · rfl

@[simp] theorem State.excluded_atIssue (s : State) (t u : Nat) (e : TEnv) :
    (s.atIssue t e).excluded u = s.excluded u := by
  unfold State.excluded
  rw [State.tile_atIssue]
  split
  · next h => rw [h]
  · rfl

@[simp] theorem State.closedTile_atIssue (s : State) (t u : Nat) (e : TEnv) :
    (s.atIssue t e).closedTile u = s.closedTile u := by
  simp [State.closedTile]

@[simp] theorem State.subsTo_atIssue (s : State) (t : Nat) (e : TEnv) (i : Inst) (k : Nat) :
    (s.atIssue t e).subsTo i k = s.subsTo i k := by
  simp [State.subsTo]

@[simp] theorem sreg_stalled (c : Tc) (e : TEnv) (r : BitVec 5) : (stalled c e).sreg r = c.sreg r := rfl
@[simp] theorem vreg_stalled (c : Tc) (e : TEnv) (r : BitVec 4) : (stalled c e).vreg r = c.vreg r := rfl
@[simp] theorem pred_stalled (c : Tc) (e : TEnv) (k : Nat) : (stalled c e).pred k = c.pred k := rfl
@[simp] theorem bind_stalled (c : Tc) (e : TEnv) (h : BitVec 3) : (stalled c e).bind h = c.bind h := rfl

/-- The addresses of an access are those before the issue. -/
@[simp] theorem access_atIssue (s : State) (t : Nat) (e : TEnv) (u : Nat) (i : Inst) (h : Half) (o n : Nat) (write : Bool) :
    access (s.atIssue t e) u i h o n write = access s u i h o n write := by
  have hregion : regionOf (s.atIssue t e) u i h write = regionOf s u i h write :=
    regionOf_congr (congrArg Spm.sansUse (s.spm_atIssue t u e)) (s.excluded_atIssue t u e) i h write
  simp only [access, hregion, State.spm_atIssue]

theorem meshTakes_atIssue {s : State} {t : Nat} {e : TEnv} (h : meshTakes s t e) : meshTakes (s.atIssue t e) t e := by
  obtain ⟨hroom, hecc⟩ := h
  refine ⟨Eq.trans ?_ hroom, hecc⟩
  simp only [meshFull, State.tile_atIssue_same]
  rfl

theorem State.onlyAt_atIssue (s : State) (t : Nat) (e : TEnv) : s.onlyAt t (s.atIssue t e) := (s.onlyAt_self t).modTc _

theorem State.onlyAt.modBow {s u : State} {t : Nat} (h : s.onlyAt t u) (f : Bow → Bow) : s.onlyAt t (u.modBow t f) :=
  h.modTile _

/-! ## Completion -/

/-- An instruction whose effect stays in its own tile. -/
theorem onlyTile_issue_of_onlyAt {s : State} {t : Nat} {i : Inst} (h : issues s t i) {e : TEnv} (he : e.ecc = 0)
    (word : Word) {legal : Bool} (hl : legal = true) {f : State → Tc → Inst → TcRes} {s1 : State} {dest : Option Half}
    {x : Tile} (hf : f (s.atIssue t e) (stalled (s.tile t).tc e) i = .ok s1 dest) (hs : s.onlyAt t s1)
    (hx : { s1.tile t with tc := retired (s1.tile t).tc dest } = x) : onlyTile s (s.issue t e word legal f) t x := by
  rw [issue_ok h he word hl hf, ← hx]
  obtain ⟨hothers, hrest⟩ := hs
  refine ⟨fun u => ?_, by simpa using hrest⟩
  rw [State.tile_modTc]
  split
  · rfl
  · exact hothers u ‹_›

/-- An instruction that completes at the next address, its effect given as a function of the state at its issue. -/
theorem issue_coreNext {s : State} {t : Nat} {i : Inst} (h : issues s t i) {e : TEnv} (he : e.ecc = 0) (word : Word)
    {legal : Bool} (hl : legal = true) {f : State → Tc → Inst → TcRes} {g : State → State}
    (hf : f (s.atIssue t e) (stalled (s.tile t).tc e) i = .ok (g (s.atIssue t e)) none) :
    s.issue t e word legal f = coreNext s t e g :=
  issue_ok h he word hl hf

/-- An instruction that stalls writes its code into TC_STATUS (R366). -/
theorem issue_stall {s : State} {t : Nat} {i : Inst} (h : issues s t i) {e : TEnv} (he : e.ecc = 0) (word : Word)
    {legal : Bool} (hl : legal = true) {f : State → Tc → Inst → TcRes} {s1 : State} {code : Nat}
    (hf : f (s.atIssue t e) (stalled (s.tile t).tc e) i = .stall s1 code) :
    s.issue t e word legal f = s1.modTc t fun c => { c with stall := code } := by
  rw [issue_eq h he, hl, hf]
  rfl

/-! ## Shared operations -/

theorem viaMesh_taken {s : State} {t : Nat} {e : TEnv} (h : meshTakes s t e) (i : Inst) (k : State → TcRes) :
    viaMesh s t i e k = k s := by
  obtain ⟨hroom, hecc⟩ := h
  simp [viaMesh, viaQueue, jobRead, hroom, hecc]

/-- A load whose access passes and whose read is clean gives its bytes on, with the ages of its frets reset. -/
theorem loadBytes_ok {s : State} {t : Nat} {i : Inst} {h : Half} {o n : Nat} {env : TEnv} {addrs : List Nat}
    (ha : access s t i h o n false = .ok addrs) (hecc : env.dataEcc = 0) (k : State → List Byte → TcRes) :
    loadBytes s t i h o n env k = k (s.modSpm t fun p => p.touch addrs) ((s.tile t).spm.readAt addrs) := by
  simp [loadBytes, ha, eccRead, hecc]

/-- A gather whose accesses all pass and whose read is clean gives its elements on, with the ages of its frets reset and its
bank conflicts counted (R266, R338). -/
theorem gatherBytes_ok {s : State} {t : Nat} {i : Inst} {h : Half} {offs : List Nat} {n : Nat} {env : TEnv}
    {addrs : List (List Nat)} (ha : (offs.mapM fun o => access s t i h o n false) = .ok addrs) (hecc : env.dataEcc = 0)
    (k : State → List (List Byte) → TcRes) :
    gatherBytes s t i h offs n env k =
      k (s.modSpm t fun p => (p.touch addrs.flatten).conflictC (wordsAt addrs.flatten))
        (addrs.map fun a => (s.tile t).spm.readAt a) := by
  simp [gatherBytes, ha, eccRead, hecc]

end Sys2Proof.Machine
end

section
/-!
SUPPORT. The gathers and VLUT8 (R266, R338, R346): what each completes to, and GatherResults from them.
-/

namespace Sys2Proof.Machine

open Sys2Proof.Safety

/-- The offsets of a gather's elements (R338). -/
def gatherOffs (base n stride : Nat) : List Nat := (List.range n).map fun k => (base + k * stride) % 2 ^ 32

/-- A gather whose accesses all pass puts its elements into v[VD] and counts the conflicts of its words (R266, R338). -/
theorem gather_atIssue {a : GFmt} {s : State} {i : Inst} {addrs : List (List Nat)} (hecc : a.env.dataEcc = 0)
    {w n stride : Nat} (ha : ((gatherOffs ((s.tile a.tile).tc.sreg a.ra).toNat n stride).mapM fun o =>
      access s a.tile i ((s.tile a.tile).tc.bind a.h).1 o w false) = .ok addrs) :
    gather a w n stride (s.atIssue a.tile a.env) (stalled (s.tile a.tile).tc a.env) i =
      .ok (((s.atIssue a.tile a.env).modSpm a.tile fun p =>
          (p.touch addrs.flatten).conflictC (wordsAt addrs.flatten)).modTc a.tile fun c =>
        c.setV a.vd (vof w (addrs.map fun l => leNat ((s.tile a.tile).spm.readAt l)))) none := by
  simp only [← access_atIssue s a.tile a.env] at ha
  simp only [gather, sreg_stalled, bind_stalled]
  exact (gatherBytes_ok ha hecc _).trans (by simp only [List.map_map, State.spm_atIssue]; rfl)

/-- An instruction that reads its scratchpad and changes its core leaves the tile of a gather. -/
theorem onlyTile_issue_gather {s : State} {t : Nat} {i : Inst} (h : issues s t i) {e : TEnv} (he : e.ecc = 0)
    (word : Word) {legal : Bool} (hl : legal = true) {f : State → Tc → Inst → TcRes} {addrs words : List Nat} {g : Tc → Tc}
    (hf : f (s.atIssue t e) (stalled (s.tile t).tc e) i =
      .ok (((s.atIssue t e).modSpm t fun p => (p.touch addrs).conflictC words).modTc t g) none) :
    onlyTile s (s.issue t e word legal f) t (gatherDone (s.tile t) e addrs words g) :=
  onlyTile_issue_of_onlyAt h he word hl hf (((s.onlyAt_atIssue t e).modSpm _).modTc g)
    (by simp [gatherDone, tileDone])

/-- The scratchpad words of a look-up whose access passes. -/
theorem lutWords_ok {s : State} {a : XFmt} {i : Inst} {h : Half} {base : Nat} {addrs : List Nat}
    (ha : access s a.tile i h base 256 false = .ok addrs) (c : Tc) :
    lutWords s a i h base c = wordsAt (((List.range 32).filter (active a.m (c.pred a.pg.toNat) 1)).map fun k =>
      addrs.getD (vget 1 (c.vreg a.v2) k) 0) := by
  simp only [lutWords, ha]

/-- Settles O15: a gather is one clean read of its elements (`gather_atIssue`), VLUT8 one clean read of its table
(`loadBytes_ok`), and each leaves the tile of a gather (`onlyTile_issue_gather`). -/
theorem gatherResults : Obligations.GatherResults := by
  unfold Obligations.GatherResults
  refine ⟨?vldt, ?vlds, ?vlut8⟩
  case vldt =>
    intro a s i addrs h he hecc hw c w ra rb ⟨hra, hrb⟩ ha
    have halign : ¬(ra % w ≠ 0 ∨ rb % w ≠ 0) := not_or.mpr ⟨not_not_intro hra, not_not_intro hrb⟩
    exact ⟨_, rfl, onlyTile_issue_gather h he _ (by simpa using hw) ((if_neg halign).trans (gather_atIssue hecc ha))⟩
  case vlds =>
    intro a s i addrs h he hecc hw c w ra rb ⟨hra, hlow, hhigh⟩ ha
    have hstride : ¬(rb < 1 ∨ 64 < rb) := by omega
    exact ⟨_, rfl, onlyTile_issue_gather h he _ (by simpa using hw)
      ((if_neg hstride).trans ((if_neg (not_not_intro hra)).trans (gather_atIssue hecc ha)))⟩
  case vlut8 =>
    intro a s i addrs h he hecc hw hpg c r hr ha
    rw [← access_atIssue s a.tile a.env] at ha
    have hlegal : (a.w == 0#2 && pgOk a.m a.pg) = true := by simpa [pgOk, hw] using hpg
    refine ⟨_, rfl, onlyTile_issue_of_onlyAt h he _ hlegal
      ((if_neg (not_not_intro hr)).trans (loadBytes_ok ha hecc _))
      ((((s.onlyAt_atIssue a.tile a.env).modSpm _).modSpm _).modTc _) ?_⟩
    simp only [State.tile_modTc_same, State.tile_modSpm_same, State.tile_atIssue_same]
    rw [← lutWords_ok ha c]
    rfl

end Sys2Proof.Machine
end

section
/-!
SUPPORT. The allocator's and the pager's commands (R285, R301 to R304, R353, R354): what each completes to, and
AllocatorAndPagerCommands from them.
-/

namespace Sys2Proof.Machine

open Sys2Proof.Safety

@[simp] theorem State.net_atIssue (s : State) (t k : Nat) (e : TEnv) : (s.atIssue t e).net k = s.net k := rfl
@[simp] theorem layerPoisoned_atIssue (s : State) (t : Nat) (e : TEnv) (k : Nat) (l : LayerCfg) :
    layerPoisoned (s.atIssue t e) k l = layerPoisoned s k l := rfl

@[simp] theorem State.tile_dropPrefetch (s : State) (i : Inst) (k u : Nat) : (s.dropPrefetch i k).tile u = s.tile u := rfl

theorem State.modBow_congr {s : State} {t : Nat} {f g : Bow → Bow} (h : f (s.tile t).bow = g (s.tile t).bow) :
    s.modBow t f = s.modBow t g := by
  simp only [State.modBow, State.modTile, h]

/-! ## Allocator commands -/

/-- ALLOC puts its request into the allocator's queue and stalls the core until it is answered (R353). -/
theorem execAlloc_queued {a : RFmt} {s : State} {i : Inst} (h : issues s a.tile i) (he : a.env.ecc = 0)
    (hmesh : meshTakes s a.tile a.env) (hrb : a.rb = 0#5) : execAlloc a s = .next
      ((((s.atIssue a.tile a.env).modSpm a.tile fun p => p.addReq
          (allocRequest s i ((s.tile a.tile).tc.sreg a.ra).toNat a.rd.toNat)).modTc a.tile fun c =>
        { c with allocRd := some a.rd.toNat }).modTc a.tile fun c => { c with stall := 5 }) :=
  next_congr (issue_stall h he _ (by simp [hrb]) (viaMesh_taken (meshTakes_atIssue hmesh) i _))

/-- FREE of a live granted handle of the thread ends its entry (R285, R353). -/
theorem execFree_live {a : RFmt} {s : State} {i : Inst} (h : issues s a.tile i) (he : a.env.ecc = 0)
    (hmesh : meshTakes s a.tile a.env) (hrd : a.rd = 0#5) (hrb : a.rb = 0#5) {hd : Half} {e : Nat} {x : RegEnt}
    (hhd : hd = ((s.tile a.tile).tc.sreg a.ra).setWidth 16) (hx : x = (s.tile a.tile).spm.ent e)
    (hentry : e = bits hd.toNat 6 0) (hlow : 33 ≤ e) (hlive : x.live = true) (hgen : x.gen = bits hd.toNat 15 7)
    (hinst : x.inst = i.id) : execFree a s = .next (coreNext s a.tile a.env fun u => u.endEntries a.tile [e]) := by
  subst hhd hentry hx
  refine next_congr (issue_coreNext h he _ (by simp [hrd, hrb])
    ((if_pos ?_).trans (viaMesh_taken (meshTakes_atIssue hmesh) i _)))
  simp only [sreg_stalled, State.spm_atIssue, hlow, hlive, hgen, hinst, decide_true, beq_self_eq_true, Bool.and_self]

/-! ## Pager commands -/

/-- PAGER_SUB that no check refuses subscribes (R301, R354). -/
theorem execPagerSub_taken {a : RFmt} {s : State} {i : Inst} (h : issues s a.tile i) (he : a.env.ecc = 0)
    (hrb : a.rb = 0#5) {k : Nat} {l : LayerCfg} (hk : k = ((s.tile a.tile).tc.sreg a.ra).toNat)
    (hl : l = (s.net i.job.net).layer k) (hopen : s.closedTile a.tile = false) (hin : k < (s.net i.job.net).layers.length)
    (hpages : l.pageCount ≠ 0) (hsubs : (s.subsTo i k).length < l.tiles) (hnxt : (s.tile a.tile).bow.nxt = none)
    (hclean : layerPoisoned s i.job.net l = false) : execPagerSub a s = .next (coreNext s a.tile a.env fun u =>
      State.pagerRun (State.modTc
        ((u.dropPrefetch i k).modBow a.tile fun b =>
          if b.cur = none then { b with cur := some { net := i.job.net, layer := k, inst := i.id } }
          else { b with nxt := some { net := i.job.net, layer := k, inst := i.id } })
        a.tile fun c => c.setS a.rd (if (s.tile a.tile).bow.cur = none then 1#32 else 2#32))) := by
  subst hk hl
  refine next_congr (issue_coreNext h he _ (by simp [hrb]) ?_)
  simp [hopen, hpages, hnxt, hclean, Nat.not_le.mpr hin, Nat.not_le.mpr hsubs]
  exact congrArg (fun u : State => (u.modTc a.tile _).pagerRun) (State.modBow_congr (by simp))

/-- PAGER_SUB of a tile that is excluded or in diagnostic state is refused with code 6 (R301, R354). -/
theorem execPagerSub_closed {a : RFmt} {s : State} {i : Inst} (h : issues s a.tile i) (he : a.env.ecc = 0)
    (hrb : a.rb = 0#5) (hclosed : s.closedTile a.tile = true) : execPagerSub a s = .next (coreNext s a.tile a.env fun u =>
      (u.modBow a.tile fun b => { b with events := setBit b.events 0 }).modTc a.tile fun c => c.setS a.rd (refusal 6)) := by
  refine next_congr (issue_coreNext h he _ (by simp [hrb]) ?_)
  simp [hclosed]

/-- A page of the current subscription whose blocks all lie below block index `k` of its layer is marked (R304). -/
def BowPage.retire (l : LayerCfg) (k : Nat) (p : BowPage) : BowPage :=
  if p.next = false ∧ p.ended = false ∧ min ((p.page - l.firstPage + 1) * l.bpp) l.total ≤ k then
    { p with marked := true }
  else p

/-- The marks of RETIRE, each a test of three Bools. -/
theorem map_retire (l : LayerCfg) (k : Nat) (slots : List BowPage) : (slots.map fun p =>
    if !p.next && !p.ended && decide (min ((p.page - l.firstPage + 1) * l.bpp) l.total ≤ k) then { p with marked := true }
    else p) = slots.map (BowPage.retire l k) :=
  List.map_congr_left fun p _ => by simp [BowPage.retire, and_assoc]

/-- RETIRE marks the pages below its block index and keeps the index for pages to come (R304). -/
theorem onlyTile_retire {a : RFmt} {s : State} {i : Inst} {sub : BowSub} (h : issues s a.tile i) (he : a.env.ecc = 0)
    (hrd : a.rd = 0#5) (hrb : a.rb = 0#5) (hcur : (s.tile a.tile).bow.cur = some sub) :
    ∃ s', execRetire a s = .next s' ∧ onlyTile s s' a.tile
      { tileDone (s.tile a.tile) a.env id with bow := { (s.tile a.tile).bow with
          cur := some { sub with retired := max sub.retired ((s.tile a.tile).tc.sreg a.ra).toNat }
          slots := (s.tile a.tile).bow.slots.map (BowPage.retire ((s.net i.job.net).layer sub.layer)
            ((s.tile a.tile).tc.sreg a.ra).toNat) } } := by
  refine ⟨_, rfl, onlyTile_issue_of_onlyAt h he _ (by simp [hrd, hrb])
    (s1 := (s.atIssue a.tile a.env).modBow a.tile fun b => { b with
      cur := some { sub with retired := max sub.retired ((s.tile a.tile).tc.sreg a.ra).toNat }
      slots := b.slots.map (BowPage.retire ((s.net i.job.net).layer sub.layer) ((s.tile a.tile).tc.sreg a.ra).toNat) })
    (dest := none) ?_ ((s.onlyAt_atIssue a.tile a.env).modBow _) (by simp [tileDone])⟩
  simp only [State.bow_atIssue, hcur, sreg_stalled, State.net_atIssue, ← map_retire]
  rfl

/-- ADV ends the current subscription with its pages and makes the next one current (R304). -/
theorem execAdv_current {a : RFmt} {s : State} {i : Inst} {sub : BowSub} (h : issues s a.tile i) (he : a.env.ecc = 0)
    (hrd : a.rd = 0#5) (hra : a.ra = 0#5) (hrb : a.rb = 0#5) (hcur : (s.tile a.tile).bow.cur = some sub) :
    execAdv a s = .next (coreNext s a.tile a.env fun u => (u.modBow a.tile fun b => { b with
      cur := b.nxt, nxt := none, slots := b.slots.map fun p =>
        if p.ended then p else if p.next then { p with next := false }
        else { p with ended := true, marked := true } }).pagerRun) := by
  refine next_congr (issue_coreNext h he _ (by simp [hrd, hra, hrb]) ?_)
  simp only [State.bow_atIssue, hcur]

/-! ## The statement -/

/-- Settles O18, clause by clause: each command is one issue whose checks pass, and its effect is the clause's. -/
theorem allocatorAndPagerCommands : Obligations.AllocatorAndPagerCommands := by
  unfold Obligations.AllocatorAndPagerCommands
  refine ⟨⟨?alloc, ?free⟩, ?sub, ?closed, ?retire, ?adv⟩
  case alloc =>
    intro a s i h he hmesh hrb x
    refine ⟨_, execAlloc_queued h he hmesh hrb, ?_⟩
    obtain ⟨hothers, hrest⟩ := (((s.onlyAt_atIssue a.tile a.env).modSpm fun p => p.addReq
      (allocRequest s i (x.tc.sreg a.ra).toNat a.rd.toNat)).modTc fun c =>
        { c with allocRd := some a.rd.toNat }).modTc fun c => { c with stall := 5 }
    exact ⟨hrest, hothers, by simp [x], by simp [x]⟩
  case free =>
    intro a s i h he hmesh hrd hrb hd e x hlow hlive hgen hinst
    exact execFree_live h he hmesh hrd hrb rfl rfl rfl hlow hlive hgen hinst
  case sub =>
    intro a s i h he hrb k n l b hopen hin hpages hsubs hnxt hclean
    exact execPagerSub_taken h he hrb rfl rfl hopen hin hpages hsubs hnxt hclean
  case closed =>
    intro a s i h he hrb hclosed
    refine ⟨_, execPagerSub_closed h he hrb hclosed, ?_⟩
    simp only [coreNext, State.tile_modTc_same, State.tile_modBow_same]
    exact ⟨trivial, trivial, by simp [setBit], rfl⟩
  case retire => exact fun a s i sub h he hrd hrb hcur => onlyTile_retire h he hrd hrb hcur
  case adv => exact fun a s i sub h he hrd hra hrb hcur => execAdv_current h he hrd hra hrb hcur

end Sys2Proof.Machine
end

section
/-!
SUPPORT. Reports and exclusions (R443 to R447, R457), the diagnostic state of a tile (R288), and
ReportsExclusionsAndDiagnosticState from them.
-/

namespace Sys2Proof.Machine

open Sys2Proof.Safety

/-! ## Reports -/

@[simp] theorem State.logEv_saf (s : State) (code src arg : Nat) (inj : Bool) : (s.logEv code src arg inj).saf = s.saf :=
  (congrArg State.saf (s.logEv_rest code src arg inj) :)
@[simp] theorem State.logEv_pen (s : State) (code src arg : Nat) (inj : Bool) : (s.logEv code src arg inj).pen = s.pen :=
  (congrArg State.pen (s.logEv_rest code src arg inj) :)
@[simp] theorem State.logEv_tiles (s : State) (code src arg : Nat) (inj : Bool) :
    (s.logEv code src arg inj).tiles = s.tiles := (congrArg State.tiles (s.logEv_rest code src arg inj) :)
@[simp] theorem State.logEv_prd (s : State) (code src arg : Nat) (inj : Bool) : (s.logEv code src arg inj).prd = s.prd :=
  (congrArg State.prd (s.logEv_rest code src arg inj) :)
@[simp] theorem State.logEv_sch (s : State) (code src arg : Nat) (inj : Bool) : (s.logEv code src arg inj).sch = s.sch :=
  (congrArg State.sch (s.logEv_rest code src arg inj) :)

/-- A dangerous report sets its bit, counts, and marks the pennant being built (R443, R444). -/
theorem State.report_dangerous {bit : Nat} (h : bit ≤ 12) (src cause : Nat) (inj : Bool) (s : State) :
    (s.report bit src cause inj).saf.faults = setBit s.saf.faults bit ∧
      (s.report bit src cause inj).saf.faultCount = satW s.saf.faultCount ∧
      (s.report bit src cause inj).pen.acc.faults = setBit s.pen.acc.faults bit ∧
      (s.report bit src cause inj).tiles = s.tiles ∧ (s.report bit src cause inj).prd = s.prd ∧
      (s.report bit src cause inj).sch = s.sch := by
  simp [State.report, h]

/-- An advisory report sets its bit and no more (R443). -/
theorem State.report_advisory {bit : Nat} (h : 13 ≤ bit) (src cause : Nat) (inj : Bool) (s : State) :
    s.report bit src cause inj = { s with saf := { s.saf with faults := setBit s.saf.faults bit } } := by
  rw [State.report, if_neg (by omega)]

/-! ## Exclusions -/

@[simp] theorem State.modTile_saf (s : State) (t : Nat) (f : Tile → Tile) : (s.modTile t f).saf = s.saf := rfl
@[simp] theorem State.modTile_now (s : State) (t : Nat) (f : Tile → Tile) : (s.modTile t f).now = s.now := rfl

/-- A failure of cause 1 or 3 writes its time into its tile, and turns an acceptance of that tile at the same instant into a
denial (R457). -/
theorem State.noteFailure_failure {cause : Nat} (h : cause = 1 ∨ cause = 3) (s : State) (t : Nat) :
    s.noteFailure t cause =
      { s.modTile t fun x => { x with failT := some s.now } with saf :=
        if s.saf.readmitAcc = true ∧ s.saf.readmitTile = t ∧ s.saf.readmitT = s.now then
          { s.saf with readmitAcc := false, readmitDen := true } else s.saf } := by
  have hfail : ¬(cause ≠ 1 ∧ cause ≠ 3) := by omega
  rw [State.noteFailure, if_neg hfail]
  by_cases hacc : s.saf.readmitAcc = true ∧ s.saf.readmitTile = t ∧ s.saf.readmitT = s.now
  · rw [if_pos hacc]
    exact if_pos hacc
  · rw [if_neg hacc]
    exact if_neg hacc

theorem State.noteFailure_other {cause : Nat} (h : ¬(cause = 1 ∨ cause = 3)) (s : State) (t : Nat) :
    s.noteFailure t cause = s := if_pos (not_or.mp h)

/-- Noting a failure writes its time into the tile and leaves the rest of every tile (R457). -/
theorem State.tile_noteFailure (s : State) (t cause r : Nat) : (s.noteFailure t cause).tile r =
    if r = t ∧ (cause = 1 ∨ cause = 3) then { s.tile t with failT := some s.now } else s.tile r := by
  by_cases h : cause = 1 ∨ cause = 3
  · simp only [h, and_true]
    rw [State.noteFailure_failure h]
    exact s.tile_modTile t r fun x => { x with failT := some s.now }
  · simp [State.noteFailure_other h, h]

/-- An exclusion notes its failure, and its cause takes the place of one that lasts less long (R446, log entry 49). -/
theorem State.tile_exclude (s : State) (t cause r : Nat) : (s.exclude t cause).tile r =
    if r = t then { (s.noteFailure t cause).tile t with
      excl := if exclRank (s.tile t).excl < exclRank cause then cause else (s.tile t).excl } else s.tile r := by
  have hexcl : ((s.noteFailure t cause).tile t).excl = (s.tile t).excl := by
    rw [State.tile_noteFailure]
    split <;> rfl
  have hother : r ≠ t → (s.noteFailure t cause).tile r = s.tile r := fun hr => by simp [State.tile_noteFailure, hr]
  rw [State.exclude, hexcl]
  by_cases hr : r = t
  · split <;> simp [State.tile_modTile, hr, ← hexcl]
  · split <;> simp [State.tile_modTile, hr, hother hr]

@[simp] theorem State.exclude_saf (s : State) (t cause : Nat) : (s.exclude t cause).saf = (s.noteFailure t cause).saf := by
  unfold State.exclude
  dsimp only
  split <;> rfl

/-- What an exclusion leaves: its tile's cause, the effect still to come with the release, and every other tile (R446). -/
theorem State.exclude_excl (s : State) (t cause : Nat) :
    ((s.exclude t cause).tile t).excl =
        (if exclRank (s.tile t).excl < exclRank cause then cause else (s.tile t).excl) ∧
      ((s.exclude t cause).tile t).exclEff = (s.tile t).exclEff ∧
      ((s.exclude t cause).tile t).spm = (s.tile t).spm ∧
      ∀ r, r ≠ t → (s.exclude t cause).tile r = s.tile r := by
  refine ⟨by simp [State.tile_exclude], ?_, ?_, fun r hr => by simp [State.tile_exclude, hr]⟩
  all_goals
    simp only [State.tile_exclude, if_true, State.tile_noteFailure]
    split <;> rfl

/-! ## Re-admission -/

/-- A write to SAF_READMIT without the key, or by a path without the view, is ignored (R447). -/
theorem execSafReadmitWrite_ignored {path : Port} {v : Word} {s : State} (h : s.pview path = false ∨ hasKey v = false) :
    execSafReadmitWrite path v s = .next s :=
  next_congr (if_pos (by simpa using h))

/-- Is a re-admission of the tile accepted: a clean tile excluded by cause 1 or 3, with no failure at this instant (R447,
R457)? -/
def State.readmits (s : State) (t : Nat) : Bool :=
  s.grade.hasTile t && ((s.tile t).excl == 1 || (s.tile t).excl == 3) &&
    decide ((s.tile t).arr.sentHist.toNat % 8 = 7) && (s.tile t).failT != some s.now

/-- A keyed write to SAF_READMIT notes its answer, and an acceptance ends the exclusion but for that of the diagnostic state
(R288, R447). -/
theorem execSafReadmitWrite_keyed {path : Port} {v : Word} {s : State} {t : Nat} (ht : t = bits v.toNat 7 0)
    (hp : s.pview path = true) (hk : hasKey v = true) : ∃ u, execSafReadmitWrite path v s = .next u ∧
      u.saf = { s.saf with
        readmitTile := t, readmitT := s.now, readmitAcc := s.readmits t, readmitDen := !s.readmits t } ∧
      (u.tile t).excl = (if s.readmits t then (if (s.tile t).spm.diag then 5 else 0) else (s.tile t).excl) ∧
      (∀ r, r ≠ t → u.tile r = s.tile r) := by
  subst ht
  refine ⟨_, next_congr (if_neg (by simp [hp, hk])), ?_⟩
  dsimp only
  cases hok : s.readmits (bits v.toNat 7 0) with
  | true =>
    unfold State.readmits at hok
    rw [if_pos hok, hok]
    exact ⟨rfl, congrArg Tile.excl ((State.tile_modTile ..).trans (if_pos rfl)),
      fun r hr => (State.tile_modTile ..).trans (if_neg hr)⟩
  | false =>
    unfold State.readmits at hok
    rw [if_neg (by simp [hok]), hok]
    exact ⟨rfl, rfl, fun r hr => rfl⟩

/-! ## The diagnostic state -/

theorem Spm.fret_become (p : Spm) (g : Nat) (st : FretSt) (f : Nat) :
    ((p.become g st).fret f).st = if f = g then st else (p.fret f).st := by
  simp only [Spm.become, Spm.modFret, Spm.setFret, Spm.fret, tget_tput]
  split <;> rfl

/-- A fret after a list of frets has entered a state. -/
theorem Spm.fret_foldl_become (st : FretSt) (fs : List Nat) (p : Spm) (f : Nat) :
    ((fs.foldl (fun p f => p.become f st) p).fret f).st = if f ∈ fs then st else (p.fret f).st := by
  induction fs generalizing p with
  | nil => simp
  | cons g fs ih =>
    rw [List.foldl_cons, ih]
    by_cases hg : f = g
    · simp [hg, Spm.fret_become]
    · simp [hg, Spm.fret_become]

/-- The frets that become DIRTY are those named (R285). -/
theorem Spm.fret_dirty {f : Nat} (hf : f < 96) (p : Spm) (fs : List Nat) :
    ((p.dirty fs).fret f).st = if f ∈ fs then .dirty else (p.fret f).st := by
  have h := Spm.fret_foldl_become .dirty ((List.range 96).filter fun f => fs.contains f && (p.fret f).st != .dirty) p f
  refine Eq.trans h ?_
  by_cases hd : (p.fret f).st = .dirty <;> simp [hf, hd]

/-- A write to SPM_DIAG_CTRL that passes each of its tests is not ignored: the view, the key, the HALT bit of the command
and the grade's tile (R20, R288). -/
theorem diagWrite_taken {view key otherHalt tile : Bool} (hview : view = true) (hkey : key = true)
    (hhalt : otherHalt = false) (htile : tile = true) : ¬((!view || !key || otherHalt || !tile) = true) := by
  subst hview hkey hhalt htile
  decide

/-- DIAG_ENTER where it is allowed: the diagnostic state with its fret, and the exclusion by cause 5 (R288, R446). -/
theorem execDiagEnter_allowed {path : Port} {t : Nat} {v : Word} {s : State} (hp : s.pview path = true)
    (hk : hasKey v = true) (hhalt : v.getLsbD 0 = true) (ht : s.grade.hasTile t = true) (hmay : s.mayDiag t = true) :
    execDiagEnter path t v s =
      .next ((s.modSpm t fun p => { p with diag := true, diagFret := diagFretOf v }).exclude t 5) :=
  next_congr ((if_neg (diagWrite_taken hp hk (congrArg Bool.not hhalt) ht)).trans (if_pos hmay))

/-- DIAG_ENTER where it is not allowed only leaves its event (R288, R289). -/
theorem execDiagEnter_refused {path : Port} {t : Nat} {v : Word} {s : State} (hp : s.pview path = true)
    (hk : hasKey v = true) (hhalt : v.getLsbD 0 = true) (ht : s.grade.hasTile t = true) (hmay : s.mayDiag t = false) :
    execDiagEnter path t v s = .next (s.modSpm t fun p => { p with events := setBit p.events 6 }) :=
  next_congr ((if_neg (diagWrite_taken hp hk (congrArg Bool.not hhalt) ht)).trans (if_neg (Bool.eq_false_iff.mp hmay)))

/-- The frets that leaving the diagnostic state makes DIRTY: those of no persistent region (R288). -/
def Spm.diagDirt (p : Spm) : List Nat :=
  (List.range 96).filter fun f => (p.fret f).st != .state && (p.fret f).st != .landing && (p.fret f).st != .dirty

/-- A tile after its diagnostic state is left (R288). -/
def Tile.leaveDiag (x : Tile) (v : Word) : Tile :=
  { x with
    spm := { x.spm with diag := false, diagFret := diagFretOf v }.dirty x.spm.diagDirt
    excl := if x.excl = 5 then 0 else x.excl }

/-- Leaving the diagnostic state makes DIRTY every fret of no persistent region (R288). -/
theorem Tile.fret_leaveDiag {f : Nat} (hf : f < 96) (x : Tile) (v : Word) : ((x.leaveDiag v).spm.fret f).st =
    if (x.spm.fret f).st = .state ∨ (x.spm.fret f).st = .landing then (x.spm.fret f).st else .dirty := by
  have h : ((x.leaveDiag v).spm.fret f).st = if f ∈ x.spm.diagDirt then .dirty else (x.spm.fret f).st :=
    Spm.fret_dirty hf { x.spm with diag := false, diagFret := diagFretOf v } x.spm.diagDirt
  rw [h]
  cases hst : (x.spm.fret f).st <;> simp [Spm.diagDirt, hf, hst]

@[simp] theorem Spm.dirty_diag (p : Spm) (fs : List Nat) : (p.dirty fs).diag = p.diag :=
  List.foldlRecOn (motive := fun q : Spm => q.diag = p.diag) _ _ rfl fun _ hq _ _ => hq

/-- DIAG_EXIT of a tile in diagnostic state changes that tile alone (R288). -/
theorem execDiagExit_left {path : Port} {t : Nat} {v : Word} {s : State} (hp : s.pview path = true)
    (hk : hasKey v = true) (hhalt : v.getLsbD 0 = false) (ht : s.grade.hasTile t = true)
    (hdiag : (s.tile t).spm.diag = true) : ∃ u, execDiagExit path t v s = .next u ∧ u.tile t = (s.tile t).leaveDiag v ∧
      s.onlyAt t u := by
  refine ⟨_, next_congr ((if_neg (diagWrite_taken hp hk hhalt ht)).trans (if_neg (by simp [hdiag]))),
    ?_, (((s.onlyAt_self t).modSpm _).modSpm _).modTile _⟩
  rw [State.tile_modTile, if_pos rfl]
  simp only [State.tile_modSpm_same]
  by_cases h5 : (s.tile t).excl = 5
  · rw [if_pos h5, Tile.leaveDiag, if_pos h5]
    rfl
  · rw [if_neg h5, Tile.leaveDiag, if_neg h5]
    rfl

/-! ## The statement -/

/-- Settles O50, clause by clause: reports (`State.report_dangerous`), exclusions (`State.exclude_excl`), re-admission
(`execSafReadmitWrite_keyed`) and the diagnostic state (`execDiagEnter_allowed`, `execDiagExit_left`). -/
theorem reportsExclusionsAndDiagnosticState : Obligations.ReportsExclusionsAndDiagnosticState := by
  unfold Obligations.ReportsExclusionsAndDiagnosticState
  refine ⟨⟨?dangerous, ?advisory, ?exclusion, ?readmit, ?ignored⟩, ?enter, ?exit⟩
  case dangerous => exact fun bit src cause inj s h => State.report_dangerous h src cause inj s
  case advisory => exact fun bit src cause inj s h => State.report_advisory h src cause inj s
  case exclusion =>
    intro t cause s u
    obtain ⟨hexcl, heff, -, hothers⟩ := s.exclude_excl t cause
    refine ⟨hexcl, heff, hothers, fun hc => ⟨?_, fun hacc ht hnow => ?_⟩⟩
    · simp [u, State.tile_exclude, State.tile_noteFailure, hc]
    · simp [u, State.noteFailure_failure hc, hacc, ht, hnow]
  case readmit =>
    intro path v s hp hk t ok
    obtain ⟨u, hexec, hsaf, hexcl, hothers⟩ := execSafReadmitWrite_keyed (t := t) rfl hp hk
    exact ⟨u, hexec, by rw [hsaf], by rw [hsaf]; rfl, by rw [hsaf]; rfl, hexcl, hothers⟩
  case ignored => exact fun path v s h => execSafReadmitWrite_ignored h
  case enter =>
    intro path t v s hp hk hhalt ht
    refine ⟨fun hmay => ⟨_, execDiagEnter_allowed hp hk hhalt ht hmay, ?_⟩, execDiagEnter_refused hp hk hhalt ht⟩
    obtain ⟨hexcl, -, hspm, hothers⟩ :=
      (s.modSpm t fun p => { p with diag := true, diagFret := diagFretOf v }).exclude_excl t 5
    rw [hspm, hexcl]
    simp only [State.tile_modSpm_same]
    refine ⟨trivial, rfl, trivial, ?_, fun r hr => (hothers r hr).trans ?_⟩
    · have hrank : exclRank (s.tile t).excl < exclRank 5 ↔ exclRank (s.tile t).excl = 0 := Nat.lt_one_iff
      simp only [hrank]
    · rw [State.tile_modSpm, if_neg hr]
  case exit =>
    intro path t v s hp hk hhalt ht hdiag
    obtain ⟨u, hexec, htile, hothers, -⟩ := execDiagExit_left hp hk hhalt ht hdiag
    refine ⟨u, hexec, ?_⟩
    rw [htile]
    exact ⟨Spm.dirty_diag .., fun f hf => Tile.fret_leaveDiag hf _ v, rfl, hothers⟩

end Sys2Proof.Machine
end

section
/-!
SUPPORT. The commands that take a ticket (R311, R348, R351, R352, R354, R363): what a ticket leaves of the core, the
pager's queue of reads, the ring engine's queue of records, and ReadsAndUnitCommands from them.
-/

namespace Sys2Proof.Machine

open Sys2Proof.Safety

/-! ## Tickets -/

/-- A register write changes the scalar registers alone. -/
theorem Tc.setS_eq (c : Tc) (r : BitVec 5) (v : Word) :
    c.setS r v = { c with s := if r = 0#5 then c.s else c.s.set r.toNat v } := by
  unfold Tc.setS
  split <;> rfl

/-- A ticket taken is issued by its unit (R348). -/
theorem Tc.tk_takeTicket (c : Tc) (u : Nat) (rd : BitVec 5) : (c.takeTicket u rd).tk u = (c.tk u).issue := by
  rw [Tc.takeTicket, Tc.setS_eq]
  match u with
  | 0 => rfl
  | 1 => rfl
  | 2 => rfl
  | _ + 3 => rfl

@[simp] theorem Tc.takeTicket_tkA (c : Tc) (rd : BitVec 5) : (c.takeTicket 0 rd).tkA = c.tkA.issue :=
  c.tk_takeTicket 0 rd
@[simp] theorem Tc.takeTicket_tkM (c : Tc) (rd : BitVec 5) : (c.takeTicket 1 rd).tkM = c.tkM.issue :=
  c.tk_takeTicket 1 rd
@[simp] theorem Tc.takeTicket_tkP (c : Tc) (rd : BitVec 5) : (c.takeTicket 2 rd).tkP = c.tkP.issue :=
  c.tk_takeTicket 2 rd
@[simp] theorem Tc.takeTicket_tkR (c : Tc) (rd : BitVec 5) : (c.takeTicket 3 rd).tkR = c.tkR.issue :=
  c.tk_takeTicket 3 rd

@[simp] theorem Tc.takeTicket_pc (c : Tc) (u : Nat) (rd : BitVec 5) : (c.takeTicket u rd).pc = c.pc := by
  rw [Tc.takeTicket, Tc.setS_eq]
  match u with
  | 0 => rfl
  | 1 => rfl
  | 2 => rfl
  | _ + 3 => rfl

/-! ## The state at the issue -/

@[simp] theorem meshFull_atIssue (s : State) (t : Nat) (e d : TEnv) :
    meshFull (s.atIssue t e) t d = meshFull s t d := by
  simp only [meshFull, State.tile_atIssue_same]
  rfl

@[simp] theorem State.ring_atIssue (s : State) (t : Nat) (e : TEnv) : (s.atIssue t e).ring = s.ring := rfl
@[simp] theorem State.sch_atIssue (s : State) (t : Nat) (e : TEnv) : (s.atIssue t e).sch = s.sch := rfl
@[simp] theorem State.dram_atIssue (s : State) (t : Nat) (e : TEnv) : (s.atIssue t e).dram = s.dram := rfl
@[simp] theorem State.modSpm_sch (s : State) (t : Nat) (f : Spm → Spm) : (s.modSpm t f).sch = s.sch := rfl
@[simp] theorem State.modSpm_dram (s : State) (t : Nat) (f : Spm → Spm) : (s.modSpm t f).dram = s.dram := rfl
@[simp] theorem State.isCrc16_atIssue (s : State) (t : Nat) (e : TEnv) (r u : Nat) :
    (s.atIssue t e).isCrc16 r u = s.isCrc16 r u := rfl

/-- The target of a read is as good as before the issue. -/
@[simp] theorem targetBad_atIssue (s : State) (t : Nat) (e : TEnv) (u : Nat) (i : Inst) (h : Half) (off len : Nat) :
    targetBad (s.atIssue t e) u i h off len = targetBad s u i h off len := by
  have hregion : regionOf (s.atIssue t e) u i h true = regionOf s u i h true :=
    regionOf_congr (congrArg Spm.sansUse (s.spm_atIssue t u e)) (s.excluded_atIssue t u e) i h true
  simp only [targetBad, badHandle, pastEnd, regionSize, hregion]

@[simp] theorem bindPass_atIssue (s : State) (t : Nat) (e : TEnv) (u : Nat) (i : Inst) (bytes : List Byte) :
    bindPass (s.atIssue t e) u i bytes = bindPass s u i bytes := by
  rw [bindPass, State.bow_atIssue]
  rfl

/-- A command read from its queue without an error has its effect. -/
theorem viaQueue_clean {e : TEnv} (he : e.queueEcc = 0) (s : State) (t : Nat) (i : Inst) (k : State → TcRes) :
    viaQueue s t i e k = k s := by
  simp [viaQueue, jobRead, he]

/-! ## Reads queued at the pager -/

/-- The state with a part or head read at the end of the pager's queue. -/
def State.addRead (s : State) (r : PartRead) : State :=
  ({ s with dram := { s.dram with reads := s.dram.reads ++ [r] } } : State).notePeak

@[simp] theorem State.addRead_reads (s : State) (r : PartRead) : (s.addRead r).dram.reads = s.dram.reads ++ [r] := rfl
@[simp] theorem State.addRead_tile (s : State) (r : PartRead) (u : Nat) : (s.addRead r).tile u = s.tile u := rfl
@[simp] theorem State.addRead_sch (s : State) (r : PartRead) : (s.addRead r).sch = s.sch := rfl
@[simp] theorem State.addRead_ring (s : State) (r : PartRead) : (s.addRead r).ring = s.ring := rfl

/-- The core once the pager has taken its read: one more is out, and s[RD] holds its ticket. -/
def readOut (c : Tc) (rd : BitVec 5) : Tc :=
  ({ (c.setTk 2 c.tkP.issue) with readsOut := c.readsOut + 1 } : Tc).setS rd ((c.tkP.issued + 1).setWidth 32)

theorem readOut_eq_takeTicket (c : Tc) (rd : BitVec 5) :
    readOut c rd = { (c.takeTicket 2 rd) with readsOut := c.readsOut + 1 } := by
  simp only [readOut, Tc.takeTicket, Tc.setS_eq]
  rfl

/-- A read of a source that exists, to a good target, joins the pager's queue (R311, R354). -/
theorem queueRead_taken {s : State} {t : Nat} {i : Inst} {e : TEnv} {len off : Nat} {h : Half}
    (hopen : s.closedTile t = false) (hgood : targetBad s t i h off len = false) (hmesh : meshTakes s t e)
    (rd : BitVec 5) (p : Nat) : queueRead s t i e rd (some p) len h off =
      .ok ((s.modTc t fun c => readOut c rd).addRead {
        tile := t, inst := i.id, ticket := ((s.tile t).tc.tkP.issued + 1).toNat, src := p, len := len, handle := h
        off := off }) none := by
  have hticket : ((s.modTc t fun c => readOut c rd).tile t).tc.tkP.issued = (s.tile t).tc.tkP.issued + 1 := by
    simp [readOut_eq_takeTicket, UnitTk.issue]
  simp only [queueRead, hopen, hgood, Option.isNone_some, Bool.false_eq_true, if_false, ne_eq, not_true_eq_false]
  rw [viaMesh_taken hmesh, ← hticket]
  simp only [readOut_eq_takeTicket]
  rfl

/-- What a read command leaves that the pager takes: its read at the end of the queue, its ticket in the core, all other
tiles, the scheduler and the rings as they were (R311, R354). -/
theorem issue_queueRead {s : State} {t : Nat} {i : Inst} (hi : issues s t i) {e : TEnv} (he : e.ecc = 0) (word : Word)
    {len off p : Nat} {h : Half} {rd : BitVec 5} (hmesh : meshTakes s t e) (hopen : s.closedTile t = false)
    (hgood : targetBad s t i h off len = false) {f : State → Tc → Inst → TcRes}
    (hf : f (s.atIssue t e) (stalled (s.tile t).tc e) i = queueRead (s.atIssue t e) t i e rd (some p) len h off) :
    (s.issue t e word true f).dram.reads = s.dram.reads ++ [{
        tile := t, inst := i.id, ticket := ((s.tile t).tc.tkP.issued + 1).toNat, src := p, len := len, handle := h
        off := off }] ∧
      ((s.issue t e word true f).tile t).tc = retired (readOut (stalled (s.tile t).tc e) rd) none ∧
      (∀ u, u ≠ t → (s.issue t e word true f).tile u = s.tile u) ∧
      (s.issue t e word true f).sch = s.sch ∧ (s.issue t e word true f).ring = s.ring := by
  rw [queueRead_taken (by simpa using hopen) (by simpa using hgood) (meshTakes_atIssue hmesh)] at hf
  rw [issue_ok hi he word rfl hf]
  refine ⟨?_, by simp, fun u hu => ?_, by simp, by simp⟩
  · simp only [State.modTc_dram, State.addRead_reads, State.tile_atIssue_same]
    rfl
  · rw [State.tile_modTc, if_neg hu, State.addRead_tile, State.tile_modTc, if_neg hu, State.tile_atIssue, if_neg hu]

/-! ## Commands of the array and the memory engine -/

/-- The descriptor of an APASS: v[k], then v[k + 1] (R351). -/
def passBytes (c : Tc) (r : BitVec 5) : List Byte :=
  leBytes 32 (c.vreg (vOf r)).toNat ++ leBytes 32 (c.vreg (vOf r + 1)).toNat

/-- The entry of the array's queue that an APASS of the core `c` makes (R303, R351). -/
def passEntry (s : State) (a : RFmt) (i : Inst) (c : Tc) : PassReq :=
  { bytes := passBytes c a.ra, inst := i.id, ticket := (c.tkA.issued + 1).toNat,
    layer := (bindPass s a.tile i (passBytes c a.ra)).1, digest := c.digOpen,
    ecode := (bindPass s a.tile i (passBytes c a.ra)).2 }

/-- APASS with room in the array's queue joins it (R351). -/
theorem onlyTile_apass {a : RFmt} {s : State} {i : Inst} (h : issues s a.tile i) (he : a.env.ecc = 0)
    (hq : a.env.queueEcc = 0) (hv : vOk a.ra = true) (hrb : a.rb = 0#5) (heven : a.ra.getLsbD 0 = false)
    (hroom : (s.tile a.tile).arr.queue.length < 8) : ∃ s', execApass a s = .next s' ∧ onlyTile s s' a.tile
      { tileDone (s.tile a.tile) a.env (fun c => c.takeTicket 0 a.rd) with
        arr := { (s.tile a.tile).arr with
          queue := (s.tile a.tile).arr.queue ++ [passEntry s a i (s.tile a.tile).tc] } } := by
  refine ⟨_, rfl, onlyTile_issue_of_onlyAt h he _ (by rw [hv, hrb, heven]; rfl)
    (s1 := ((s.atIssue a.tile a.env).modTc a.tile fun c => c.takeTicket 0 a.rd).modArr a.tile fun x =>
      { x with queue := x.queue ++ [passEntry s a i (s.tile a.tile).tc] }) (dest := none)
    ?_ (((s.onlyAt_atIssue a.tile a.env).modTc _).modArr _) (by simp [tileDone])⟩
  simp only [if_neg (Nat.not_le.mpr hroom), viaQueue_clean hq, bindPass_atIssue, State.tile_modTc_same,
    State.tile_atIssue_same, Tc.takeTicket_tkA]
  rfl

/-- The entry of the memory engine's queue that a MOP of the core `c` makes (R352). -/
def memEntry (a : RFmt) (i : Inst) (c : Tc) : MemOp :=
  { bytes := leBytes 32 (c.vreg (vOf a.ra)).toNat, inst := i.id, ticket := (c.tkM.issued + 1).toNat }

/-- MOP with room in the memory engine's queue joins it (R352). -/
theorem onlyTile_mop {a : RFmt} {s : State} {i : Inst} (h : issues s a.tile i) (he : a.env.ecc = 0)
    (hq : a.env.queueEcc = 0) (hv : vOk a.ra = true) (hrb : a.rb = 0#5) (hroom : (s.tile a.tile).spm.memQ.length < 4) :
    ∃ s', execMop a s = .next s' ∧ onlyTile s s' a.tile
      { tileDone (s.tile a.tile) a.env (fun c => c.takeTicket 1 a.rd) with
        spm := { (s.tile a.tile).spm with
          memQ := (s.tile a.tile).spm.memQ ++ [memEntry a i (s.tile a.tile).tc] } } := by
  refine ⟨_, rfl, onlyTile_issue_of_onlyAt h he _ (by simp [hv, hrb])
    (s1 := ((s.atIssue a.tile a.env).modTc a.tile fun c => c.takeTicket 1 a.rd).modSpm a.tile fun p =>
      { p with memQ := p.memQ ++ [memEntry a i (s.tile a.tile).tc] }) (dest := none)
    ?_ (((s.onlyAt_atIssue a.tile a.env).modTc _).modSpm _) (by simp [tileDone])⟩
  simp only [if_neg (Nat.not_le.mpr hroom), viaQueue_clean hq, State.tile_modTc_same,
    State.tile_atIssue_same, Tc.takeTicket_tkM]
  rfl

/-! ## Records sent to the ring engine -/

/-- A core but for those that wait for its check-value units. -/
def Tc.sansWaiters (c : Tc) : Tc := { c with cvWait := [], cvWait1 := [] }

@[simp] theorem Tc.sansWaiters_setWaiters (c : Tc) (u : Nat) (l : List CvHolder) :
    (c.setWaiters u l).sansWaiters = c.sansWaiters := by
  unfold Tc.setWaiters
  split <;> rfl

theorem Tc.fields_of_sansWaiters {c d : Tc} (h : c.sansWaiters = d.sansWaiters) :
    c.tkR = d.tkR ∧ c.rpubOut = d.rpubOut ∧ c.pc = d.pc :=
  ⟨(congrArg Tc.tkR h :), (congrArg Tc.rpubOut h :), (congrArg Tc.pc h :)⟩

/-- The ring engine's request for a unit joins the unit's waiters and changes nothing else of the core (R203). -/
theorem State.askRing_sansWaiters (s : State) (q : RecReq) (t : Nat) :
    ((s.askRing q).tile t).tc.sansWaiters = (s.tile t).tc.sansWaiters := by
  rw [State.askRing, State.tile_modTc]
  by_cases ht : t = q.tile
  · rw [if_pos ht, ht]
    dsimp only
    split
    · rfl
    · exact Tc.sansWaiters_setWaiters ..
  · rw [if_neg ht]

theorem State.sendRpub_sansWaiters (s : State) (q : RecReq) (t : Nat) :
    ((s.sendRpub q).tile t).tc.sansWaiters = (s.tile t).tc.sansWaiters := by
  unfold State.sendRpub
  split
  · exact State.askRing_sansWaiters ..
  · rfl

@[simp] theorem State.sendRpub_sch (s : State) (q : RecReq) : (s.sendRpub q).sch = s.sch := by
  unfold State.sendRpub
  split <;> rfl

@[simp] theorem State.sendRpub_dram (s : State) (q : RecReq) : (s.sendRpub q).dram = s.dram := by
  unfold State.sendRpub
  split <;> rfl

/-- A record finds a place at the engine while that holds fewer than 64 and none waits ahead (R418). -/
theorem State.sendRpub_taken {s : State} (h : s.ring.rpub.length < 64 ∧ s.ring.rpubWait = []) (q : RecReq) :
    (s.sendRpub q).ring.rpub = s.ring.rpub ++ [q] ∧ (s.sendRpub q).ring.rpubWait = [] := by
  rw [State.sendRpub, if_pos h]
  exact ⟨rfl, h.2⟩

/-- A record that finds no place at the engine waits in its tile's mesh queue (R418). -/
theorem State.sendRpub_waits {s : State} (h : ¬(s.ring.rpub.length < 64 ∧ s.ring.rpubWait = [])) (q : RecReq) :
    (s.sendRpub q).ring.rpub = s.ring.rpub ∧ (s.sendRpub q).ring.rpubWait = s.ring.rpubWait ++ [q] := by
  rw [State.sendRpub, if_neg h]
  exact ⟨rfl, rfl⟩

/-- The core once its RPUB is taken: one more record is out, and s[RD] holds its ticket. -/
def rpubTaken (c : Tc) (rd : BitVec 5) : Tc := { (c.takeTicket 3 rd) with rpubOut := c.rpubOut + 1 }

/-- The state in which an RPUB sends its record: the payload read, the ticket taken (R363). -/
def State.atRpub (s : State) (a : RFmt) (addrs : List Nat) : State :=
  ((s.atIssue a.tile a.env).modSpm a.tile fun p => p.touch addrs).modTc a.tile fun c => rpubTaken c a.rd

theorem State.atRpub_tc (s : State) (a : RFmt) (addrs : List Nat) :
    ((s.atRpub a addrs).tile a.tile).tc = rpubTaken (stalled (s.tile a.tile).tc a.env) a.rd := by
  simp [State.atRpub]

@[simp] theorem State.atRpub_ring (s : State) (a : RFmt) (addrs : List Nat) : (s.atRpub a addrs).ring = s.ring := by
  simp [State.atRpub]

@[simp] theorem State.atRpub_sch (s : State) (a : RFmt) (addrs : List Nat) : (s.atRpub a addrs).sch = s.sch := by
  simp [State.atRpub]

@[simp] theorem State.atRpub_dram (s : State) (a : RFmt) (addrs : List Nat) : (s.atRpub a addrs).dram = s.dram := by
  simp [State.atRpub]

theorem rpubTaken_issued (c : Tc) (rd : BitVec 5) : (rpubTaken c rd).tkR.issued = c.tkR.issued + 1 :=
  congrArg UnitTk.issued (c.takeTicket_tkR rd)

theorem rpubTaken_pc (c : Tc) (rd : BitVec 5) : (rpubTaken c rd).pc = c.pc := c.takeTicket_pc 3 rd

/-- What the core holds once its RPUB is sent: the ticket, the record that is out, the PC not yet moved (R348, R363). -/
theorem State.sent_core (s : State) (a : RFmt) (addrs : List Nat) (q : RecReq) :
    (((s.atRpub a addrs).sendRpub q).tile a.tile).tc.tkR.issued = (s.tile a.tile).tc.tkR.issued + 1 ∧
      (((s.atRpub a addrs).sendRpub q).tile a.tile).tc.rpubOut = (s.tile a.tile).tc.rpubOut + 1 ∧
      (((s.atRpub a addrs).sendRpub q).tile a.tile).tc.pc = (s.tile a.tile).tc.pc := by
  obtain ⟨hticket, hcount, hpc⟩ := Tc.fields_of_sansWaiters ((s.atRpub a addrs).sendRpub_sansWaiters q a.tile)
  rw [hticket, hcount, hpc, State.atRpub_tc, rpubTaken_issued, rpubTaken_pc]
  exact ⟨rfl, rfl, rfl⟩

theorem bitOf_zero {x : Nat} (h : x < 2) : bitOf x 0 = (x == 1) := by
  simp [bitOf, Nat.mod_eq_of_lt h]

/-- The record of an RPUB of the core `c` with its payload (R363). -/
def rpubEntry (s : State) (a : RFmt) (i : Inst) (c : Tc) (payload : List Byte) : RecReq :=
  rpubRecord s a.tile i (c.tkR.issued + 1).toNat (field (leBytes 32 (c.vreg (vOf a.ra)).toNat) 2 1)
    (bitOf (field (leBytes 32 (c.vreg (vOf a.ra)).toNat) 3 1) 0) payload

/-- The record names the ticket taken, and is else that of the state before the issue. -/
theorem rpubRecord_atRpub (s : State) (a : RFmt) (i : Inst) (addrs : List Nat) (unit : Nat) (final : Bool)
    (payload : List Byte) :
    rpubRecord (s.atRpub a addrs) a.tile i ((s.atRpub a addrs).tile a.tile).tc.tkR.issued.toNat unit final payload =
      rpubRecord s a.tile i ((s.tile a.tile).tc.tkR.issued + 1).toNat unit final payload := by
  rw [State.atRpub_tc, rpubTaken_issued]
  rfl

/-- A record of a core with fewer than 2 out finds its way: the engine or the mesh queue has room (R363, R418). -/
theorem rpub_room {s : State} {t : Nat} {e : TEnv} (hout : (s.tile t).tc.rpubOut < 2)
    (hroom : s.ring.rpub.length + s.ring.rpubWait.length < 64 ∨ meshFull s t e = false) :
    (decide (2 ≤ (stalled (s.tile t).tc e).rpubOut) ||
      (decide (64 ≤ (s.atIssue t e).ring.rpub.length + (s.atIssue t e).ring.rpubWait.length) &&
        meshFull (s.atIssue t e) t e)) = false := by
  have hfew : ¬2 ≤ (stalled (s.tile t).tc e).rpubOut := Nat.not_le.mpr hout
  rw [decide_eq_false hfew, Bool.false_or, State.ring_atIssue, meshFull_atIssue]
  rcases hroom with hplace | hmesh
  · rw [decide_eq_false (Nat.not_le.mpr hplace), Bool.false_and]
  · rw [hmesh, Bool.and_false]

/-- RPUB of a payload that its access reaches sends its record to the ring engine (R363, R418). -/
theorem execRpub_sent {a : RFmt} {s : State} {i : Inst} {addrs : List Nat} (h : issues s a.tile i) (he : a.env.ecc = 0)
    (hecc : a.env.dataEcc = 0) (hv : vOk a.ra = true) (hrb : a.rb = 0#5) {d : List Byte}
    (hd : d = leBytes 32 ((s.tile a.tile).tc.vreg (vOf a.ra)).toNat) (hunit : field d 2 1 < 2)
    (hfinal : field d 3 1 < 2) (hzero : field d 0x0C 20 = 0) (hcrc : s.isCrc16 a.tile (field d 2 1) = false)
    (hout : (s.tile a.tile).tc.rpubOut < 2) (halign : field d 4 4 % 4 = 0)
    (haccess : access s a.tile i (BitVec.ofNat 16 (field d 0 2)) (field d 4 4) (field d 8 4) false = .ok addrs)
    (hroom : s.ring.rpub.length + s.ring.rpubWait.length < 64 ∨ meshFull s a.tile a.env = false) :
    execRpub a s = .next (((s.atRpub a addrs).sendRpub
        (rpubEntry s a i (s.tile a.tile).tc ((s.tile a.tile).spm.readAt addrs))).modTc a.tile fun c =>
      retired c none) := by
  rw [← access_atIssue s a.tile a.env] at haccess
  have hlegal : (decide (1 < field d 2 1) || decide (1 < field d 3 1) || decide (0 < field d 0x0C 20) ||
      (s.atIssue a.tile a.env).isCrc16 a.tile (field d 2 1)) = false := by
    simp [hcrc, hzero, Nat.not_lt.mpr (Nat.le_of_lt_succ hunit), Nat.not_lt.mpr (Nat.le_of_lt_succ hfinal)]
  have hfree := rpub_room hout hroom
  rw [execRpub, issue_ok h he _ (by simp [hv, hrb])]
  simp only [vreg_stalled, ← hd, hlegal, hfree, halign, Bool.false_eq_true, if_false, ne_eq,
    not_true_eq_false]
  rw [loadBytes_ok haccess hecc, State.spm_atIssue, rpubEntry, ← hd, ← rpubRecord_atRpub s a i addrs]
  rfl

/-! ## The statement -/

/-- Settles O19, clause by clause: a read joins the pager's queue (`issue_queueRead`), a descriptor that of its unit
(`onlyTile_apass`, `onlyTile_mop`), a record the ring engine's or its tile's (`execRpub_sent`). -/
theorem readsAndUnitCommands : Obligations.ReadsAndUnitCommands := by
  unfold Obligations.ReadsAndUnitCommands
  refine ⟨⟨?pread, ?hread⟩, ?apass, ?mop, ?rpub⟩
  case pread =>
    intro a s i p hi he hmesh c h hopen hsrc hgood
    refine ⟨_, rfl, issue_queueRead hi he _ hmesh hopen hgood ?_⟩
    rw [← hsrc]
    simp only [sreg_stalled, BitVec.ofNat_toNat]
    rfl
  case hread =>
    intro a s i p hi he hmesh c h hopen hsrc hgood
    refine ⟨_, rfl, issue_queueRead hi he _ hmesh hopen hgood ?_⟩
    rw [← hsrc]
    simp only [sreg_stalled, BitVec.ofNat_toNat]
    rfl
  case apass =>
    intro a s i h he hq hv hrb heven hroom c d
    obtain ⟨s', hexec, hs⟩ := onlyTile_apass h he hq hv hrb heven hroom
    exact ⟨s', _, hexec, hs, rfl, rfl, rfl, rfl, rfl⟩
  case mop => exact fun a s i h he hq hv hrb hroom => onlyTile_mop h he hq hv hrb hroom
  case rpub =>
    intro a s i addrs h he hecc hv hrb c d u hunit hfinal hzero hcrc hout halign haccess hroom
    obtain ⟨hticket, hcount, hpc⟩ := s.sent_core a addrs
      (rpubEntry s a i (s.tile a.tile).tc ((s.tile a.tile).spm.readAt addrs))
    refine ⟨_, _, execRpub_sent h he hecc hv hrb rfl hunit hfinal hzero hcrc hout halign haccess hroom,
      fun hplace => State.sendRpub_taken (s := s.atRpub a addrs) hplace _,
      fun hfull => State.sendRpub_waits (s := s.atRpub a addrs) hfull _,
      rfl, rfl, rfl, rfl, bitOf_zero hfinal, rfl, rfl, ?_, ?_, ?_, by simp, by simp⟩
    all_goals rw [State.tile_modTc_same]
    · exact hticket
    · exact hcount
    · exact congrArg (· + 4) hpc

end Sys2Proof.Machine
end

section
/-!
The scheduler's front half (R375 to R381, R388, R389): the table of instances under a change of one and under time, the
engine's queue of decisions, and the cases of binding, of a first decision and of the admission test.
-/

namespace Sys2Proof.Machine

/-! ## The table of instances -/

/-- A change that keeps identifiers is read back at the identifier it was made at. -/
theorem State.inst_modInst {s : State} {id : Nat} {i : Inst} (h : s.inst id = some i) {f : Inst → Inst}
    (hf : ∀ j, (f j).id = j.id) : (s.modInst id f).inst id = some (f i) := by
  have hkeep : ((fun j : Inst => j.id == id) ∘ fun j => if j.id == id then f j else j) = fun j => j.id == id := by
    funext j
    by_cases hj : j.id = id <;> simp [hj, hf]
  have hfind : s.sch.insts.find? (fun j => j.id == id) = some i := h
  rw [State.inst, State.modInst, List.find?_map, hkeep, hfind, Option.map_some, if_pos (by simpa using inst_id h)]

/-- What is found in the table is one of its entries. -/
theorem State.mem_of_inst {s : State} {id : Nat} {i : Inst} (h : s.inst id = some i) : i ∈ s.sch.insts :=
  List.mem_of_find?_eq_some h

@[simp] theorem State.advanceTo_sch (s : State) (t : Nat) : (s.advanceTo t).sch = s.sch := by
  unfold State.advanceTo State.setDev
  extract_lets d
  split <;> rfl

@[simp] theorem State.advanceTo_inst (s : State) (t id : Nat) : (s.advanceTo t).inst id = s.inst id := by
  simp [State.inst]

/-- What a gang holds does not change when the changed entry keeps its gang and its state. -/
theorem State.gangHeld_modInst (s : State) (id g : Nat) {f : Inst → Inst}
    (hf : ∀ j, (f j).gang = j.gang ∧ (f j).st = j.st) : (s.modInst id f).gangHeld g = s.gangHeld g := by
  have hkeep : ((fun j : Inst => j.gang == g && (j.active || j.st == .deferred)) ∘
      fun j => if j.id == id then f j else j) = fun j => j.gang == g && (j.active || j.st == .deferred) := by
    funext j
    obtain ⟨hgang, hst⟩ := hf j
    by_cases hj : j.id = id <;> simp [hj, hgang, hst, Inst.active]
  rw [State.gangHeld, State.modInst, List.filter_map, hkeep, List.length_map, State.gangHeld]

/-! ## The engine's queue (R376) -/

theorem mem_insDecide {x y : Inst} {l : List Inst} : y ∈ insDecide x l ↔ y = x ∨ y ∈ l := by
  induction l with
  | nil => simp [insDecide]
  | cons z l ih =>
    unfold insDecide
    split
    · simp
    · rw [List.mem_cons, ih, List.mem_cons]
      exact or_left_comm

/-- Putting decisions into the order of R376 loses none and adds none. -/
theorem mem_foldr_insDecide {y : Inst} {l : List Inst} : y ∈ l.foldr insDecide [] ↔ y ∈ l := by
  induction l with
  | nil => simp
  | cons x l ih => simp [mem_insDecide, ih]

/-- A live job whose decision is queued waits for the engine afterwards, also where it waited before: an earlier entry
keeps its place, one of the same instant is ordered again with the new ones. -/
theorem State.waits_queueDecisions {s : State} {l : List Inst} {i : Inst} (hlive : i ∈ s.sch.insts) (hl : i ∈ l) :
    ∃ q ∈ (s.queueDecisions l).sch.decideQ, q.1 = i.id := by
  have hordered {m : List Inst} (hm : i ∈ m) : (i.id, s.now) ∈ (m.foldr insDecide []).map fun j => (j.id, s.now) :=
    List.mem_map.2 ⟨i, mem_foldr_insDecide.2 hm, rfl⟩
  by_cases hq : ∃ q ∈ s.sch.decideQ, q.1 = i.id
  · obtain ⟨⟨id, at_⟩, hmem, rfl⟩ := hq
    by_cases hat : at_ = s.now
    · subst hat
      exact ⟨_, List.mem_append_right _ (hordered (List.mem_append_left _
        (List.mem_filter.2 ⟨hlive, List.contains_iff_mem.2 hmem⟩))), rfl⟩
    · exact ⟨_, List.mem_append_left _ (List.mem_filter.2 ⟨hmem, by simpa using hat⟩), rfl⟩
  · have hnew : (!s.sch.decideQ.any fun q => q.1 == i.id) = true := by
      simpa only [Bool.not_eq_true', List.any_eq_false, beq_iff_eq, not_exists, not_and] using hq
    exact ⟨_, List.mem_append_right _ (hordered (List.mem_append_right _ (List.mem_filter.2 ⟨hl, hnew⟩))), rfl⟩

/-! ## Binding and release (R375, R176) -/

/-- B + release offset, at which a job binds its inputs (R375). -/
def Inst.bindTime (i : Inst) : Nat := i.b + i.job.releaseUs * 1000

/-- JOB_BIND of a created job whose release has come (R375). -/
theorem execJobBind_created {job : Nat} {i : Inst} {s u : State} (hi : s.jobInst job = some i) (hst : i.st = .created)
    (hu : s.advanceTo i.bindTime = u) (ht : i.bindTime ≤ u.now) :
    execJobBind job s = .next (State.examineInputs (u.modInst i.id fun j =>
      { j with
        st := .waitInput
        bound := i.job.inputs.map fun k => u.newestBefore k i.bindTime
        again := tget 0 u.sch.lastBound job }) i.id) := by
  subst hu
  unfold Inst.bindTime at ht
  simp only [execJobBind, hi, hst, ne_eq, not_true_eq_false, if_false, if_neg (Nat.not_lt.2 ht)]
  rfl

/-- Was a bound frame delivered degraded (R176)? -/
def State.anyDegraded (s : State) (bound : List Nat) : Bool := bound.any fun f => (s.frame f).state == .degraded

/-- A job as its release leaves it: deciding, released now, with what its bound frames carry (R375, R176, R466). -/
def Inst.released (i : Inst) (s : State) (degraded : Bool) : Inst :=
  { i with
    st := .deciding
    r := some s.now
    degraded := degraded
    missing := s.missingOf i.bound
    bindCheck := s.bindCheckOf i.bound }

/-- The table and the bound frames once a job is released. -/
def State.release (s : State) (i : Inst) : State :=
  (s.modInst i.id fun j => j.released s (s.anyDegraded i.bound)).noteBound i

theorem State.inst_release {s : State} {id : Nat} {i : Inst} (h : s.inst id = some i) :
    (s.release i).inst id = some (i.released s (s.anyDegraded i.bound)) := by
  obtain rfl := inst_id h
  exact State.inst_modInst h fun _ => rfl

/-- A job whose inputs have all completed, none lost, before its deadline is released: its decision is queued. -/
theorem State.examineInputs_released {s : State} {id : Nat} {i : Inst} (hi : s.inst id = some i) (hst : i.st = .waitInput)
    (hlost : s.lostInput i i.again = none) (hdone : i.bound.all s.frameDone = true) (hnow : s.now < i.deadline) :
    s.examineInputs id = (s.release i).queueDecisions [i.released s (s.anyDegraded i.bound)] := by
  rw [← Option.toList_some, ← State.inst_release hi]
  obtain rfl := inst_id hi
  simp only [State.examineInputs, hi, hst, hlost, hdone, ne_eq, not_true_eq_false, Bool.not_true, Bool.false_eq_true,
    if_false, if_neg (Nat.not_le.2 hnow)]
  rfl

theorem State.lastBound_noteBound {i : Inst} (h : i.bound.headD 0 ≠ 0) (s : State) :
    tget 0 (s.noteBound i).sch.lastBound i.job.job = i.bound.headD 0 := by
  simp only [State.noteBound, if_neg h, tget_tput, if_true]

theorem State.noteBound_unbound {i : Inst} (h : i.bound.headD 0 = 0) (s : State) : s.noteBound i = s := by
  simp only [State.noteBound, if_pos h]

/-! ## The decision at the head of the queue (R376, R395) -/

/-- The state in which the engine takes the head of its queue at `t`, the rest waiting. -/
def State.atDecision (s : State) (t : Nat) (rest : List (Nat × Nat)) : State :=
  { s.advanceTo t with sch := { (s.advanceTo t).sch with decideQ := rest } }

/-- ADMISSION_DECISION for a live job: the kill first, then the decision its state calls for. -/
theorem execAdmissionDecision_head {s : State} {id at_ : Nat} {l : List (Nat × Nat)} {i : Inst}
    (hq : s.sch.decideQ = (id, at_) :: l) (hi : s.inst id = some i) (t : Nat) :
    execAdmissionDecision t s = .next (
      if i.deadline ≤ (s.advanceTo t).now then (s.atDecision t l).killLate i
      else if i.st = .deciding then (s.atDecision t l).firstDecide i
      else if i.st = .deferred then (s.atDecision t l).takeDecision i
      else s.atDecision t l) := by
  have hw : (s.atDecision t l).inst id = some i := (s.advanceTo_inst t id).trans hi
  unfold State.atDecision at hw ⊢
  simp only [execAdmissionDecision, hq, hw]
  rfl

/-! ## The first decision (R388, R389) -/

/-- The table with the first decision instant of a job noted (R387). -/
def State.noteFirst (s : State) (id : Nat) : State := s.modInst id fun i => { i with firstDecision := some s.now }

theorem State.gangHeld_noteFirst (s : State) (id g : Nat) : (s.noteFirst id).gangHeld g = s.gangHeld g :=
  s.gangHeld_modInst id g fun _ => ⟨rfl, rfl⟩

/-- Every tile in use, the class enabled and the gang not full: the first decision is that of the test. -/
theorem State.firstDecide_tested {i : Inst} {s : State}
    (htiles : i.tiles.all (fun t => !s.excluded t && !(s.tile t).spm.diag) = true)
    (hclass : i.classOff = false ∨ i.job.cls = 0) (hroom : s.gangHeld i.gang < if i.job.cls = 0 then 64 else 48) :
    s.firstDecide i = (s.noteFirst i.id).takeDecision { i with firstDecision := some s.now } := by
  have hon : (i.classOff && i.job.cls != 0) = false := by
    obtain h | h := hclass <;> simp [h]
  have htile : (i.tiles.find? fun t => (s.noteFirst i.id).excluded t || ((s.noteFirst i.id).tile t).spm.diag) = none := by
    change (i.tiles.find? fun t => s.excluded t || (s.tile t).spm.diag) = none
    simpa [List.find?_eq_none] using htiles
  have hheld := s.gangHeld_noteFirst i.id i.gang
  have hfull0 : ¬(i.job.cls = 0 ∧ 64 ≤ s.gangHeld i.gang) := by
    rintro ⟨h, hn⟩
    rw [if_pos h] at hroom
    omega
  have hfull : ¬(i.job.cls ≠ 0 ∧ 48 ≤ s.gangHeld i.gang) := by
    rintro ⟨h, hn⟩
    rw [if_neg h] at hroom
    omega
  unfold State.noteFirst at *
  simp only [State.firstDecide, hon, Bool.false_eq_true, if_false, htile, hheld, if_neg hfull0, if_neg hfull]

/-! ## The admission test's outcomes (R379, R380) -/

/-- C0_OVER and its advisory report leave the instances and the time alone (R379). -/
theorem State.report_c0Over (s : State) (id : Nat) :
    ((s.schEvent 0).report 16 0xFF 0).inst id = s.inst id ∧ ((s.schEvent 0).report 16 0xFF 0).now = s.now := by
  rw [State.report_advisory (by decide)]
  exact ⟨rfl, rfl⟩

/-- An admission at its decision instant, with the outcome of the test kept. -/
theorem State.inst_admitInst {s : State} {i j : Inst} (h : s.inst i.id = some j) (failed : Bool) :
    (s.admitInst i failed).inst i.id =
      some { j with st := .admitted, admitAt := some s.now, testFailed := failed } :=
  State.inst_modInst h fun _ => rfl

/-- Class 0 is admitted whatever the test says (R379). -/
theorem State.takeDecision_class0 {i j : Inst} {s : State} (hj : s.inst i.id = some j) (h0 : i.job.cls = 0) :
    (s.takeDecision i).inst i.id = some { j with
      st := .admitted, admitAt := some s.now, testFailed := !admissionTest s.sch.insts i s.now } := by
  unfold State.takeDecision
  simp only [if_pos h0]
  split
  · exact State.inst_admitInst hj _
  · obtain ⟨hinst, hnow⟩ := s.report_c0Over i.id
    rw [State.inst_admitInst (hinst.trans hj), hnow]

/-- A candidate of another class that passes the test is admitted (R380). -/
theorem State.takeDecision_passed {i j : Inst} {s : State} (hj : s.inst i.id = some j) (hc : i.job.cls ≠ 0)
    (hok : admissionTest s.sch.insts i s.now = true) :
    (s.takeDecision i).inst i.id = some { j with
      st := .admitted, admitAt := some s.now, testFailed := !admissionTest s.sch.insts i s.now } := by
  have hadmit : s.takeDecision i = s.admitInst i false := by
    simp only [State.takeDecision, if_neg hc, hok, if_true]
  rw [hadmit, State.inst_admitInst hj, hok, Bool.not_true]

section
variable {i : Inst} {s : State} (hc : i.job.cls ≠ 0) (hfail : admissionTest s.sch.insts i s.now = false)
include hc hfail

/-- One that fails it before its latest start is deferred (R380). -/
theorem State.takeDecision_deferred {j : Inst} (hj : s.inst i.id = some j) (hnow : s.now < i.latestStart)
    (hst : i.st ≠ .deferred) : (s.takeDecision i).inst i.id = some { j with st := .deferred, deferred := true } := by
  unfold State.takeDecision
  simp only [if_neg hc, hfail, Bool.false_eq_true, if_false, if_pos hnow, if_neg hst]
  exact State.inst_modInst hj fun _ => rfl

/-- One that fails it at its latest start or after is shed with NO_SLACK (R380, R388). -/
theorem State.takeDecision_shed (hnow : i.latestStart ≤ s.now) : s.takeDecision i = s.endInst i.id 0x11 1#32 := by
  simp only [State.takeDecision, if_neg hc, hfail, Bool.false_eq_true, if_false, if_neg (Nat.not_lt.2 hnow)]

end

/-! ## The retest at the latest start (R381) -/

theorem execLatestStartRetest_deferred {job : Nat} {i : Inst} {s : State} (hi : s.jobInst job = some i)
    (hst : i.st = .deferred) :
    execLatestStartRetest job s = .next ((s.advanceTo i.latestStart).queueDecisions [i]) := by
  simp only [execLatestStartRetest, hi, hst, ne_eq, not_true_eq_false, if_false]

/-! ## The statement -/

/-- Settles O41, clause by clause: binding (`execJobBind_created`), release (`State.examineInputs_released`), the head of the
queue (`execAdmissionDecision_head`), and the cases of the first decision, of the test and of the retest. -/
theorem bindingAndAdmission : Obligations.BindingAndAdmission := by
  unfold Obligations.BindingAndAdmission
  refine ⟨?bind, ?release, ?note, ?head, ?first, ?test, ?retest⟩
  case bind => exact fun _ _ _ hi hst ht => execJobBind_created hi hst rfl ht
  case release =>
    intro id i s hi hst hlost hdone hnow
    rw [State.examineInputs_released hi hst hlost hdone hnow]
    intro u
    have hrel := State.inst_release hi
    refine ⟨?_, rfl, rfl, i.released s (s.anyDegraded i.bound), hrel, rfl, rfl, rfl, rfl, rfl⟩
    obtain ⟨q, hq, hid⟩ := State.waits_queueDecisions (State.mem_of_inst hrel) (List.mem_singleton_self _)
    exact ⟨q, hq, hid.trans (inst_id hrel)⟩
  case note => exact fun i s => ⟨fun h => s.lastBound_noteBound h, fun h => s.noteBound_unbound h⟩
  case head =>
    intro t id at_ l i s hq hi u w
    have hexec : exec (.admissionDecision t) s = _ := execAdmissionDecision_head hq hi t
    refine ⟨fun hlate => ?_, fun hnow hst => ?_, fun hnow hst => ?_⟩
    · rw [hexec, if_pos hlate]
      rfl
    · rw [hexec, if_neg (Nat.not_le.2 hnow), if_pos hst]
      rfl
    · rw [hexec, if_neg (Nat.not_le.2 hnow), if_neg (by simp [hst]), if_pos hst]
      rfl
  case first => exact fun i s htiles hclass hroom => State.firstDecide_tested htiles hclass hroom
  case test =>
    intro i j s hj
    refine ⟨fun h => ?admitted, fun hc hfail => ⟨fun hnow hst => ?deferred, State.takeDecision_shed hc hfail⟩⟩
    case admitted =>
      by_cases h0 : i.job.cls = 0
      · exact ⟨_, State.takeDecision_class0 hj h0, rfl, rfl, rfl⟩
      · exact ⟨_, State.takeDecision_passed hj h0 (h.resolve_left h0), rfl, rfl, rfl⟩
    case deferred => exact ⟨_, State.takeDecision_deferred hc hfail hj hnow hst, rfl, rfl⟩
  case retest => exact fun _ _ _ hi hst => execLatestStartRetest_deferred hi hst

end Sys2Proof.Machine
end

section
/-!
SUPPORT. The event recorder (R493 to R498, R510): the queue of events, the entry that a write stores or suppresses, the
entry that a read gives, and EventsAreQueuedAndWritten from them.
-/

namespace Sys2Proof.Machine

/-! ## The queue of events (R495) -/

theorem State.logEv_room {s : State} (h : s.evr.queue.length < 64) (code src arg : Nat) (inj : Bool) :
    s.logEv code src arg inj =
      { s with evr := { s.evr with queue := s.evr.queue ++ [mkEntry s code src arg inj] } } := if_pos h

theorem State.logEv_full {s : State} (h : 64 ≤ s.evr.queue.length) (code src arg : Nat) (inj : Bool) :
    s.logEv code src arg inj = { s with evr := { s.evr with
      lost := s.evr.lost + 1, lostPend := s.evr.lostPend + 1, events := setBit s.evr.events 0 } } :=
  if_neg (Nat.not_lt.2 h)

/-! ## The entry written (R493, R497) -/

theorem State.storeEntry_ring (s : State) (e : EvrEntry) (k : Nat) :
    tget {} (s.storeEntry e).evr.ring k =
      if k = s.evr.next.toNat % 4096 then { e with seq := s.evr.next } else tget {} s.evr.ring k := tget_tput ..

theorem State.storeEntry_upset (s : State) (e : EvrEntry) :
    tget 0 (s.storeEntry e).evr.upset (s.evr.next.toNat % 4096) = 0 :=
  tget_tput_same 0 s.evr.upset _ 0

/-- An entry that is never suppressed, or the first of its combination in the period, is stored; what the period has seen is
all that changes besides (R497, R498). -/
theorem State.writeEntry_stored {s : State} {e : EvrEntry}
    (h : alwaysCodes.contains e.code.toNat = true ∨ s.evr.seen.contains (entryKey e) = false) :
    ∃ seen, s.writeEntry e = { s.storeEntry e with evr := { (s.storeEntry e).evr with seen := seen } } := by
  rw [State.writeEntry]
  by_cases halways : alwaysCodes.contains e.code.toNat = true
  · exact ⟨s.evr.seen, if_pos halways⟩
  · have hnew : ¬s.evr.seen.contains (entryKey e) = true := by rw [h.resolve_left halways]; decide
    exact ⟨_, (if_neg halways).trans (if_neg hnew)⟩

/-- A repeat of the period is counted and not stored (R497). -/
theorem State.writeEntry_suppressed {s : State} {e : EvrEntry} (hcode : alwaysCodes.contains e.code.toNat = false)
    (hseen : s.evr.seen.contains (entryKey e) = true) :
    s.writeEntry e = { s with evr := { s.evr with
      suppressed := s.evr.suppressed + 1, suppPend := s.evr.suppPend + 1 } } :=
  (if_neg (Bool.eq_false_iff.mp hcode)).trans (if_pos hseen)

/-- A written entry loses no event. -/
@[simp] theorem State.writeEntry_lostPend (s : State) (e : EvrEntry) :
    (s.writeEntry e).evr.lostPend = s.evr.lostPend := by
  unfold State.writeEntry
  repeat' split
  all_goals rfl

/-- The state in which the head of the queue is written: the errors of the retention SRAM have arisen, the rest waits. -/
def State.atWrite (s : State) (upsets : List (Nat × Nat)) (rest : List EvrEntry) : State :=
  { s.upsetRing upsets with evr := { (s.upsetRing upsets).evr with queue := rest } }

/-- EVENT_ENTRY_WRITE with no loss to record writes the oldest event (R495). -/
theorem execEventEntryWrite_head {s : State} {e : EvrEntry} {l : List EvrEntry} (hawake : s.aon.mainReset = false)
    (hq : s.evr.queue = e :: l) (hlost : s.evr.lostPend = 0) (ups : List (Nat × Nat)) :
    execEventEntryWrite s ups = .next ((s.atWrite ups l).writeEntry e) := by
  have hq' : (s.upsetRing ups).evr.queue = e :: l := hq
  have hpend : ((s.atWrite ups l).writeEntry e).evr.lostPend = 0 :=
    ((s.atWrite ups l).writeEntry_lostPend e).trans hlost
  unfold State.atWrite at hpend ⊢
  rw [execEventEntryWrite, if_neg (by simp [hawake]), State.writeHead, hq']
  exact next_congr (if_pos hpend)

/-! ## The entry read (R445, R510) -/

/-- The sequence number of a ring index is that of an entry stored there (R493). -/
theorem Evr.seqAt_index (e : Evr) {i : Nat} (hi : i < 4096) : (e.seqAt i).toNat % 4096 = i := by
  unfold Evr.seqAt
  generalize e.next - 1 = newest
  have hlt := newest.isLt
  rw [BitVec.toNat_sub, BitVec.toNat_umod, BitVec.toNat_ofNat, show (4096 : Word).toNat = 4096 from rfl]
  omega

/-- The sequence number of a ring index is one of the newest 4096 (R493). -/
theorem Evr.seqAt_recent (e : Evr) (i : Nat) : (e.next - 1 - e.seqAt i).toNat < 4096 := by
  unfold Evr.seqAt
  generalize e.next - 1 = newest
  have hlt := newest.isLt
  rw [BitVec.toNat_sub, BitVec.toNat_sub, BitVec.toNat_umod, BitVec.toNat_ofNat,
    show (4096 : Word).toNat = 4096 from rfl]
  omega

section
variable {s : State} {i : Nat}

theorem State.readEntry_sound (h : tget 0 s.evr.upset i = 0) : s.readEntry i = (tget {} s.evr.ring i, s) := by
  simp only [State.readEntry, h]

theorem State.readEntry_corrected (h : tget 0 s.evr.upset i = 1) :
    s.readEntry i = (tget {} s.evr.ring i, s.reportEccCorr) := by
  simp only [State.readEntry, h]

/-- An uncorrectable entry is read as a DAMAGED one, and ECC_UNCORR is raised (R510). -/
theorem State.readEntry_damaged (h : 2 ≤ tget 0 s.evr.upset i) :
    (s.readEntry i).1.code = 0xFFFE#16 ∧ (s.readEntry i).1.seq = s.evr.seqAt i ∧
      (s.readEntry i).2.saf.faults = setBit s.saf.faults 1 ∧ (s.readEntry i).2.tiles = s.tiles := by
  obtain ⟨n, hn⟩ := Nat.exists_eq_add_of_le' h
  rw [State.readEntry, hn]
  obtain ⟨hfaults, -, -, htiles, -, -⟩ := State.report_dangerous (bit := 1) (by decide) 0xFF 0 false
    { s.takeFree.2.takeFree.2 with evr := { s.evr with events := setBit s.evr.events 4 } }
  exact ⟨rfl, rfl, hfaults, htiles⟩

end

/-! ## The statement -/

/-- Settles O26, clause by clause: the queue (`State.logEv_room`, `State.logEv_full`), the write of its head
(`execEventEntryWrite_head`) stored or suppressed (`State.writeEntry_stored`, `State.writeEntry_suppressed`), the read of an
entry, and the mark. -/
theorem eventsAreQueuedAndWritten : Obligations.EventsAreQueuedAndWritten := by
  unfold Obligations.EventsAreQueuedAndWritten
  refine ⟨?room, ?full, ?write, ?read, ?mark, ?ignored⟩
  case room => exact fun s code src arg inj h => State.logEv_room h code src arg inj
  case full =>
    intro s code src arg inj h
    rw [State.logEv_full h]
    exact ⟨rfl, rfl, rfl⟩
  case write =>
    intro s e l ups hawake hq hlost
    have hexec := execEventEntryWrite_head hawake hq hlost ups
    refine ⟨fun h => ?stored, fun hcode hseen => hexec.trans (next_congr ?suppressed)⟩
    case stored =>
      obtain ⟨seen, hwrite⟩ := State.writeEntry_stored (s := s.atWrite ups l) h
      refine ⟨_, hexec.trans (next_congr hwrite), rfl, rfl, State.storeEntry_upset _ e, ?_, fun k hk => ?_, rfl, rfl⟩
      · exact (State.storeEntry_ring ..).trans (if_pos rfl)
      · exact (State.storeEntry_ring ..).trans (if_neg hk)
    case suppressed => exact State.writeEntry_suppressed (s := s.atWrite ups l) hcode hseen
  case read =>
    intro s i hi
    refine ⟨State.readEntry_sound, State.readEntry_corrected, fun h => ?_⟩
    obtain ⟨hcode, hseq, hfaults, htiles⟩ := State.readEntry_damaged h
    rw [hseq]
    exact ⟨hcode, s.evr.seqAt_index hi, s.evr.seqAt_recent i, hfaults, htiles⟩
  case mark => exact fun path v s h => next_congr (if_pos h)
  case ignored => exact fun path v s h => next_congr (if_neg (Bool.eq_false_iff.mp h))

end Sys2Proof.Machine
end

section
/-!
SUPPORT. Fault injection (R452 to R457): the answer to a START and a CANCEL, the end of an injection, its application by
the code, and FaultInjection from them.
-/

namespace Sys2Proof.Machine

/-! ## Starting and ending (R452, R453, R456) -/

theorem State.injRefusal_closed {s : State} (h : s.injOpen = false) (code tile arg : Nat) :
    s.injRefusal code tile arg = 1 := if_pos (by simp [h])

/-- A write to SAF_INJ_CTRL that passes each of its tests is not ignored: the view, the key and START (R453). -/
theorem startWrite_taken {view key start : Bool} (hview : view = true) (hkey : key = true) (hstart : start = true) :
    ¬((!view || !key || !start) = true) := by
  subst hview hkey hstart
  decide

section
variable {path : Port} {v : Word} {s : State} {code tile arg : Nat} (hp : s.pview path = true) (hk : hasKey v = true)
  (hstart : v.getLsbD 0 = true) (hcode : code = bits s.saf.injSel.toNat 7 0) (htile : tile = bits s.saf.injSel.toNat 15 8)
  (harg : arg = bits s.saf.injSel.toNat 23 16)
include hp hk hstart hcode htile harg

/-- A keyed START that nothing refuses arms the selected injection (R452). -/
theorem execInjectionStart_arms (h : s.injRefusal code tile arg = 0) : execInjectionStart path v s =
    .next { s with saf := { s.saf with
      injCode := code, injTile := tile, injArg := arg, injRefuse := 0, injSeen := [], injInsts := [], injReal := false,
      injState := .armed } } := by
  subst hcode htile harg
  refine next_congr ((if_neg (startWrite_taken hp hk hstart)).trans ?_)
  dsimp only
  rw [h]
  rfl

/-- A keyed START refused as BUSY leaves the injection under way (R453). -/
theorem execInjectionStart_busy (h : s.injRefusal code tile arg = 2) : execInjectionStart path v s =
    .next { s with saf := { s.saf with injRefuse := 2 } } := by
  subst hcode htile harg
  exact next_congr ((if_neg (startWrite_taken hp hk hstart)).trans (if_pos h))

end

theorem execInjectionCancel_armed {path : Port} {v : Word} {s : State} (hp : s.pview path = true)
    (hk : hasKey v = true) (hcancel : v.getLsbD 1 = true) (harmed : s.saf.injState = .armed) :
    execInjectionCancel path v s = .next (s.endInj .cancelled) :=
  next_congr (if_pos (by rw [hp, hk, hcancel, harmed]; rfl))

theorem execInjectionLimitExpiry_applied {s : State} (h : s.saf.injState = .applied) (t : Nat) :
    execInjectionLimitExpiry t s = .next ((s.advanceTo t).endInj .missed).dropInjector :=
  next_congr (if_pos (by simp [h]))

/-- What the end of an injection leaves in SAF, and that it touches neither the tiles nor the period generator (R453). -/
theorem State.endInj_ends (s : State) (st : InjSt) : (s.endInj st).saf.injState = st ∧
    (s.endInj st).saf.injCount = (if st = .detected then s.saf.injCount + 1 else s.saf.injCount) ∧
    (s.endInj st).saf.injLatency = s.latencyNow ∧ (s.endInj st).tiles = s.tiles ∧ (s.endInj st).prd = s.prd := by
  simp [State.endInj]

/-! ## Application (R454, R457) -/

/-- The injection of a check value that stands applied is tried again (R454). -/
theorem execInjectionApply_retry {s : State} (happlied : s.saf.injState = .applied) (hcode : s.saf.injCode = 8)
    (t : Nat) (l : List Nat) (a : CapoIn) : execInjectionApply t l a s = .next ((s.advanceTo t).applyCheck l) :=
  next_congr (if_pos (by simp [State.injApplied, happlied, hcode]))

section
variable {s : State} (harmed : s.saf.injState = .armed) (t : Nat) (l : List Nat) (a : CapoIn)
include harmed

/-- The codes that the capo or a digest applies are left to it (R453). -/
theorem execInjectionApply_left (hcode : s.saf.injCode ∈ [3, 9, 0x0A, 0x0B]) : execInjectionApply t l a s = .next s :=
  next_congr ((if_neg (by simp [State.injApplied, harmed])).trans
    (if_pos (by rw [List.contains_iff_mem.2 hcode, Bool.or_true])))

/-- An armed injection of another code is applied by its branch of R454. -/
theorem execInjectionApply_armed {u : State} (hu : u = (s.advanceTo t).applyInj) :
    (∀ bit, tileReport s.saf.injCode = some bit → execInjectionApply t l a s = .next (u.applyTiles bit l)) ∧
    (s.saf.injCode = 8 → execInjectionApply t l a s = .next (u.applyCheck l)) ∧
    (s.saf.injCode = 0x0C → execInjectionApply t [] a s = .next ((u.report 11 0xFF 0 true).endInj .detected)) ∧
    (s.saf.injCode = 0x0D → execInjectionApply t [] a s = .next ((u.report 5 0xFF 0 true).endInj .detected)) ∧
    (s.saf.injCode ∈ [5, 6, 7] → execInjectionApply t [] a s = .next (u.applyAbort a)) := by
  have hretry : ¬s.injApplied 8 = true := by simp [State.injApplied, harmed]
  have hown (h : s.saf.injCode ∉ [3, 9, 0x0A, 0x0B]) :
      ¬(s.saf.injState != .armed || [3, 9, 0x0A, 0x0B].contains s.saf.injCode) = true := by
    simpa [harmed] using h
  subst hu
  simp only [execInjectionApply, if_neg hretry]
  refine ⟨fun bit h => ?tiles, fun h => ?check, fun h => ?dram, fun h => ?page, fun h => ?abort⟩
  case tiles =>
    have hcode : s.saf.injCode ∉ [3, 9, 0x0A, 0x0B] := fun hmem => by
      simp only [List.mem_cons, List.not_mem_nil, or_false] at hmem
      obtain hc | hc | hc | hc := hmem <;> simp [hc, tileReport] at h
    simp only [if_neg (hown hcode), h]
  case abort =>
    simp only [List.mem_cons, List.not_mem_nil, or_false] at h
    obtain h | h | h := h <;> rw [if_neg (hown (by simp [h])), h] <;> rfl
  all_goals
    rw [if_neg (hown (by simp [h])), h]
    rfl

end

/-! ## The statement -/

/-- Settles O51, clause by clause: START, CANCEL and the limit, the end of an injection (`State.endInj_ends`), and its
application by the code (`execInjectionApply_armed`, `execInjectionApply_left`). -/
theorem faultInjection : Obligations.FaultInjection := by
  unfold Obligations.FaultInjection
  refine ⟨?start, ?closed, ?cancel, ?limit, ?ends, ?apply, ?retry⟩
  case start =>
    exact fun path v s hp hk hstart => ⟨execInjectionStart_arms hp hk hstart rfl rfl rfl,
      execInjectionStart_busy hp hk hstart rfl rfl rfl⟩
  case closed => exact fun code tile arg s h => State.injRefusal_closed h code tile arg
  case cancel => exact fun path v s hp hk hcancel harmed => execInjectionCancel_armed hp hk hcancel harmed
  case limit => exact fun t s h => execInjectionLimitExpiry_applied h t
  case ends => exact fun st s => s.endInj_ends st
  case apply =>
    intro t l a s harmed u
    obtain ⟨htiles, hcheck, hdram, hpage, habort⟩ := execInjectionApply_armed harmed t l a (u := u) rfl
    exact ⟨hdram, hpage, fun h => htiles 17 (h ▸ rfl), fun h => htiles 1 (h ▸ rfl), fun h => htiles 2 (h ▸ rfl),
      hcheck, habort, execInjectionApply_left harmed t l a⟩
  case retry => exact fun t l a s happlied hcode => execInjectionApply_retry happlied hcode t l a

end Sys2Proof.Machine
end
